-- ==== Sys2Proof/Word.lean ====
section
/-! DEFINITION. The word types of the Norzac 7140 model: bytes, 16-bit and 32-bit words. -/

namespace Sys2Proof

/-- One byte of exchange memory, of a chain frame or of the SPI link. -/
abbrev Byte := BitVec 8

/-- A 16-bit word: frame numbers, alert sequence numbers, register arguments. -/
abbrev Half := BitVec 16

/-- A 32-bit word: pack time, registers, versions, detail words. -/
abbrev Word := BitVec 32

end Sys2Proof
end

