-- ==== Sys2Proof/Syntax.lean ====
section
/-! DEFINITION. The commands of the Norzac 7140: one constructor of `Instr` for each row of spec/opcode_table.json.
A command is an event at a block; its operands are what reaches the part from outside at that event. -/

namespace Sys2Proof

/-- The two chain ports (R1). -/
inductive Port where
  | a | b
deriving DecidableEq, Repr

/-- The three contactors (Chapter 6). -/
inductive Contactor where
  | pos | neg | pre
deriving DecidableEq, Repr

/-- The registers to which a write is ignored (R134). -/
inductive ReadOnlyRegister where
  | id | allocResult | queueState
deriving DecidableEq, Repr

/-- The levels of the input lines; `true` means asserted (for an aux input: CLOSED; for RING_EN: high). -/
structure PinLevels where
  ringEn   : Bool
  safeOpen : Bool
  tamperIn : Bool
  wakeIn   : Bool
  auxPos   : Bool
  auxNeg   : Bool
  auxPre   : Bool
deriving DecidableEq, Repr

/-- The levels of the two lines that an assertion of RESET_N samples: RING_EN (R1) and TAMPER_IN (R173). -/
structure ResetLevels where
  ringEn   : Bool
  tamperIn : Bool
deriving DecidableEq, Repr

/-- What the converters give at a sampling instant (R47 to R49): raw current in mA, pack and link voltage in mV. -/
structure RawSample where
  current : Int
  pack    : Int
  link    : Int
deriving DecidableEq, Repr

/-- The commands: every row of the table of operations and events. -/
inductive Instr where
  -- resets (R173, R94, R46)
  | powerOnReset (pins : PinLevels)
  | resetNAssertion (levels : ResetLevels)
  | resetNRelease (pins : PinLevels)
  -- SPI transactions and register writes (R133 to R137)
  | spiVoidTransaction (command : Byte)
  | spiTransactionEnd
  | registerWrite (register : ReadOnlyRegister) (value : Word)
  | attnWrite (value : Word)
  | attnMaskWrite (value : Word)
  | selectWrite (value : Word)
  | dataRead
  | dataWrite (value : Byte)
  -- immediate commands: the argument field of COMMAND (R126 to R130, R175)
  | allocate (argument : Half)
  | submit (argument : Half)
  | takeResult (argument : Half)
  | takeAlert (argument : Half)
  | release (argument : Half)
  | illegalCommand (code : Byte) (argument : Half)
  -- the Buffer Manager's own events (R123, R124)
  | allocationComplete
  | releaseComplete
  -- orders (R139): the lines that an owner's test reads are operands
  | orderHeadExamine (wakeIn tamperIn : Bool)
  | enumerateChain
  | readChainStatus
  | writeNode
  | readNode
  | startSampling
  | stopSampling
  | singleFrame
  | selectList
  | snapshotHistory
  | clearTrips (tamperIn : Bool)
  | closePack
  | openPack
  | enterSleep (wakeIn : Bool)
  | updateBegin
  | updateChunk
  | updateFinish
  | updateAbort
  | activateProfile
  | readProfileInfo
  -- the chain (R3 to R13, R20)
  | transmissionEnd
  | replyReceived (port : Port) (frame : List Byte)
  | chainBytePause (port : Port)
  | replyTimeout
  | ringWatchExpiry
  | ringFrameReturn (frame : List Byte)
  | keepaliveIdleExpiry
  | wakeToneQuietExpiry (port : Port)
  | chainOrderWaitTimeout
  -- the Frame Sequencer (R32, R34, R39)
  | frameTimerExpiry
  | waitExpiry
  | holdUntilExpiry
  | repollDelayExpiry
  -- sensing (R46, R52, R54)
  | sampleTimerExpiry (sample : RawSample)
  | historyEntryAtProtection
  | historyEntryAtContactor
  | burstRequest (sample : RawSample)
  | burstSample (sample : RawSample)
  -- protection (R85 to R89)
  | stalenessTimerExpiry
  | contactorStateReport
  | nodeLostReport
  | safeOpenAssertion
  | safeOpenDeassertion
  | tamperEventAtProtection
  -- contactors (R96 to R112)
  | killGateAssertion
  | killGateDeassertion
  | orderlyOpenDemand
  | auxInputEdge (contactor : Contactor) (closed : Bool)
  | auxLevelTaken (contactor : Contactor)
  | stepTimerExpiry
  | prechargeTimerExpiry
  | auxWatchExpiry (contactor : Contactor)
  -- the Alert Writer (R142)
  | alertArrival
  | alertRecordWritten
  -- sleep (R151 to R153)
  | lowPowerTick (wakeIn tamperIn : Bool)
  | maxSleepExpiry
  | wakeTimerExpiry
  | tamperInEdge
  -- the Profile Store (R164 to R172)
  | tamperEventAtProfile
  | eraseComplete (succeeded : Bool)
  | programComplete (succeeded : Bool)
  | verifyComplete
  | activationConditionReport
  | activationWaitTimeout
  | firstReplyByte (port : Port)
deriving DecidableEq, Repr

end Sys2Proof
end

