-- ==== Sys2Proof/Decode.lean ====
section
/-! DEFINITION. The command that the bytes of an SPI transaction spell (R133, R175). No row of the table gives bits, so
R175's are the only ones there are (log entry 9). -/

namespace Sys2Proof

/-- A command byte with one of bits 3 to 6 set makes its transaction void (R133, R175). -/
def voidByte (command : Byte) : Bool := (command &&& 0x78#8) != 0#8

/-- The direction of a command byte: 1 in bit 7 is a read (R175). -/
def readByte (command : Byte) : Bool := command.getLsbD 7

/-- The register index of a command byte, bits 0 to 2 (R175). -/
def registerIndex (command : Byte) : Nat := command.toNat % 8

/-- A write to COMMAND: its code and its argument (R126, R175). -/
def commandOf (code : Byte) (argument : Half) : Instr :=
  match code.toNat with
  | 1 => .allocate argument
  | 2 => .submit argument
  | 3 => .takeResult argument
  | 4 => .takeAlert argument
  | 5 => .release argument
  | _ => .illegalCommand code argument

/-- A write of a word to the register of an index, byte 0 the first byte (R134, R175); DATA takes that byte alone. -/
def writeOf (index : Nat) (value : Word) : Instr :=
  match index with
  | 0 => .registerWrite .id value
  | 1 => .attnWrite value
  | 2 => .attnMaskWrite value
  | 3 => .selectWrite value
  | 4 => .dataWrite (value.setWidth 8)
  | 5 => commandOf (value.setWidth 8) ((value >>> 16).setWidth 16)
  | 6 => .registerWrite .allocResult value
  | _ => .registerWrite .queueState value

/-- The command that a transaction of a command byte and `n` data bytes spells, the data bytes in a word, the first
lowest. A register read and a void transaction are the event of their command byte; a register write takes four bytes, a
DATA byte is one. -/
def transactionOf (command : Byte) (n : Nat) (data : Word) : Option Instr :=
  if n = 0 then some (.spiVoidTransaction command)
  else if voidByte command then some (.spiVoidTransaction command)
  else if registerIndex command = 4 then
    if n = 1 then some (if readByte command then .dataRead else writeOf 4 data) else none
  else if readByte command then some (.spiVoidTransaction command)
  else if n = 4 then some (writeOf (registerIndex command) data) else none

/-- The command that a word spells: the bytes of an SPI transaction, the command byte lowest, then no byte, one or four.
A word of another length spells none. -/
def decodeTableWord (nbits w : Nat) : Option Instr :=
  if nbits = 8 ∨ nbits = 16 ∨ nbits = 40 then
    transactionOf (BitVec.ofNat 8 w) (nbits / 8 - 1) (BitVec.ofNat 32 (w / 256))
  else none

end Sys2Proof
end

