-- ==== Sys2Proof/Config.lean ====
section
/-! DEFINITION. What an implementation of the 7140 fixes and the manual does not give: constants with no body. -/

namespace Sys2Proof

/-- What R162 says of the keyed tag: a change of the key, or of one byte, gives a different tag. -/
structure KeyedTag where
  tag          : BitVec 128 → List Byte → BitVec 128
  key_changes  : ∀ key key' bytes, key ≠ key' → tag key bytes ≠ tag key' bytes
  byte_changes : ∀ key before after (b b' : Byte), b ≠ b' →
    tag key (before ++ b :: after) ≠ tag key (before ++ b' :: after)

def KeyedTag.sumOf (bytes : List Byte) : BitVec 128 := bytes.foldr (fun b n => b.setWidth 128 + n) 0

theorem KeyedTag.sumOf_byte {b b' : Byte} (h : b ≠ b') (before after : List Byte) :
    KeyedTag.sumOf (before ++ b :: after) ≠ KeyedTag.sumOf (before ++ b' :: after) := by
  intro e
  apply h
  induction before with
  | nil =>
    have e : b.setWidth 128 = b'.setWidth 128 := by simpa [KeyedTag.sumOf] using e
    have e := congrArg BitVec.toNat e
    simp only [BitVec.toNat_setWidth] at e
    have := b.isLt
    have := b'.isLt
    exact BitVec.eq_of_toNat_eq (by omega)
  | cons x l ih => exact ih (by simpa [KeyedTag.sumOf] using e)

/-- Some function meets R162, so that `Config.integrityEngine` is not empty. The machine never runs this one. -/
def KeyedTag.sum : KeyedTag where
  tag key bytes := key + KeyedTag.sumOf bytes
  key_changes _ _ _ h e := h (by simpa using e)
  byte_changes _ before after _ _ h e := KeyedTag.sumOf_byte h before after (by simpa using e)

/-- The integrity engine (R161, R162). The manual gives no algorithm, so the constant has no body: that it meets R162
is all that can be proved of it (log entry 1). -/
opaque Config.integrityEngine : [Inhabited KeyedTag] → KeyedTag

/-- The 16-byte keyed tag of a byte sequence under the pack key (R161, R162). -/
def Config.keyedTag (key : BitVec 128) (bytes : List Byte) : BitVec 128 :=
  (@Config.integrityEngine ⟨KeyedTag.sum⟩).tag key bytes

/-- The revision byte of register ID (R134, R175), to which the manual gives no value (log entry 2). -/
opaque Config.revision : Byte

/-- The conversion offset kept when an IDENTITY word gives more than 255 µs, against R2: the manual states no result
(log entry 5). -/
opaque Config.offsetOf : Half → Byte

end Sys2Proof
end

