-- ==== Sys2Proof/Machine/State.lean ====
section
/-! DEFINITION. The whole state of the 7140 as plain data, block by block, the reasons a step can stop, and the state
right after power-on reset. -/

namespace Sys2Proof.Machine

open Sys2Proof

/-! ## Reasons a step can stop -/

/-- Faults. The part has no fault stop: what it cannot do it refuses itself (ACCESS_FAULT, command outcomes,
completion codes). -/
inductive Fault where
  /-- An access to an address outside the 24,576 bytes of exchange memory (R117). No meaning raises it, because
  the window refuses such an access itself (R135, R136). Safe. -/
  | outsideExchangeMemory (address : Nat)
deriving DecidableEq, Repr

/-- Refusals. -/
inductive Refusal where
  /-- Raised by `exec` for a row that has no meaning yet. Safe. -/
  | notModelled (mnemonic : String)
  /-- Raised by ILLEGAL_COMMAND for a code that names a command: such a term is another row's command (R175). Safe. -/
  | illFormed
deriving DecidableEq, Repr

/-! ## Small shared types -/

/-- One value for each contactor. -/
structure Triple (α : Type) where
  pos : α
  neg : α
  pre : α
deriving DecidableEq, Repr

/-- A timer: `none` is stopped, `some r` expires in `r` µs. -/
abbrev Timer := Option Nat

/-- Sequence List slots (R27). -/
inductive Slot where
  | slotA | slotB
deriving DecidableEq, Repr

/-- The five power states (R147). -/
inductive PowerState where
  | active | entering | asleep | patrol | waking
deriving DecidableEq, Repr

/-- Wake reasons in the order of R174. -/
inductive WakeReason where
  | noReason | wakeLine | tamper | maxSleep | patrolBreach | drain | supervision
deriving DecidableEq, Repr

/-- The cause of the last reset (R134). -/
inductive ResetCause where
  | powerOn | resetLine
deriving DecidableEq, Repr

/-- Completion codes in the order of Chapter 8's table (R141, R176). -/
inductive Completion where
  | ok | busy | refusedState | lockedOut | noSupervision | illegalOrder | malformed | range | aborted | timeout
  | sequenceError | incomplete | verifyFailed | writeFailed | staleVersion | stillActive | chainIncomplete
deriving DecidableEq, Repr

/-- The nineteen order kinds in the order of their codes (R176). -/
inductive OrderKind where
  | enumerateChain | readChainStatus | writeNode | readNode | startSampling | stopSampling | singleFrame | selectList
  | snapshotHistory | clearTrips | closePack | openPack | enterSleep | updateBegin | updateChunk | updateFinish
  | updateAbort | activateProfile | readProfileInfo
deriving DecidableEq, Repr

/-- Alert kinds in the order of their codes (R179). -/
inductive AlertKind where
  | trip | contactorFault | openedUnderCurrent | nodeLost | nodeRecovered | nodeCounterFull | chainBreak
  | chainMismatch | sequenceTrap | updateRejected | updateLocked | tamper
deriving DecidableEq, Repr

/-! ## Link Port (Chapter 8) -/

/-- The read-ahead byte: discarded by a DATA write transaction, refused, or captured (R135). -/
inductive ReadAhead where
  | discarded
  | refused
  | captured (value : Byte)
deriving DecidableEq, Repr

/-- What the SPI transaction in progress is (R133). -/
inductive SpiTransaction where
  | idle | void | registerRead | registerWrite | dataRead | dataWrite
deriving DecidableEq, Repr

/-- Outcomes of an immediate command in the order of R126. -/
inductive CommandOutcome where
  | ok | pending | refusedBusy | refusedState | refusedEmpty | range | illegal
deriving DecidableEq, Repr

/-- COMMAND's record of the last command taken. -/
structure LastCommand where
  code     : Byte
  argument : Half
  outcome  : CommandOutcome
deriving DecidableEq, Repr

/-- The write-behind byte and its target: a buffer number (0: the Fixed Area) and an offset (R136). -/
structure WriteBehind where
  number : Nat
  offset : Nat
  value  : Byte
deriving DecidableEq, Repr

structure Link where
  resetCause  : ResetCause
  transaction : SpiTransaction
  number      : Byte
  offset      : Half
  readAhead   : ReadAhead
  writeBehind : Option WriteBehind
  allocDone   : Bool
  accessFault : Bool
  alertLost   : Bool
  mask        : BitVec 6
  command     : LastCommand
  /-- The register value that a read shifts out, captured at its command byte (R133). -/
  capture     : Word
  /-- The model's own: the byte last shifted out on SDO by a DATA read or in a void transaction. -/
  sdo         : Byte
deriving DecidableEq, Repr

/-! ## Buffer Manager (Chapter 7) -/

/-- Buffer states (R118). -/
inductive BufferState where
  | free | held | orderQueued | inService | filling | resultQueued | alertQueued
deriving DecidableEq, Repr

/-- Allocation requesters (R118). -/
inductive Requester where
  | link | sampler | alert
deriving DecidableEq, Repr

/-- Reasons shown in ALLOC_RESULT (R175). -/
inductive AllocReason where
  | noReason | pending | noPages | noNumber | abandoned
deriving DecidableEq, Repr

/-- One Buffer Table entry; its capacity is 256 times the length of the page list (R118). -/
structure BufferEntry where
  state     : BufferState
  pages     : List Nat
  requester : Requester
  marked    : Bool
deriving DecidableEq, Repr

structure Pool where
  /-- Sequence List slots (addresses 256 to 767) and pool pages (1,024 to 24,575), in canonical form: addresses
  strictly rising and no byte 00h listed. Pages 0 and 3 are views of the fields they show. -/
  memory         : List Host.Cell
  table          : Vector BufferEntry 40
  orderQueue     : List Nat
  resultQueue    : List Nat
  alertQueue     : List Nat
  waitingLink    : Option Nat
  waitingSampler : Option Nat
  waitingAlert   : Bool
  inProgress     : Option (Requester × Nat)
  releaseList    : List Nat
  hostRelease    : Option Nat
  /-- The retained set's pool pages, between selection and the end of a wake (R131); pages 0 to 3 are in it always. -/
  retained       : Option (List Nat)
  discarded      : Nat
  allocNumber    : Nat
  allocReason    : AllocReason
  takenNumber    : Nat
  takenRequester : Requester
  takenPages     : Nat
  updateCount    : Half
deriving DecidableEq, Repr

/-! ## Alert Writer (Chapter 8) -/

/-- An alert as the Alert Writer holds it (R142). -/
structure Alert where
  kind     : AlertKind
  sequence : Half
  time     : Word
  power    : PowerState
  frame    : Half
  payload  : List Byte
deriving DecidableEq, Repr

structure AlertWriter where
  pending      : List Alert
  /-- The record being written, with its buffer. -/
  writing      : Option (Nat × Alert)
  /-- The sequence number of the last arrival. -/
  lastSequence : Half
  lostCount    : Nat
  firstLost    : Option AlertKind
deriving DecidableEq, Repr

/-! ## Chain Controller (Chapter 1) -/

inductive NodeState where
  | absent | present | degraded | lost
deriving DecidableEq, Repr

inductive Path where
  | pathA | pathB | noPath
deriving DecidableEq, Repr

inductive LastError where
  | noError | crc | timeout | nackBadBlock | nackBadValue
deriving DecidableEq, Repr

/-- One Node Table entry (R14). -/
structure NodeEntry where
  state        : NodeState
  path         : Path
  hops         : Nat
  cells        : Nat
  temps        : Nat
  offset       : Nat
  failedFrames : Nat
  crcCount     : Nat
  timeoutCount : Nat
  lastError    : LastError
  lastGood     : Half
  failedMark   : Bool
deriving DecidableEq, Repr

inductive RingState where
  | closed | opened | openEnded
deriving DecidableEq, Repr

inductive EnumStatus where
  | needed | running | matched | mismatched
deriving DecidableEq, Repr

/-- The four node data blocks in the order of R174. -/
inductive Block where
  | identity | cells | temps | status
deriving DecidableEq, Repr

/-- The groups of CONVERT and GATHER (R180). -/
inductive Group where
  | cells | temps | both
deriving DecidableEq, Repr

/-- The seven downstream frames and the tone (R4). -/
inductive ChainFrame where
  | convert (tag : Byte) (group : Group)
  | read (node : Nat) (block : Block) (words : Nat)
  | write (node : Nat) (block : Block) (value : Half)
  | enumerate (next : Nat)
  | forget
  | keepalive
  | sleep
  | wakeTone
deriving DecidableEq, Repr

/-- Who asked for the transaction in progress (R8); `discarded` when its requester has gone (R24, R157). -/
inductive ChainRequester where
  | breakLocation | sequencer | sleepController | order | ringCheck | discarded
deriving DecidableEq, Repr

/-- Phases of a transaction (R6): the frame is leaving the port, its reply is awaited, a reply has begun, or the ring
watch is running. -/
inductive EnginePhase where
  | sending | awaiting | receiving | watching
deriving DecidableEq, Repr

/-- The transaction in progress. -/
structure Engine where
  requester    : ChainRequester
  frame        : ChainFrame
  port         : Port
  phase        : EnginePhase
  attemptsLeft : Nat
  /-- The reply timeout of the profile at the grant, in µs (R25). -/
  timeout      : Nat
  /-- Failed attempts of an ENUMERATE, counted toward the node that then answers (R17). -/
  crcHeld      : Nat
  timeoutHeld  : Nat
  lastHeld     : LastError
deriving DecidableEq, Repr

/-- Break location in progress (R12): the port being probed, the next address, and the results `k` and `j`. -/
structure Location where
  onB  : Bool
  addr : Nat
  k    : Nat
  j    : Nat
deriving DecidableEq, Repr

/-- What the order in the chain's slot does next. -/
inductive ChainJob where
  | readNode (node : Nat) (block : Block) (words : Nat)
  | writeNode (node : Nat) (block : Block) (value : Half)
  | forget (port : Port)
  | assign (next : Nat)
  | identity (node : Nat)
  | ringTest
deriving DecidableEq, Repr

structure ChainOrder where
  buffer         : Nat
  job            : ChainJob
  /-- The ring state before the enumeration (R18). -/
  ringBefore     : RingState
  /-- Addresses whose identity was not read or not accepted (R17). -/
  badIdentity    : List Nat
  /-- A profile activation changed the CHAIN section during the enumeration (R18). -/
  chainChanged   : Bool
deriving DecidableEq, Repr

structure Chain where
  nodes        : Vector NodeEntry 20
  ringMode     : Bool
  ringState    : RingState
  breakPos     : Nat
  found        : Nat
  enumStatus   : EnumStatus
  issueA       : Option Word
  issueB       : Option Word
  engine       : Option Engine
  txTimer      : Timer
  replyTimer   : Timer
  watchTimer   : Timer
  quietA       : Timer
  quietB       : Timer
  idleTimer    : Timer
  /-- A CONVERT of the running frame made the ring OPEN: break location is due at its end (R12). -/
  breakDue     : Bool
  location     : Option Location
  seqRequest   : Option ChainFrame
  /-- The Sleep Controller's waiting SLEEP or WAKE_TONE. -/
  sleepRequest : Option ChainFrame
  slot         : Option ChainOrder
  waitTimer    : Timer
deriving DecidableEq, Repr

/-! ## Frame Sequencer and Time Base (Chapter 2) -/

inductive SamplerState where
  | stopped | waiting | running | halted
deriving DecidableEq, Repr

/-- An element as its eight bytes stand in the slot (R180). -/
structure Element where
  kind      : Nat
  flags     : Nat
  firstNode : Nat
  lastNode  : Nat
  group     : Nat
  argument  : Nat
  check     : Nat
deriving DecidableEq, Repr

inductive FrameKind where
  | normal | single | patrol
deriving DecidableEq, Repr

/-- Where the list stands: `gathering node temps repolls` awaits the read of a block (`temps`: the TEMPS block). -/
inductive ListPhase where
  | start
  | converting
  | gathering (node : Nat) (temps : Bool) (repolls : Nat)
  | writing (node : Nat)
  | waiting
  | holding
  | ended
deriving DecidableEq, Repr

/-- The frame-result buffer of a frame (R31). -/
inductive ResultBuffer where
  | notAsked
  | asked
  | granted (buffer : Nat)
  | dropped
deriving DecidableEq, Repr

/-- One node record of a frame result as sized at the frame start (R31). -/
structure ResultNode where
  node  : Nat
  cells : Nat
  temps : Nat
deriving DecidableEq, Repr

/-- The frame in progress. -/
structure Frame where
  kind        : FrameKind
  slot        : Slot
  first       : Nat
  last        : Nat
  index       : Nat
  phase       : ListPhase
  element     : Element
  result      : ResultBuffer
  stopCodes   : List Nat
  late        : Bool
  trapped     : Bool
  halted      : Bool
  trapIndex   : Nat
  stopArea    : Nat
  resultNodes : List ResultNode
deriving DecidableEq, Repr

/-- A SELECT_LIST waiting for the next frame start (R43). -/
structure PendingSwitch where
  slot  : Slot
  first : Nat
  last  : Nat
deriving DecidableEq, Repr

/-- The order in the Frame Sequencer's slot, with its buffer. -/
inductive SequencerOrder where
  | stop (buffer : Nat)
  | single (buffer : Nat)
  | select (buffer : Nat)
deriving DecidableEq, Repr

structure Sequencer where
  sampler       : SamplerState
  activeSlot    : Option Slot
  first         : Nat
  last          : Nat
  period        : Nat
  frameNumber   : Half
  tag           : Byte
  frameStart    : Word
  startDue      : Bool
  overruns      : Nat
  droppedFrames : Nat
  frameTimer    : Timer
  pendingSwitch : Option PendingSwitch
  slot          : Option SequencerOrder
  frame         : Option Frame
  elementTimer  : Timer
  repollTimer   : Timer
deriving DecidableEq, Repr

/-! ## Sensing Front End (Chapter 3) -/

/-- A Current History entry (R49). -/
structure HistoryEntry where
  tag     : Word
  current : Int
  packMv  : Nat
  linkMv  : Nat
  iSat    : Bool
  vSat    : Bool
deriving DecidableEq, Repr

structure Sensing where
  sampleTimer : Timer
  /-- The ring, oldest entry first; its length is the count. -/
  history     : List HistoryEntry
  burstCount  : Nat
  burstSum    : Int
  burstSat    : Bool
  burstTimer  : Timer
deriving DecidableEq, Repr

/-! ## Alignment Engine (Chapter 4) -/

inductive Mark where
  | notGathered | good | stale | failed
deriving DecidableEq, Repr

/-- The timing capture of a cell block (R60). -/
structure Capture where
  path   : Path
  hops   : Nat
  offset : Nat
  issue  : Option Word
deriving DecidableEq, Repr

/-- The node flags in the order of R59. -/
structure NodeFlags where
  currentAhead : Bool
  currentAged  : Bool
  noCurrent    : Bool
  currentSat   : Bool
  notTimed     : Bool
  vcSat        : Bool
  vcompSat     : Bool
  unaligned    : Bool
deriving DecidableEq, Repr

/-- One node slot of the Frame Table (R59). -/
structure NodeSlot where
  cellMark : Mark
  codes    : List Nat
  capture  : Option Capture
  tempMark : Mark
  temps    : List (BitVec 16)
  vc       : List Nat
  vcomp    : List Nat
  ts       : Option Word
  current  : Int
  flags    : NodeFlags
deriving DecidableEq, Repr

/-- An extreme value and where it was found. -/
structure Extreme where
  value   : Int
  node    : Nat
  channel : Nat
deriving DecidableEq, Repr

/-- The cell aggregates (R69). -/
structure CellFigures where
  minVcomp  : Extreme
  maxVcomp  : Extreme
  minVc     : Extreme
  maxVc     : Extreme
  sumVc     : Nat
  meanVcomp : Nat
  imbalance : Nat
deriving DecidableEq, Repr

/-- The temperature aggregates (R70). -/
structure TempFigures where
  minTemp : Extreme
  maxTemp : Extreme
deriving DecidableEq, Repr

inductive PlausOutcome where
  | notEvaluated | pass | violation
deriving DecidableEq, Repr

inductive PlausReason where
  | noReason | patrol | incomplete | noIssue | noHistory | vSat
deriving DecidableEq, Repr

/-- The figures of one hand-over (R72): the aggregate record. `place` is the evaluation's place in the frame, 1 to 32. -/
structure Aggregate where
  frameNumber : Half
  place       : Nat
  validCells  : Nat
  cells       : Option CellFigures
  temps       : Option TempFigures
  outcome     : PlausOutcome
  reason      : PlausReason
  packMv      : Nat
  cellMv      : Nat
  packAhead   : Bool
  packAged    : Bool
  /-- Addresses that contributed valid cells. -/
  contributed : List Nat
deriving DecidableEq, Repr

/-- What the Alignment Engine does (R61). -/
inductive AlignState where
  | idle | awaitingReport
deriving DecidableEq, Repr

structure FrameTable where
  slots     : Vector NodeSlot 20
  issueA    : Option Word
  issueB    : Option Word
  evalCount : Nat
  aggregate : Option Aggregate
  align     : AlignState
deriving DecidableEq, Repr

/-! ## Protection Monitor (Chapter 5) -/

/-- The eleven trip kinds in mask order (R176). -/
inductive TripKind where
  | cellOv | cellUv | cellUvAbs | tempHigh | tempLow | plausibility | currentDischarge | currentCharge
  | supervisionLoss | safeLine | tamper
deriving DecidableEq, Repr

inductive TripAction where
  | alertOnly | orderlyOpen | immediateOpen
deriving DecidableEq, Repr

structure Protection where
  /-- Persistence counters of the eight evaluated kinds, in mask order. -/
  counters       : Vector Nat 8
  /-- A set latch holds its latched action. -/
  latches        : Vector (Option TripAction) 11
  stale          : Bool
  stalenessTimer : Timer
  lastEvaluation : Option Word
  /-- A tamper event held until the power state becomes ACTIVE (R153). -/
  tamperHeld     : Bool
deriving DecidableEq, Repr

/-! ## Contactor Sequencer (Chapter 6) -/

inductive ContactorState where
  | opened | negClosing | precharging | posClosing | preReleasing | closed | holdoff | posOpening | weldCheck
  | negOpening | faulted
deriving DecidableEq, Repr

/-- Sub-kinds of a contactor fault (R114). -/
inductive FaultKind where
  | feedback | dropout | weld | prechargeTimeout
deriving DecidableEq, Repr

/-- Causes of an opening (section 6.4). -/
inductive OpenCause where
  | openOrder | orderly | kill | dropout | feedback | prechargeTimeout
deriving DecidableEq, Repr

/-- An edge log entry (R96). -/
structure Edge where
  closed : Bool
  time   : Word
deriving DecidableEq, Repr

/-- A running hold or watch timer and the pack time at which it started. -/
structure StampedTimer where
  remaining : Nat
  since     : Word
deriving DecidableEq, Repr

structure Contactors where
  state           : ContactorState
  commands        : Triple Bool
  /-- Levels last taken; `true` is CLOSED. -/
  aux             : Triple Bool
  holds           : Triple (Option StampedTimer)
  logs            : Triple (List Edge)
  stepTimer       : Timer
  stepStart       : Word
  prechargeTimer  : Timer
  prechargeStart  : Word
  prechargeMs     : Nat
  watches         : Triple (Option StampedTimer)
  cause           : Option OpenCause
  /-- The fault record: bit 3 × sub-kind + contactor, as in the Status Block (R180). -/
  faults          : BitVec 12
  weldUnchecked   : Bool
  entry           : Option HistoryEntry
  closeSlot       : Option Nat
  openSlot        : Option Nat
deriving DecidableEq, Repr

/-! ## Sleep Controller (Chapter 9) -/

/-- The patrol settings (R148). -/
structure PatrolSettings where
  interval : Nat
  maxSleep : Nat
  slot     : Slot
  first    : Nat
  last     : Nat
deriving DecidableEq, Repr

/-- The step of sleep entry, patrol or wake in progress (R149, R154, R158). -/
inductive SleepPhase where
  | idle | entrySleep | entryRelease | patrolTone | patrolBurst | patrolFrame | patrolSleep | wakeTone
deriving DecidableEq, Repr

/-- The breach set of a patrol (R155). -/
structure Breaches where
  vcHigh    : Bool
  vcLow     : Bool
  tempHigh  : Bool
  imbalance : Bool
deriving DecidableEq, Repr

/-- The trap of a list: index, kind byte and reason code (R37). -/
structure Trap where
  index  : Nat
  kind   : Nat
  reason : Nat
deriving DecidableEq, Repr

/-- What the patrol in progress has found so far. -/
structure Patrol where
  start    : Word
  late     : Bool
  mean     : Int
  burstSat : Bool
  packMv   : Nat
  linkMv   : Nat
  record   : Option Aggregate
  breaches : Breaches
  trap     : Option Trap
deriving DecidableEq, Repr

/-- A patrol summary entry; `flags` in the bit order of R156. -/
structure SummaryEntry where
  time    : Word
  minVc   : Nat
  maxVc   : Nat
  maxTemp : Int
  flags   : BitVec 13
  mean    : Int
deriving DecidableEq, Repr

/-- The Sleep Page (R156, R180). -/
structure SleepPage where
  settings    : PatrolSettings
  trap        : Option Trap
  lastReason  : WakeReason
  patrolCount : Word
  failed      : BitVec 20
  entryTime   : Word
  duration    : Nat
  wakeTime    : Word
  ringCount   : Nat
  newest      : Nat
  ring        : Vector SummaryEntry 8
deriving DecidableEq, Repr

/-- The ENTER_SLEEP order in service. -/
structure SleepOrder where
  buffer  : Nat
  clamped : Bool
deriving DecidableEq, Repr

structure Sleep where
  power          : PowerState
  wakeOut        : Bool
  timersRunning  : Bool
  wakeCount      : Nat
  maxCount       : Nat
  patrolDue      : Bool
  tamperLatch    : Option Word
  tamperEdges    : Nat
  settings       : PatrolSettings
  pendingReason  : Option WakeReason
  nodesAsleep    : Bool
  failedSet      : BitVec 20
  wakeCompletion : Nat
  lastReason     : WakeReason
  /-- The sleep duration at the arrival of the wake reason, in s (R157). -/
  duration       : Nat
  slot           : Option SleepOrder
  phase          : SleepPhase
  patrol         : Option Patrol
  page           : SleepPage
deriving DecidableEq, Repr

/-! ## Profile Store (Chapter 10) -/

inductive BankState where
  | empty | writing | written | valid | active | invalid | stale
deriving DecidableEq, Repr

inductive Bank where
  | bankA | bankB
deriving DecidableEq, Repr

/-- A bank: its record, and the bytes programmed so far from offset 0. -/
structure BankContent where
  state    : BankState
  version  : Word
  sequence : Word
  length   : Nat
  image    : List Byte
deriving DecidableEq, Repr

inductive SessionState where
  | idle | receiving | verifying | verified | activationPending | locked
deriving DecidableEq, Repr

/-- The values of a profile (R162, R181). -/
structure Profile where
  -- CHAIN
  declared      : Nat
  cellCounts    : List Nat
  tempCounts    : List Nat
  hopDelay      : Nat
  replyTimeout  : Nat
  retryLimit    : Nat
  lossThreshold : Nat
  -- CALIB
  shuntGain     : Int
  shuntOffset   : Int
  gains         : List Int
  offsets       : List Int
  resistances   : List (List Nat)
  -- LIMITS
  cellOv        : Nat
  cellUv        : Nat
  cellUvAbs     : Nat
  tempHigh      : Int
  tempLow       : Int
  supervision   : Nat
  dischargeMax  : Nat
  chargeMax     : Nat
  plausibility  : Nat
  alertReserve  : Nat
  openOnLoss    : Bool
  persistence   : List Nat
  /-- Actions of the ten kinds other than SAFE_LINE, in mask order. -/
  actions       : List TripAction
  -- CONTACTOR
  window        : Nat
  prechargeMax  : Nat
  holdoff       : Nat
  weldWindow    : Nat
  interrupt     : Nat
  ratio         : Nat
  weldFraction  : Nat
  -- SLEEP
  sleepMaxVc    : Nat
  sleepMinVc    : Nat
  sleepTemp     : Int
  sleepImbalance : Nat
  drain         : Nat
  -- FRAME
  defaultPeriod : Nat
deriving DecidableEq, Repr

/-- The order in the Profile Store's slot. -/
inductive ProfileOrder where
  | erase (buffer : Nat)
  | program (buffer : Nat) (offset : Nat) (bytes : List Byte)
  | verify (buffer : Nat)
  | activate (buffer : Nat)
deriving DecidableEq, Repr

structure ProfileStore where
  bankA       : BankContent
  bankB       : BankContent
  floor       : Word
  packKey     : BitVec 128
  inUse       : Profile
  rejected    : Nat
  session     : SessionState
  declVersion : Word
  declLength  : Nat
  nextOffset  : Nat
  chainChange : Bool
  slot        : Option ProfileOrder
  waitTimer   : Timer
deriving DecidableEq, Repr

/-! ## Events on their way between blocks

The model's own: what one block has handed to another and the other has not yet taken. -/

structure Transit where
  /-- Kill-gate edges for the Contactor Sequencer, `true` an assertion (R85). -/
  killEdges    : List Bool
  /-- Orderly-open demands for the Contactor Sequencer (R83). -/
  demands      : Nat
  /-- Reports to the Protection Monitor of moves out of (`true`) or into OPEN (R95). -/
  openReports  : List Bool
  /-- Node-loss reports: the lowest address lost (R87). -/
  nodeLosses   : List Nat
  toProtection : List HistoryEntry
  toContactors : List HistoryEntry
  /-- Alerts raised and not yet arrived at the Alert Writer. -/
  alerts       : List (AlertKind × List Byte)
  burst        : Bool
  /-- Reports of sampler and contactor changes while an activation waits (R168). -/
  activation   : Nat
deriving DecidableEq, Repr

/-! ## The input lines and the clocks -/

structure Inputs where
  pins    : PinLevels
  /-- The model's own: the sense inputs as last sampled. -/
  sense   : RawSample
  /-- RESET_N is asserted. -/
  inReset : Bool
deriving DecidableEq, Repr

structure Clock where
  packTime : Word
  /-- µs to the next tick of the low-power clock. -/
  tick     : Nat
deriving DecidableEq, Repr

/-- The machine. -/
structure State where
  clock   : Clock
  inputs  : Inputs
  link    : Link
  pool    : Pool
  alerts  : AlertWriter
  chain   : Chain
  seq     : Sequencer
  sensing : Sensing
  table   : FrameTable
  prot    : Protection
  cont    : Contactors
  sleep   : Sleep
  store   : ProfileStore
  transit : Transit
  pending : List Instr
deriving DecidableEq, Repr

/-! ## Reset values -/

def BufferEntry.reset : BufferEntry := ⟨.free, [], .link, false⟩

def NodeEntry.reset : NodeEntry := ⟨.absent, .noPath, 0, 0, 0, 0, 0, 0, 0, .noError, 0, false⟩

def NodeFlags.clear : NodeFlags := ⟨false, false, false, false, false, false, false, false⟩

def NodeSlot.reset : NodeSlot := ⟨.notGathered, [], none, .notGathered, [], [], [], none, 0, .clear⟩

def FrameTable.reset : FrameTable := ⟨Vector.replicate 20 .reset, none, none, 0, none, .idle⟩

def SummaryEntry.reset : SummaryEntry := ⟨0, 0, 0, 0, 0, 0⟩

def PatrolSettings.reset : PatrolSettings := ⟨0, 0, .slotA, 0, 0⟩

def Breaches.clear : Breaches := ⟨false, false, false, false⟩

def SleepPage.reset : SleepPage :=
  ⟨.reset, none, .noReason, 0, 0, 0, 0, 0, 0, 0, Vector.replicate 8 .reset⟩

def PinLevels.idle : PinLevels := ⟨false, false, false, false, false, false, false⟩

/-- The Link Port's registers after a reset (R134) or at power-up (R138), with nothing fetched yet. COMMAND's argument is 0:
R134 and R138 give its number and outcome alone (DESIGN CHOICE, log entry 60). -/
def Link.reset (cause : ResetCause) : Link where
  resetCause := cause
  transaction := .idle
  number := 0
  offset := 0
  readAhead := .discarded
  writeBehind := none
  allocDone := false
  accessFault := false
  alertLost := false
  mask := 0b111110
  command := ⟨0, 0, .ok⟩
  capture := 0
  sdo := 0

/-- The Buffer Manager after a reset (R117, R118, R120, R126, R131), the update count before its one rise. The requester
and the page count of ALLOC_RESULT's taken part are LINK and 0: R126 gives the taken number alone (DESIGN CHOICE, log
entry 60). -/
def Pool.reset : Pool where
  memory := []
  table := Vector.replicate 40 .reset
  orderQueue := []
  resultQueue := []
  alertQueue := []
  waitingLink := none
  waitingSampler := none
  waitingAlert := false
  inProgress := none
  releaseList := []
  hostRelease := none
  retained := none
  discarded := 0
  allocNumber := 0
  allocReason := .noReason
  takenNumber := 0
  takenRequester := .link
  takenPages := 0
  updateCount := 0

def AlertWriter.reset : AlertWriter := ⟨[], none, 0, 0, none⟩

/-- The Chain Controller after a reset with RING_EN at the level given (R14). -/
def Chain.reset (ringEn : Bool) : Chain where
  nodes := Vector.replicate 20 .reset
  ringMode := ringEn
  ringState := if ringEn then .closed else .openEnded
  breakPos := 0
  found := 0
  enumStatus := .needed
  issueA := none
  issueB := none
  engine := none
  txTimer := none
  replyTimer := none
  watchTimer := none
  quietA := none
  quietB := none
  idleTimer := some 50000
  breakDue := false
  location := none
  seqRequest := none
  sleepRequest := none
  slot := none
  waitTimer := none

/-- The Frame Sequencer after a reset; the period in use is the profile's default (R27). -/
def Sequencer.reset (period : Nat) : Sequencer where
  sampler := .stopped
  activeSlot := none
  first := 0
  last := 0
  period := period
  frameNumber := 0
  tag := 0
  frameStart := 0
  startDue := false
  overruns := 0
  droppedFrames := 0
  frameTimer := none
  pendingSwitch := none
  slot := none
  frame := none
  elementTimer := none
  repollTimer := none

def Sensing.reset : Sensing := ⟨none, [], 0, 0, false, none⟩

def Protection.reset : Protection :=
  ⟨Vector.replicate 8 0, Vector.replicate 11 none, true, none, none, false⟩

/-- The Contactor Sequencer after a reset, the aux levels not yet sampled (R95). -/
def Contactors.reset : Contactors where
  state := .opened
  commands := ⟨false, false, false⟩
  aux := ⟨false, false, false⟩
  holds := ⟨none, none, none⟩
  logs := ⟨[], [], []⟩
  stepTimer := none
  stepStart := 0
  prechargeTimer := none
  prechargeStart := 0
  prechargeMs := 0
  watches := ⟨none, none, none⟩
  cause := none
  faults := 0
  weldUnchecked := false
  entry := none
  closeSlot := none
  openSlot := none

/-- The Sleep Controller after a reset (R147). -/
def Sleep.reset : Sleep where
  power := .active
  wakeOut := false
  timersRunning := false
  wakeCount := 0
  maxCount := 0
  patrolDue := false
  tamperLatch := none
  tamperEdges := 0
  settings := .reset
  pendingReason := none
  nodesAsleep := false
  failedSet := 0
  wakeCompletion := 0
  lastReason := .noReason
  duration := 0
  slot := none
  phase := .idle
  patrol := none
  page := .reset

def Transit.empty : Transit := ⟨[], 0, [], [], [], [], [], false, 0⟩

/-- The vendor default profile (R77, R25, R123 and section 6 give its LIMITS, part of CHAIN and CONTACTOR; the rest is
the model's, log entry 3). -/
def Profile.vendorDefault : Profile where
  declared := 1
  cellCounts := [1]
  tempCounts := [0]
  hopDelay := 2
  replyTimeout := 120
  retryLimit := 3
  lossThreshold := 4
  shuntGain := 0
  shuntOffset := 0
  gains := [0]
  offsets := [0]
  resistances := [[0]]
  cellOv := 42500
  cellUv := 30000
  cellUvAbs := 25000
  tempHigh := 600
  tempLow := -300
  supervision := 500
  dischargeMax := 1500000
  chargeMax := 1950000
  plausibility := 5000
  alertReserve := 8
  openOnLoss := true
  persistence := [3, 3, 3, 3, 3, 3, 4, 4]
  actions := [.orderlyOpen, .alertOnly, .orderlyOpen, .orderlyOpen, .alertOnly, .alertOnly, .immediateOpen,
    .immediateOpen, .orderlyOpen, .alertOnly]
  window := 30
  prechargeMax := 1000
  holdoff := 500
  weldWindow := 100
  interrupt := 50000
  ratio := 95
  weldFraction := 50
  sleepMaxVc := 0
  sleepMinVc := 0
  sleepTemp := 0
  sleepImbalance := 0
  drain := 0
  defaultPeriod := 10

/-- The vendor default profile as an image (R181): header, CHAIN, CALIB, LIMITS, CONTACTOR, SLEEP, FRAME and 16 bytes
of tag, which nothing reads in an ACTIVE bank (log entry 3). -/
def Profile.vendorImage : List Byte :=
  [0x01, 0x00, 136, 0x00, 0, 0, 0, 0, 10, 0, 10, 0, 44, 0, 16, 0, 12, 0, 4, 0, 0, 0, 0, 0] ++
  [1, 2, 120, 0, 3, 4, 0, 0, 1, 0] ++
  [0, 0, 0, 0, 0, 0, 0, 0, 0, 0] ++
  [0x04, 0xA6, 0x30, 0x75, 0xA8, 0x61, 0x58, 0x02, 0xD4, 0xFE, 0xF4, 0x01, 0x60, 0xE3, 0x16, 0x00,
   0x30, 0xC1, 0x1D, 0x00, 0x88, 0x13, 8, 1, 3, 3, 3, 3, 3, 3, 4, 4, 2, 1, 2, 2, 1, 1, 3, 3, 2, 1, 0, 0] ++
  [30, 0, 0xE8, 0x03, 0xF4, 0x01, 100, 0, 0x50, 0xC3, 0x00, 0x00, 95, 50, 0, 0] ++
  [0, 0, 0, 0, 0, 0, 0, 0, 0, 0, 0, 0] ++
  [10, 0, 0, 0] ++
  List.replicate 16 0

/-- The factory state of the Profile Store (R160): bank A ACTIVE with the vendor default profile and activation
sequence 1, bank B EMPTY, the floor at the default's version. -/
def ProfileStore.factory : ProfileStore where
  bankA := ⟨.active, 0, 1, 136, Profile.vendorImage⟩
  bankB := ⟨.empty, 0, 0, 0, []⟩
  floor := 0
  packKey := 0
  inUse := Profile.vendorDefault
  rejected := 0
  session := .idle
  declVersion := 0
  declLength := 0
  nextOffset := 0
  chainChange := false
  slot := none
  waitTimer := none

/-- The machine right after power-on reset in the factory state, every input line deasserted (log entry 4): the sample
timer is running, the WAKE_TONE of R147 is leaving port A, the read-ahead byte is the first byte of the Status Block,
and the update count reads 1 (R145). -/
def State.reset : State where
  clock := ⟨0, 1000⟩
  inputs := ⟨PinLevels.idle, ⟨0, 0, 0⟩, false⟩
  link := { Link.reset .powerOn with readAhead := .captured 1 }
  pool := { Pool.reset with updateCount := 1 }
  alerts := AlertWriter.reset
  chain := { Chain.reset false with
    engine := some ⟨.sleepController, .wakeTone, .a, .sending, 0, 120, 0, 0, .noError⟩
    txTimer := some 500
    idleTimer := none }
  seq := Sequencer.reset Profile.vendorDefault.defaultPeriod
  sensing := { Sensing.reset with sampleTimer := some 250 }
  table := FrameTable.reset
  prot := Protection.reset
  cont := Contactors.reset
  sleep := Sleep.reset
  store := ProfileStore.factory
  transit := Transit.empty
  pending := []

end Sys2Proof.Machine
end

