-- ==== Sys2Proof/Machine/Arith.lean ====
section
/-! DEFINITION. Whole-number arithmetic with the manual's roundings, byte order, field packing and the chain CRC. -/

namespace Sys2Proof.Machine

open Sys2Proof

/-- "Rounded half away from zero" (00_scope, Arithmetic). -/
def roundAway (n : Int) (d : Nat) : Int :=
  let q : Int := ((2 * n.natAbs + d) / (2 * d) : Nat)
  if n < 0 then -q else q

/-- "Rounded half up" of a quotient of natural numbers. -/
def roundUp (n d : Nat) : Nat := (2 * n + d) / (2 * d)

/-- A count that stays at its limit once it gets there. -/
def satAdd (limit : Nat) (n k : Nat) : Nat := min limit (n + k)

/-- Brings an integer into 0 to 65,535 and says whether it had to (R63, R67). -/
def clamp16 (v : Int) : Nat × Bool :=
  if v < 0 then (0, true) else if 65535 < v then (65535, true) else (v.toNat, false)

/-- The low `k` bytes of a number, least significant first (R174). -/
def leBytes : Nat → Nat → List Byte
  | 0, _ => []
  | k + 1, v => BitVec.ofNat 8 v :: leBytes k (v / 256)

/-- A signed field in two's complement, least significant byte first (R174). -/
def leSigned (k : Nat) (v : Int) : List Byte := leBytes k (v % (2 ^ (8 * k) : Nat)).toNat

/-- The number a little-endian byte sequence spells. -/
def ofLe : List Byte → Nat
  | [] => 0
  | b :: rest => b.toNat + 256 * ofLe rest

/-- The signed number a little-endian byte sequence spells in two's complement. -/
def ofLeSigned (bs : List Byte) : Int :=
  let v := ofLe bs
  if 2 * v < 2 ^ (8 * bs.length) then v else (v : Int) - (2 ^ (8 * bs.length) : Nat)

/-- The `k` bytes from offset `i`, with 00h past the end. -/
def slice (bs : List Byte) (i : Nat) : Nat → List Byte
  | 0 => []
  | k + 1 => (bs[i]?).getD 0 :: slice bs (i + 1) k

/-- The 16-bit number at offset `i`. -/
def u8 (bs : List Byte) (i : Nat) : Nat := ofLe (slice bs i 1)
def u16 (bs : List Byte) (i : Nat) : Nat := ofLe (slice bs i 2)
def u32 (bs : List Byte) (i : Nat) : Nat := ofLe (slice bs i 4)
def s16 (bs : List Byte) (i : Nat) : Int := ofLeSigned (slice bs i 2)

/-- Fields of a payload or detail word that Chapter 11 does not lay out: each takes its size (1, 2 or 4) and starts at
the next offset that is a multiple of it (R174). -/
def packFields (fields : List (Nat × Int)) : List Byte :=
  fields.foldl (fun acc f =>
    let gap := (f.1 - acc.length % f.1) % f.1
    acc ++ List.replicate gap 0 ++ leSigned f.1 f.2) []

/-- A detail word from its bytes. -/
def detailOf (bs : List Byte) : Word := BitVec.ofNat 32 (ofLe (slice bs 0 4))

/-- A detail word of fields packed by R174. -/
def packDetail (fields : List (Nat × Int)) : Word := detailOf (packFields fields)

/-- One bit of a chain CRC: the generator is x^16 + x^12 + x^5 + 1 (R3). -/
def crcBit (r : BitVec 16) : BitVec 16 :=
  if r.msb then (r <<< 1) ^^^ 0x1021#16 else r <<< 1

def crcBits : Nat → BitVec 16 → BitVec 16
  | 0, r => r
  | k + 1, r => crcBits k (crcBit r)

/-- The chain CRC: register FFFFh, each byte most significant bit first, no final inversion (R3). -/
def crc16 (bs : List Byte) : BitVec 16 :=
  bs.foldl (fun r b => crcBits 8 (r ^^^ ((b.setWidth 16 : BitVec 16) <<< 8))) 0xFFFF#16

/-- The two bytes of a 16-bit chain field, high byte first (R182). -/
def beHalf (v : Half) : List Byte := [(v >>> 8).setWidth 8, v.setWidth 8]

/-- The age of instant `t` measured back from `reference`, modulo 2^32 (R26). -/
def age (reference t : Word) : Nat := (reference - t).toNat

end Sys2Proof.Machine
end

