-- ==== Sys2Proof/Machine/Codes.lean ====
section
/-! DEFINITION. The numeric codes of states, kinds and reasons (R174 to R180): a code that no table of Chapter 11
numbers is the place in the list that the owner's chapter gives first, counting from 0. -/

namespace Sys2Proof.Machine

open Sys2Proof

def boolCode (b : Bool) : Nat := if b then 1 else 0

def slotCode : Slot → Nat
  | .slotA => 0 | .slotB => 1

/-- The slot a parameter byte names (R174). -/
def slotOf : Nat → Option Slot
  | 0 => some .slotA
  | 1 => some .slotB
  | _ => none

def powerCode : PowerState → Nat
  | .active => 0 | .entering => 1 | .asleep => 2 | .patrol => 3 | .waking => 4

def wakeReasonCode : WakeReason → Nat
  | .noReason => 0 | .wakeLine => 1 | .tamper => 2 | .maxSleep => 3 | .patrolBreach => 4 | .drain => 5
  | .supervision => 6

def resetCauseCode : ResetCause → Nat
  | .powerOn => 0 | .resetLine => 1

def completionCode : Completion → Nat
  | .ok => 0 | .busy => 1 | .refusedState => 2 | .lockedOut => 3 | .noSupervision => 4 | .illegalOrder => 5
  | .malformed => 6 | .range => 7 | .aborted => 8 | .timeout => 9 | .sequenceError => 10 | .incomplete => 11
  | .verifyFailed => 12 | .writeFailed => 13 | .staleVersion => 14 | .stillActive => 15 | .chainIncomplete => 16

def alertKindCode : AlertKind → Nat
  | .trip => 1 | .contactorFault => 2 | .openedUnderCurrent => 3 | .nodeLost => 4 | .nodeRecovered => 5
  | .nodeCounterFull => 6 | .chainBreak => 7 | .chainMismatch => 8 | .sequenceTrap => 9 | .updateRejected => 10
  | .updateLocked => 11 | .tamper => 12

def outcomeCode : CommandOutcome → Nat
  | .ok => 0 | .pending => 1 | .refusedBusy => 2 | .refusedState => 3 | .refusedEmpty => 4 | .range => 5
  | .illegal => 6

def requesterCode : Requester → Nat
  | .link => 0 | .sampler => 1 | .alert => 2

def allocReasonCode : AllocReason → Nat
  | .noReason => 0 | .pending => 1 | .noPages => 2 | .noNumber => 3 | .abandoned => 4

def nodeStateCode : NodeState → Nat
  | .absent => 0 | .present => 1 | .degraded => 2 | .lost => 3

def pathCode : Path → Nat
  | .pathA => 0 | .pathB => 1 | .noPath => 2

def lastErrorCode : LastError → Nat
  | .noError => 0 | .crc => 1 | .timeout => 2 | .nackBadBlock => 3 | .nackBadValue => 4

def ringStateCode : RingState → Nat
  | .closed => 0 | .opened => 1 | .openEnded => 2

def enumStatusCode : EnumStatus → Nat
  | .needed => 0 | .running => 1 | .matched => 2 | .mismatched => 3

def blockCode : Block → Nat
  | .identity => 0 | .cells => 1 | .temps => 2 | .status => 3

def blockOf : Nat → Option Block
  | 0 => some .identity
  | 1 => some .cells
  | 2 => some .temps
  | 3 => some .status
  | _ => none

def groupCode : Group → Nat
  | .cells => 1 | .temps => 2 | .both => 3

def groupOf : Nat → Option Group
  | 1 => some .cells
  | 2 => some .temps
  | 3 => some .both
  | _ => none

def samplerCode : SamplerState → Nat
  | .stopped => 0 | .waiting => 1 | .running => 2 | .halted => 3

def markCode : Mark → Nat
  | .notGathered => 0 | .good => 1 | .stale => 2 | .failed => 3

def plausOutcomeCode : PlausOutcome → Nat
  | .notEvaluated => 0 | .pass => 1 | .violation => 2

def plausReasonCode : PlausReason → Nat
  | .noReason => 0 | .patrol => 1 | .incomplete => 2 | .noIssue => 3 | .noHistory => 4 | .vSat => 5

/-- A trip kind's mask bit number (R176). -/
def tripKindCode : TripKind → Nat
  | .cellOv => 0 | .cellUv => 1 | .cellUvAbs => 2 | .tempHigh => 3 | .tempLow => 4 | .plausibility => 5
  | .currentDischarge => 6 | .currentCharge => 7 | .supervisionLoss => 8 | .safeLine => 9 | .tamper => 10

/-- The eleven kinds in mask order. -/
def allTripKinds : List TripKind :=
  [.cellOv, .cellUv, .cellUvAbs, .tempHigh, .tempLow, .plausibility, .currentDischarge, .currentCharge,
    .supervisionLoss, .safeLine, .tamper]

def tripActionCode : TripAction → Nat
  | .alertOnly => 1 | .orderlyOpen => 2 | .immediateOpen => 3

def tripActionOf : Nat → Option TripAction
  | 1 => some .alertOnly
  | 2 => some .orderlyOpen
  | 3 => some .immediateOpen
  | _ => none

def contactorStateCode : ContactorState → Nat
  | .opened => 0 | .negClosing => 1 | .precharging => 2 | .posClosing => 3 | .preReleasing => 4 | .closed => 5
  | .holdoff => 6 | .posOpening => 7 | .weldCheck => 8 | .negOpening => 9 | .faulted => 10

def contactorCode : Contactor → Nat
  | .pos => 0 | .neg => 1 | .pre => 2

/-- Sub-kinds of a contactor fault, numbered in the order of R114's list, the first that has all four; R97 names DROPOUT
before FEEDBACK (DESIGN CHOICE, log entry 59). -/
def faultKindCode : FaultKind → Nat
  | .feedback => 0 | .dropout => 1 | .weld => 2 | .prechargeTimeout => 3

/-- Causes of an opening in the order of section 6.4 (log entry 15). -/
def openCauseCode : OpenCause → Nat
  | .openOrder => 0 | .orderly => 1 | .kill => 2 | .dropout => 3 | .feedback => 4 | .prechargeTimeout => 5

def bankStateCode : BankState → Nat
  | .empty => 0 | .writing => 1 | .written => 2 | .valid => 3 | .active => 4 | .invalid => 5 | .stale => 6

def bankCode : Bank → Nat
  | .bankA => 0 | .bankB => 1

def sessionCode : SessionState → Nat
  | .idle => 0 | .receiving => 1 | .verifying => 2 | .verified => 3 | .activationPending => 4 | .locked => 5

/-- The order kind a header's kind byte names; 0 and 20 to 255 name none (R176). -/
def orderKindOf : Nat → Option OrderKind
  | 1 => some .enumerateChain
  | 2 => some .readChainStatus
  | 3 => some .writeNode
  | 4 => some .readNode
  | 5 => some .startSampling
  | 6 => some .stopSampling
  | 7 => some .singleFrame
  | 8 => some .selectList
  | 9 => some .snapshotHistory
  | 10 => some .clearTrips
  | 11 => some .closePack
  | 12 => some .openPack
  | 13 => some .enterSleep
  | 14 => some .updateBegin
  | 15 => some .updateChunk
  | 16 => some .updateFinish
  | 17 => some .updateAbort
  | 18 => some .activateProfile
  | 19 => some .readProfileInfo
  | _ => none

/-- The fixed body length of a kind; UPDATE_CHUNK's runs from 5 to 1,028 (R140, R176). -/
def bodyLengthOk (k : OrderKind) (n : Nat) : Bool :=
  match k with
  | .enumerateChain | .stopSampling | .closePack | .updateFinish | .updateAbort | .activateProfile
  | .readProfileInfo => n == 0
  | .readChainStatus | .writeNode | .readNode | .singleFrame | .selectList | .snapshotHistory | .clearTrips
  | .openPack => n == 4
  | .startSampling | .updateBegin => n == 8
  | .enterSleep => n == 12
  | .updateChunk => decide (5 ≤ n ∧ n ≤ 1028)

end Sys2Proof.Machine
end

