-- ==== Sys2Proof/Machine/Ops.lean ====
section
/-! DEFINITION. The named operations every block shares: block updates, time, exchange memory, buffers, releases,
alerts on their way, and the completion of an order. -/

namespace Sys2Proof.Machine

open Sys2Proof

/-! ## Updating one block -/

def State.onClock (f : Clock → Clock) (s : State) : State := { s with clock := f s.clock }
def State.onInputs (f : Inputs → Inputs) (s : State) : State := { s with inputs := f s.inputs }
def State.onLink (f : Link → Link) (s : State) : State := { s with link := f s.link }
def State.onPool (f : Pool → Pool) (s : State) : State := { s with pool := f s.pool }
def State.onAlerts (f : AlertWriter → AlertWriter) (s : State) : State := { s with alerts := f s.alerts }
def State.onChain (f : Chain → Chain) (s : State) : State := { s with chain := f s.chain }
def State.onSeq (f : Sequencer → Sequencer) (s : State) : State := { s with seq := f s.seq }
def State.onSensing (f : Sensing → Sensing) (s : State) : State := { s with sensing := f s.sensing }
def State.onTable (f : FrameTable → FrameTable) (s : State) : State := { s with table := f s.table }
def State.onProt (f : Protection → Protection) (s : State) : State := { s with prot := f s.prot }
def State.onCont (f : Contactors → Contactors) (s : State) : State := { s with cont := f s.cont }
def State.onSleep (f : Sleep → Sleep) (s : State) : State := { s with sleep := f s.sleep }
def State.onStore (f : ProfileStore → ProfileStore) (s : State) : State := { s with store := f s.store }
def State.onTransit (f : Transit → Transit) (s : State) : State := { s with transit := f s.transit }

/-- The present pack time (R26). -/
def State.now (s : State) : Word := s.clock.packTime

/-- The present power state (R147). -/
def State.power (s : State) : PowerState := s.sleep.power

/-- The profile in use (R161). -/
def State.profile (s : State) : Profile := s.store.inUse

/-- The part runs in the ACTIVE power state and is not held in reset. -/
def State.activeNow (s : State) : Bool := s.sleep.power == .active && !s.inputs.inReset

/-! ## One value for each contactor -/

def Triple.get {α : Type} (t : Triple α) : Contactor → α
  | .pos => t.pos
  | .neg => t.neg
  | .pre => t.pre

def Triple.set {α : Type} (t : Triple α) (c : Contactor) (v : α) : Triple α :=
  match c with
  | .pos => { t with pos := v }
  | .neg => { t with neg := v }
  | .pre => { t with pre := v }

def Triple.map {α β : Type} (f : α → β) (t : Triple α) : Triple β := ⟨f t.pos, f t.neg, f t.pre⟩

/-- The level of an aux input line; `true` is CLOSED. -/
def PinLevels.aux (p : PinLevels) : Triple Bool := ⟨p.auxPos, p.auxNeg, p.auxPre⟩

def PinLevels.setAux (p : PinLevels) (c : Contactor) (closed : Bool) : PinLevels :=
  match c with
  | .pos => { p with auxPos := closed }
  | .neg => { p with auxNeg := closed }
  | .pre => { p with auxPre := closed }

/-! ## Time -/

/-- A timer after `d` µs. -/
def Timer.run (d : Nat) (t : Timer) : Timer := t.map (· - d)

def StampedTimer.run (d : Nat) (t : Option StampedTimer) : Option StampedTimer :=
  t.map fun x => { x with remaining := x.remaining - d }

/-- The timers that count pack time, after `d` µs of it. -/
def State.runTimers (d : Nat) (s : State) : State :=
  { s with
    chain := { s.chain with
      txTimer := s.chain.txTimer.run d, replyTimer := s.chain.replyTimer.run d,
      watchTimer := s.chain.watchTimer.run d, quietA := s.chain.quietA.run d, quietB := s.chain.quietB.run d,
      idleTimer := s.chain.idleTimer.run d, waitTimer := s.chain.waitTimer.run d }
    seq := { s.seq with
      frameTimer := s.seq.frameTimer.run d, elementTimer := s.seq.elementTimer.run d,
      repollTimer := s.seq.repollTimer.run d }
    sensing := { s.sensing with
      sampleTimer := s.sensing.sampleTimer.run d, burstTimer := s.sensing.burstTimer.run d }
    prot := { s.prot with stalenessTimer := s.prot.stalenessTimer.run d }
    cont := { s.cont with
      stepTimer := s.cont.stepTimer.run d, prechargeTimer := s.cont.prechargeTimer.run d,
      holds := s.cont.holds.map (StampedTimer.run d), watches := s.cont.watches.map (StampedTimer.run d) }
    store := { s.store with waitTimer := s.store.waitTimer.run d } }

/-- `d` µs pass. Pack time advances by 1 each µs outside ASLEEP, where it moves at the low-power tick alone (R26). -/
def State.elapse (d : Nat) (s : State) : State :=
  if s.sleep.power = .asleep then s.onClock fun c => { c with tick := c.tick - d }
  else (s.runTimers d).onClock fun c => { packTime := c.packTime + BitVec.ofNat 32 d, tick := c.tick - d }

/-- Time passes up to the expiry of a timer: an expiry command is the event at which that timer runs out (log
entry 6). -/
def State.elapseTimer (t : Timer) (s : State) : State := s.elapse (t.getD 0)

/-! ## Exchange memory (R117) -/

/-- The byte stored at an address; an unlisted address reads 00h. -/
def memRead : List Host.Cell → Nat → Byte
  | [], _ => 0
  | (b, w) :: rest, a => if a = b then w else memRead rest a

/-- Stores a byte and keeps the canonical form: rising addresses, no 00h listed. -/
def memWrite : List Host.Cell → Nat → Byte → List Host.Cell
  | [], a, v => if v = 0 then [] else [(a, v)]
  | (b, w) :: rest, a, v =>
    if a < b then (if v = 0 then (b, w) :: rest else (a, v) :: (b, w) :: rest)
    else if a = b then (if v = 0 then rest else (a, v) :: rest)
    else (b, w) :: memWrite rest a v

/-- Sets every byte of the pages given to 00h. -/
def memZero (m : List Host.Cell) (pages : List Nat) : List Host.Cell :=
  m.filter fun c => !pages.contains (c.1 / 256)

/-- The canonical form: addresses strictly rising, inside exchange memory, and no byte 00h listed. -/
def Memory.wf : List Host.Cell → Bool
  | [] => true
  | (a, v) :: rest =>
    decide (a < 24576) && decide (v ≠ 0) && (rest.head?.all fun c => decide (a < c.1)) && Memory.wf rest

/-! ## Buffers (R118) -/

/-- The entry of a buffer number; numbers outside 1 to 40 have none and read as FREE. -/
def Pool.entry (p : Pool) (n : Nat) : BufferEntry :=
  if n = 0 then .reset else (p.table[n - 1]?).getD .reset

def Pool.setEntry (p : Pool) (n : Nat) (e : BufferEntry) : Pool :=
  if n = 0 then p else { p with table := p.table.setIfInBounds (n - 1) e }

def BufferEntry.capacity (e : BufferEntry) : Nat := 256 * e.pages.length

/-- The exchange memory address of a buffer's offset (R117). -/
def BufferEntry.address (e : BufferEntry) (offset : Nat) : Option Nat :=
  (e.pages[offset / 256]?).map fun p => 256 * p + offset % 256

def Pool.readBuffer (p : Pool) (n offset : Nat) : Byte :=
  match (p.entry n).address offset with
  | some a => memRead p.memory a
  | none => 0

def Pool.writeByte (p : Pool) (n offset : Nat) (v : Byte) : Pool :=
  match (p.entry n).address offset with
  | some a => { p with memory := memWrite p.memory a v }
  | none => p

/-- Writes bytes into a buffer from an offset on; bytes at or beyond the capacity address nothing. -/
def Pool.writeBuffer (p : Pool) (n : Nat) : Nat → List Byte → Pool
  | _, [] => p
  | offset, b :: bs => (p.writeByte n offset b).writeBuffer n (offset + 1) bs

/-- `k` bytes of a buffer from an offset on. -/
def Pool.bytes (p : Pool) (n : Nat) (offset : Nat) : Nat → List Byte
  | 0 => []
  | k + 1 => p.readBuffer n offset :: p.bytes n (offset + 1) k

def allNumbers : List Nat := List.range' 1 40

def poolPages : List Nat := List.range' 4 92

/-- The buffer that owns a pool page, or none when the page is free: the page map (R118). -/
def Pool.pageOwner (p : Pool) (page : Nat) : Option Nat :=
  allNumbers.find? fun n => (p.entry n).pages.contains page

def Pool.freePages (p : Pool) : List Nat := poolPages.filter fun q => (p.pageOwner q).isNone

def Pool.freePageCount (p : Pool) : Nat := p.freePages.length

def Pool.freeNumbers (p : Pool) : List Nat := allNumbers.filter fun n => (p.entry n).state == .free

def Pool.freeNumberCount (p : Pool) : Nat := p.freeNumbers.length

def Pool.numbersIn (p : Pool) (st : BufferState) : List Nat := allNumbers.filter fun n => (p.entry n).state == st

/-- HELD without the release mark: the host's own (R119). -/
def BufferEntry.hostHeld (e : BufferEntry) : Bool := e.state == .held && !e.marked

/-- A release begins: the buffer becomes HELD with its release mark set and joins the release list's tail (R124). -/
def Pool.beginRelease (p : Pool) (n : Nat) : Pool :=
  let q := p.setEntry n { p.entry n with state := .held, marked := true }
  { q with releaseList := q.releaseList ++ [n] }

/-- The allocator's arbiter: ALERT before SAMPLER before LINK, one allocation in progress (R122). -/
def Pool.grant (p : Pool) : Pool :=
  match p.inProgress with
  | some _ => p
  | none =>
    if p.waitingAlert then { p with inProgress := some (.alert, 1), waitingAlert := false }
    else match p.waitingSampler with
      | some n => { p with inProgress := some (.sampler, n), waitingSampler := none }
      | none =>
        match p.waitingLink with
        | some n => { p with inProgress := some (.link, n), waitingLink := none }
        | none => p

/-- A number moves to the Result Queue's tail as RESULT_QUEUED (R119). -/
def Pool.queueResult (p : Pool) (n : Nat) : Pool :=
  let q := p.setEntry n { p.entry n with state := .resultQueued }
  { q with resultQueue := q.resultQueue ++ [n] }

/-- The waiting and the in-progress request of one requester. -/
def Pool.hasRequest (p : Pool) (r : Requester) : Bool :=
  (match r with
    | .link => p.waitingLink.isSome
    | .sampler => p.waitingSampler.isSome
    | .alert => p.waitingAlert) ||
  (match p.inProgress with
    | some (q, _) => q == r
    | none => false)

/-! ## Nodes -/

def Chain.node (c : Chain) (n : Nat) : NodeEntry :=
  if n = 0 then .reset else (c.nodes[n - 1]?).getD .reset

def Chain.setNode (c : Chain) (n : Nat) (e : NodeEntry) : Chain :=
  if n = 0 then c else { c with nodes := c.nodes.setIfInBounds (n - 1) e }

/-- Applies a change to every entry, with its address. -/
def Chain.mapNodes (c : Chain) (f : Nat → NodeEntry → NodeEntry) : Chain :=
  { c with nodes := c.nodes.mapIdx fun i e => f (i + 1) e }

def allNodes : List Nat := List.range' 1 20

def FrameTable.slot (t : FrameTable) (n : Nat) : NodeSlot :=
  if n = 0 then .reset else (t.slots[n - 1]?).getD .reset

def FrameTable.setSlot (t : FrameTable) (n : Nat) (x : NodeSlot) : FrameTable :=
  if n = 0 then t else { t with slots := t.slots.setIfInBounds (n - 1) x }

/-! ## Alerts on their way -/

/-- A block hands the Alert Writer a kind and a payload; the arrival is an event of its own (R142). -/
def State.raise (kind : AlertKind) (payload : List Byte) (s : State) : State :=
  s.onTransit fun t => { t with alerts := t.alerts ++ [(kind, payload)] }

/-! ## Order completion (R141) -/

/-- The byte at an offset of an order's buffer. -/
def State.orderByte (s : State) (n offset : Nat) : Nat := (s.pool.readBuffer n offset).toNat

def State.orderHalf (s : State) (n offset : Nat) : Nat := ofLe (s.pool.bytes n offset 2)

def State.orderWord (s : State) (n offset : Nat) : Nat := ofLe (s.pool.bytes n offset 4)

/-- The room for an answer: the capacity less the 16 bytes of header. -/
def State.answerRoom (s : State) (n : Nat) : Nat := (s.pool.entry n).capacity - 16

def State.quiet (s : State) (n : Nat) : Bool := s.orderByte n 1 % 2 == 1

/-- Completes an order: the answer after the header, bytes 6 to 15 of the header, then the Result Queue, or a release
when QUIET is set and the code is OK. The owner empties its own slot. -/
def State.complete (n : Nat) (code : Completion) (detail : Word) (s : State) (answer : List Byte := [])
    (clamped : Bool := false) (truncated : Bool := false) : State :=
  let header := BitVec.ofNat 8 (completionCode code) :: BitVec.ofNat 8 (boolCode clamped + 2 * boolCode truncated) ::
    (leBytes 4 s.now.toNat ++ leBytes 4 detail.toNat)
  let releases := s.quiet n && code == .ok
  s.onPool fun p =>
    let q := (p.writeBuffer n 16 answer).writeBuffer n 6 header
    if releases then q.beginRelease n else q.queueResult n

end Sys2Proof.Machine
end

