-- ==== Sys2Proof/Machine/Flags.lean ====
section
/-! DEFINITION. Everything the part computes from its state: the kill gate and coil outputs, the attention flags and
ATTN_N, the Status Block and the Sleep Page, the register reads; and `publish`, which closes an event. -/

namespace Sys2Proof.Machine

open Sys2Proof

/-! ## Kill gate and coil outputs (R85) -/

/-- Asserted while SAFE_OPEN is asserted or a latch is set with IMMEDIATE_OPEN. -/
def State.killGate (s : State) : Bool :=
  s.inputs.pins.safeOpen || s.prot.latches.toList.any (· == some .immediateOpen)

/-- A coil output: its command, with the kill gate deasserted and the power state ACTIVE; off while RESET_N is
asserted. -/
def State.coilOutput (s : State) (c : Contactor) : Bool :=
  s.cont.commands.get c && !s.killGate && s.sleep.power == .active && !s.inputs.inReset

/-! ## Attention (R137) -/

def State.inServiceCount (s : State) : Nat := (s.pool.numbersIn .inService).length

/-- The Link Port is powered in ACTIVE, ENTERING and WAKING (R133). -/
def State.linkPowered (s : State) : Bool :=
  match s.sleep.power with
  | .active | .entering | .waking => true
  | .asleep | .patrol => false

/-- The six attention flags, bit 0 ALERT_WAITING to bit 5 ALERT_LOST. -/
def State.attention (s : State) : BitVec 6 :=
  BitVec.ofBool s.link.alertLost ++ BitVec.ofBool s.link.accessFault ++ BitVec.ofBool s.link.allocDone ++
  BitVec.ofBool (s.pool.orderQueue.isEmpty && s.inServiceCount == 0) ++
  BitVec.ofBool (!s.pool.resultQueue.isEmpty) ++ BitVec.ofBool (!s.pool.alertQueue.isEmpty)

/-- ATTN_N is asserted while a flag is set whose mask bit is 0; never while the Link Port is unpowered. -/
def State.attnAsserted (s : State) : Bool := s.linkPowered && (s.attention &&& ~~~s.link.mask) != 0#6

/-! ## The Status Block (R145, R180) -/

def bankRecord (b : BankContent) : List Byte :=
  [BitVec.ofNat 8 (bankStateCode b.state), 0] ++ leBytes 2 b.length ++ leBytes 4 b.version.toNat ++
    leBytes 4 b.sequence.toNat

def tripleBits (t : Triple Bool) : Nat := boolCode t.pos + 2 * boolCode t.neg + 4 * boolCode t.pre

/-- The fault record with the weld-unchecked mark in bit 12. -/
def Contactors.faultWord (c : Contactors) : Nat := c.faults.toNat + 4096 * boolCode c.weldUnchecked

def latchCode : Option TripAction → Nat
  | none => 0
  | some a => tripActionCode a

/-- Bytes 2 to 63 of the Status Block. -/
def State.statusFields (s : State) : List Byte :=
  [BitVec.ofNat 8 (resetCauseCode s.link.resetCause), BitVec.ofNat 8 (powerCode s.sleep.power),
    BitVec.ofNat 8 (wakeReasonCode s.sleep.lastReason), BitVec.ofNat 8 (samplerCode s.seq.sampler)] ++
  leBytes 2 s.seq.frameNumber.toNat ++ leBytes 2 s.seq.overruns ++ leBytes 2 s.seq.droppedFrames ++
  [BitVec.ofNat 8 s.pool.freePageCount, BitVec.ofNat 8 s.pool.freeNumberCount,
    BitVec.ofNat 8 s.profile.alertReserve,
    BitVec.ofNat 8 (match s.alerts.firstLost with | some k => alertKindCode k | none => 0)] ++
  leBytes 2 s.pool.discarded ++ leBytes 2 s.alerts.lostCount ++ leBytes 2 s.alerts.lastSequence.toNat ++
  [BitVec.ofNat 8 (boolCode s.killGate), BitVec.ofNat 8 (contactorStateCode s.cont.state),
    BitVec.ofNat 8 (tripleBits s.cont.commands), BitVec.ofNat 8 (tripleBits s.cont.aux)] ++
  leBytes 2 s.cont.faultWord ++ s.prot.latches.toList.map (fun l => BitVec.ofNat 8 (latchCode l)) ++
  [BitVec.ofNat 8 (sessionCode s.store.session)] ++ bankRecord s.store.bankA ++ bankRecord s.store.bankB

/-- The Status Block: the update count, then each owner's fields as they stand. -/
def State.statusByte (s : State) (offset : Nat) : Byte :=
  ((leBytes 2 s.pool.updateCount.toNat ++ s.statusFields)[offset]?).getD 0

/-! ## The Sleep Page (R156, R180) -/

def summaryBytes (e : SummaryEntry) : List Byte :=
  leBytes 4 e.time.toNat ++ leBytes 2 e.minVc ++ leBytes 2 e.maxVc ++ leSigned 2 e.maxTemp ++
    leBytes 2 e.flags.toNat ++ leSigned 4 e.mean

def SleepPage.bytes (p : SleepPage) : List Byte :=
  let trap := p.trap.getD ⟨0, 0, 0⟩
  leBytes 4 p.settings.interval ++ leBytes 4 p.settings.maxSleep ++
  [BitVec.ofNat 8 (slotCode p.settings.slot), BitVec.ofNat 8 p.settings.first, BitVec.ofNat 8 p.settings.last,
    BitVec.ofNat 8 (boolCode p.trap.isSome), BitVec.ofNat 8 trap.index, BitVec.ofNat 8 trap.kind,
    BitVec.ofNat 8 trap.reason, BitVec.ofNat 8 (wakeReasonCode p.lastReason)] ++
  leBytes 4 p.patrolCount.toNat ++ leBytes 4 p.failed.toNat ++ leBytes 4 p.entryTime.toNat ++
  leBytes 4 p.duration ++ leBytes 4 p.wakeTime.toNat ++
  [BitVec.ofNat 8 p.ringCount, BitVec.ofNat 8 p.newest] ++ List.replicate 26 0 ++
  (p.ring.toList.map summaryBytes).flatten

/-! ## One byte of exchange memory -/

/-- The byte at an address: page 0 and page 3 show their owners' fields, the rest is stored (R117). -/
def State.exchangeByte (s : State) (a : Nat) : Byte :=
  if a < 256 then s.statusByte a
  else if 768 ≤ a ∧ a < 1024 then (s.sleep.page.bytes[a - 768]?).getD 0
  else memRead s.pool.memory a

/-! ## Register reads (R134, R175) -/

def wordOfBytes (b0 b1 b2 b3 : Nat) : Word :=
  BitVec.ofNat 32 (b0 + 256 * b1 + 65536 * b2 + 16777216 * b3)

def State.readId (s : State) : Word :=
  wordOfBytes 0x40 0x71 Config.revision.toNat (resetCauseCode s.link.resetCause)

def State.readAttn (s : State) : Word := s.attention.setWidth 32

def State.readAttnMask (s : State) : Word := s.link.mask.setWidth 32

def State.readSelect (s : State) : Word :=
  wordOfBytes s.link.number.toNat 0 (s.link.offset.toNat % 256) (s.link.offset.toNat / 256)

def State.readCommand (s : State) : Word :=
  wordOfBytes s.link.command.code.toNat (outcomeCode s.link.command.outcome)
    (s.link.command.argument.toNat % 256) (s.link.command.argument.toNat / 256)

def State.readAllocResult (s : State) : Word :=
  wordOfBytes s.pool.allocNumber (allocReasonCode s.pool.allocReason) s.pool.takenNumber
    (requesterCode s.pool.takenRequester + 16 * s.pool.takenPages)

def State.readQueueState (s : State) : Word :=
  BitVec.ofNat 32 (s.pool.resultQueue.headD 0 + 64 * s.pool.resultQueue.length +
    4096 * s.pool.alertQueue.headD 0 + 262144 * s.pool.alertQueue.length + 16777216 * s.pool.orderQueue.length)

/-- The register of an index as a read captures it (R133, R134); DATA is read byte by byte through the window. -/
def State.readRegister (s : State) (index : Nat) : Word :=
  match index with
  | 0 => s.readId
  | 1 => s.readAttn
  | 2 => s.readAttnMask
  | 3 => s.readSelect
  | 5 => s.readCommand
  | 6 => s.readAllocResult
  | 7 => s.readQueueState
  | _ => 0

/-- What SDO carries in byte `i` of the transaction in progress, the command byte being byte 0 (R133): all ones while the
link is unpowered, 00h under the command byte, FFh in a void transaction, and the four bytes of the capture, then 00h,
in a register read. `none` where another place gives it (a DATA byte stands in `sdo`) or the spec states nothing (the
data bytes of a write). -/
def State.sdoByte (s : State) (i : Nat) : Option Byte :=
  if s.linkPowered = false then some 0xFF
  else match s.link.transaction, i with
    | .idle, _ => none
    | _, 0 => some 0
    | .void, _ => some 0xFF
    | .registerRead, i => some (((leBytes 4 s.link.capture.toNat)[i - 1]?).getD 0)
    | .registerWrite, _ | .dataRead, _ | .dataWrite, _ => none

/-! ## Closing an event -/

/-- What an event's change of state makes other blocks see: a kill-gate edge for the Contactor Sequencer (R85), a
report of a move into or out of OPEN (R95), a report to a waiting activation (R168). -/
def State.report (s old : State) : State :=
  let gate := s.killGate
  let edges := if gate = old.killGate then [] else [gate]
  let moved := if (old.cont.state = .opened) = (s.cont.state = .opened) then [] else [s.cont.state != .opened]
  let waits := s.store.session == .activationPending &&
    (old.cont.state != s.cont.state || old.seq.sampler != s.seq.sampler)
  s.onTransit fun t => { t with
    killEdges := t.killEdges ++ edges
    openReports := t.openReports ++ moved
    activation := if waits then t.activation + 1 else t.activation }

/-- A patrol began in this event, so the power state has been written: it became PATROL, from ASLEEP even where the
event found it at PATROL (R154). -/
def State.patrolBegan (s old : State) : Bool :=
  s.sleep.power == .patrol && s.sleep.phase == .patrolTone && old.sleep.phase != .patrolTone

/-- The update count rises by 1 in an event that writes a Status Block field: one that changes a field, and the return to
ASLEEP that begins a patrol at once and ends at the power state it began with (R145, R151). -/
def State.countUpdate (s old : State) : State :=
  if s.statusFields = old.statusFields ∧ s.patrolBegan old = false then s
  else s.onPool fun p => { p with updateCount := p.updateCount + 1 }

/-- Closes an event that took `old` to `s`. -/
def State.publish (s old : State) : State := (s.report old).countUpdate old

end Sys2Proof.Machine
end

