-- ==== Sys2Proof/Machine/Operands.lean ====
section
/-! DEFINITION. How the bytes that reach the part are read and the bytes it sends are written: Sequence List elements,
chain frames and replies, order bodies, profile images. -/

namespace Sys2Proof.Machine

open Sys2Proof

/-! ## Sequence List elements (R28, R180) -/

/-- The exchange memory address of a slot's first byte. -/
def slotBase : Slot → Nat
  | .slotA => 256
  | .slotB => 512

/-- The eight bytes of an element. -/
def State.elementBytes (s : State) (slot : Slot) (index : Nat) : List Byte :=
  (List.range 8).map fun i => memRead s.pool.memory (slotBase slot + 8 * index + i)

def elementOf (bs : List Byte) : Element :=
  { kind := u8 bs 0, flags := u8 bs 1, firstNode := u8 bs 2, lastNode := u8 bs 3, group := u8 bs 4,
    argument := u16 bs 5, check := u8 bs 7 }

def Element.none : Element := ⟨0, 0, 0, 0, 0, 0, 0⟩

/-- The sum of the other seven bytes, modulo 256. -/
def Element.sum (e : Element) : Nat :=
  (e.kind + e.flags + e.firstNode + e.lastNode + e.group + e.argument % 256 + e.argument / 256) % 256

/-- The tests of R28 in the order of its table; the result is the trap reason's code (R174), 0 for a legal element. -/
def Element.trapReason (e : Element) : Nat :=
  if e.check ≠ e.sum then 1
  else if e.kind = 0 ∨ 9 < e.kind then 2
  else if e.flags ≠ 0 ∧ ¬ (e.kind = 2 ∧ e.flags = 1) then 3
  else if (e.kind = 1 ∨ e.kind = 2) ∧ (groupOf e.group).isNone then 3
  else if e.kind = 3 ∧ (blockOf e.group).isNone then 3
  else if (e.kind = 2 ∨ e.kind = 3) ∧
      (e.firstNode = 0 ∨ 20 < e.firstNode ∨ e.lastNode = 0 ∨ 20 < e.lastNode ∨ e.lastNode < e.firstNode) then 3
  else if (e.kind = 7 ∨ e.kind = 8) ∧ (e.argument = 0 ∨ 31 < e.argument) then 3
  else 0

/-! ## Chain frames (R3, R182) -/

def withCrc (bs : List Byte) : List Byte := bs ++ beHalf (crc16 bs)

/-- The bytes of a downstream frame; the tone has none. -/
def ChainFrame.bytes : ChainFrame → List Byte
  | .convert tag g => withCrc [0x11, tag, BitVec.ofNat 8 (groupCode g)]
  | .read n b k => withCrc [0x12, BitVec.ofNat 8 n, BitVec.ofNat 8 (blockCode b), BitVec.ofNat 8 k]
  | .write n b v => withCrc ([0x13, BitVec.ofNat 8 n, BitVec.ofNat 8 (blockCode b)] ++ beHalf v)
  | .enumerate n => withCrc [0x14, BitVec.ofNat 8 n]
  | .forget => withCrc [0x15]
  | .keepalive => withCrc [0x16]
  | .sleep => withCrc [0x17]
  | .wakeTone => []

/-- How long a transmission takes, in µs: 5 a byte, 500 for the tone (R3, R4). -/
def ChainFrame.duration (f : ChainFrame) : Nat :=
  match f with
  | .wakeTone => 500
  | g => 5 * g.bytes.length

/-- The address a frame expects in its reply's node field. -/
def ChainFrame.node : ChainFrame → Nat
  | .read n _ _ => n
  | .write n _ _ => n
  | .enumerate n => n
  | _ => 0

/-- The reply forms (R5). -/
inductive Reply where
  | data (tag : Byte) (busy : Bool) (words : List Half)
  | ack
  | nack (badValue : Bool)
deriving DecidableEq, Repr

/-- Words of 16 bits, most significant byte first (R182). -/
def wordsBe : List Byte → List Half
  | hi :: lo :: rest => (hi ++ lo) :: wordsBe rest
  | _ => []

/-- Judges a received frame against the frame it answers (R5): complete, CRC correct, node field equal, form fitting.
`none` is a bad reply. The spec gives no result for a DATA reply whose state byte is neither 0 nor 1 and for a NACK whose
reason is neither 1 nor 2 (R182): both are bad replies (DESIGN CHOICE, log entry 39). -/
def judgeReply (sent : ChainFrame) (bs : List Byte) : Option Reply :=
  let body := bs.take (bs.length - 2)
  if bs.length < 4 ∨ bs.drop (bs.length - 2) ≠ beHalf (crc16 body) then none
  else if u8 bs 1 ≠ sent.node then none
  else match sent, u8 bs 0 with
    | .read _ _ _, 0x21 =>
      if bs.length = 7 + 2 * u8 bs 4 ∧ u8 bs 3 ≤ 1 then
        some (.data ((bs[2]?).getD 0) (u8 bs 3 == 1) (wordsBe (body.drop 5)))
      else none
    | .write _ _ _, 0x22 => if bs.length = 4 then some .ack else none
    | .enumerate _, 0x22 => if bs.length = 4 then some .ack else none
    | .read _ _ _, 0x23 => if bs.length = 5 ∧ (u8 bs 2 = 1 ∨ u8 bs 2 = 2) then some (.nack (u8 bs 2 == 2)) else none
    | .write _ _ _, 0x23 => if bs.length = 5 ∧ (u8 bs 2 = 1 ∨ u8 bs 2 = 2) then some (.nack (u8 bs 2 == 2)) else none
    | _, _ => none

/-- How a transaction ended, as its requester sees it (R6, R9). -/
inductive TransactionEnd where
  | sent
  | data (tag : Byte) (busy : Bool) (words : List Half)
  | ack
  | nack (badValue : Bool)
  | crcFailure
  | timeout
  | skipped
deriving DecidableEq, Repr

/-- A failure in the sense of R15: retries exhausted, a NACK, or a node on path NONE. -/
def TransactionEnd.failed : TransactionEnd → Bool
  | .nack _ | .crcFailure | .timeout => true
  | _ => false

/-! ## Profile images (R162, R181) -/

/-- The sections of an image, by the lengths in its header. -/
structure Sections where
  chain     : List Byte
  calib     : List Byte
  limits    : List Byte
  contactor : List Byte
  sleep     : List Byte
  frame     : List Byte
deriving DecidableEq, Repr

def sectionsOf (image : List Byte) : Sections :=
  let len := fun k => u16 image (8 + 2 * k)
  let at0 := 24
  let at1 := at0 + len 0
  let at2 := at1 + len 1
  let at3 := at2 + len 2
  let at4 := at3 + len 3
  let at5 := at4 + len 4
  { chain := slice image at0 (len 0), calib := slice image at1 (len 1), limits := slice image at2 (len 2),
    contactor := slice image at3 (len 3), sleep := slice image at4 (len 4), frame := slice image at5 (len 5) }

/-- The resistances of the declared cells, node 1 first and channel 1 first within a node. -/
def resistancesOf (calib : List Byte) : Nat → List Nat → List (List Nat)
  | _, [] => []
  | offset, n :: rest =>
    ((List.range n).map fun c => u16 calib (offset + 2 * c)) :: resistancesOf calib (offset + 2 * n) rest

/-- The values of an image's sections. -/
def profileOf (image : List Byte) : Profile :=
  let x := sectionsOf image
  let d := u8 x.chain 0
  let counts := (List.range d).map fun i => u8 x.chain (8 + 2 * i)
  { declared := d
    cellCounts := counts
    tempCounts := (List.range d).map fun i => u8 x.chain (9 + 2 * i)
    hopDelay := u8 x.chain 1
    replyTimeout := u16 x.chain 2
    retryLimit := u8 x.chain 4
    lossThreshold := u8 x.chain 5
    shuntGain := s16 x.calib 0
    shuntOffset := s16 x.calib 2
    gains := (List.range d).map fun i => s16 x.calib (4 + 4 * i)
    offsets := (List.range d).map fun i => ofLeSigned (slice x.calib (6 + 4 * i) 1)
    resistances := resistancesOf x.calib (4 + 4 * d) counts
    cellOv := u16 x.limits 0
    cellUv := u16 x.limits 2
    cellUvAbs := u16 x.limits 4
    tempHigh := s16 x.limits 6
    tempLow := s16 x.limits 8
    supervision := u16 x.limits 10
    dischargeMax := u32 x.limits 12
    chargeMax := u32 x.limits 16
    plausibility := u16 x.limits 20
    alertReserve := u8 x.limits 22
    openOnLoss := u8 x.limits 23 == 1
    persistence := (List.range 8).map fun i => u8 x.limits (24 + i)
    actions := (List.range 10).map fun i => (tripActionOf (u8 x.limits (32 + i))).getD .immediateOpen
    window := u16 x.contactor 0
    prechargeMax := u16 x.contactor 2
    holdoff := u16 x.contactor 4
    weldWindow := u16 x.contactor 6
    interrupt := u32 x.contactor 8
    ratio := u8 x.contactor 12
    weldFraction := u8 x.contactor 13
    sleepMaxVc := u16 x.sleep 0
    sleepMinVc := u16 x.sleep 2
    sleepTemp := s16 x.sleep 4
    sleepImbalance := u16 x.sleep 6
    drain := u32 x.sleep 8
    defaultPeriod := u16 x.frame 0 }

/-- The STRUCTURE check of R166. -/
def structureOk (image : List Byte) (declaredLength : Nat) : Bool :=
  let len := fun k => u16 image (8 + 2 * k)
  let x := sectionsOf image
  let d := u8 x.chain 0
  let cells := ((List.range d).map fun i => u8 x.chain (8 + 2 * i)).sum
  decide (u16 image 0 = 1 ∧ u16 image 2 = declaredLength ∧
    24 + len 0 + len 1 + len 2 + len 3 + len 4 + len 5 + 16 = declaredLength ∧
    1 ≤ d ∧ d ≤ 20 ∧ len 0 = 8 + 2 * d ∧ len 1 = 4 + 4 * d + 2 * cells ∧
    len 2 = 44 ∧ len 3 = 16 ∧ len 4 = 12 ∧ len 5 = 4)

def within (lo v hi : Int) : Bool := decide (lo ≤ v ∧ v ≤ hi)

/-- The RANGE check of R166: every field in the range of R162 and of the chapters that use it. -/
def rangesOk (image : List Byte) : Bool :=
  let p := profileOf image
  let x := sectionsOf image
  p.cellCounts.all (fun n => within 1 n 16) && p.tempCounts.all (fun n => within 0 n 4) &&
  within 1 p.hopDelay 15 && within 20 p.replyTimeout 500 && within 0 p.retryLimit 7 &&
  within 1 p.lossThreshold 15 &&
  within (-550) p.tempHigh 1500 && within (-550) p.tempLow 1500 && within 100 p.supervision 5000 &&
  within 0 p.dischargeMax 2000000 && within 0 p.chargeMax 2000000 && within 0 p.plausibility 50000 &&
  within 0 p.alertReserve 16 && within 0 (u8 x.limits 23) 1 && p.persistence.all (fun n => within 1 n 15) &&
  (List.range 10).all (fun i => (tripActionOf (u8 x.limits (32 + i))).isSome) &&
  within 5 p.window 200 && within 50 p.prechargeMax 5000 && within 0 p.holdoff 2000 &&
  within 10 p.weldWindow 500 && within 0 p.interrupt 2000000 && within 80 p.ratio 99 &&
  within 10 p.weldFraction 90 &&
  within (-550) p.sleepTemp 1500 && within 0 p.drain 2000000 && within 10 p.defaultPeriod 1000

/-- The keyed tag over the image less its last 16 bytes equals those 16 bytes (R166). -/
def tagOk (key : BitVec 128) (image : List Byte) (declaredLength : Nat) : Bool :=
  leBytes 16 (Config.keyedTag key (image.take (declaredLength - 16))).toNat == slice image (declaredLength - 16) 16

/-- The reason a verification fails, by its code in R174; 0 is a pass (R166). -/
def verifyReason (key : BitVec 128) (floor declaredVersion : Word) (declaredLength : Nat) (image : List Byte) : Nat :=
  if !tagOk key image declaredLength then 1
  else if !structureOk image declaredLength then 2
  else if u32 image 4 ≠ declaredVersion.toNat ∨ u32 image 4 ≤ floor.toNat then 3
  else if !rangesOk image then 4
  else 0

/-- The value of a trip kind's list entry. -/
def Profile.persistenceOf (p : Profile) (k : TripKind) : Nat := (p.persistence[tripKindCode k]?).getD 1

/-- The action a kind takes: SAFE_LINE always IMMEDIATE_OPEN, the others as the profile gives (R77). -/
def Profile.actionOf (p : Profile) (k : TripKind) : TripAction :=
  match k with
  | .safeLine => .immediateOpen
  | .tamper => (p.actions[9]?).getD .immediateOpen
  | k => (p.actions[tripKindCode k]?).getD .immediateOpen

/-- The calibration pair of a node, and the series resistance of a cell. -/
def Profile.gain (p : Profile) (node : Nat) : Int := (p.gains[node - 1]?).getD 0
def Profile.offset (p : Profile) (node : Nat) : Int := (p.offsets[node - 1]?).getD 0
def Profile.resistance (p : Profile) (node channel : Nat) : Nat :=
  (((p.resistances[node - 1]?).getD [])[channel - 1]?).getD 0
def Profile.cellCount (p : Profile) (node : Nat) : Nat := (p.cellCounts[node - 1]?).getD 0
def Profile.tempCount (p : Profile) (node : Nat) : Nat := (p.tempCounts[node - 1]?).getD 0

end Sys2Proof.Machine
end

