-- ==== Sys2Proof/Machine/Window.lean ====
section
/-! DEFINITION. The window on exchange memory (R135, R136) and the frame of an immediate command (R126, R134). -/

namespace Sys2Proof.Machine

open Sys2Proof

/-- The active set of Sequence List slots (R29): the slot being run while sampling, the slot of a pending switch, and
the slot of a patrol frame. -/
def State.activeSet (s : State) : List Slot :=
  (match s.seq.sampler with
    | .waiting | .running => s.seq.activeSlot.toList
    | .stopped | .halted => []) ++
  (s.seq.pendingSwitch.map (·.slot)).toList ++
  (match s.seq.frame with
    | some f => if f.kind = .patrol then [f.slot] else []
    | none => [])

/-- The Link Port takes accesses: it is powered and RESET_N is not asserted. -/
def State.linkTakes (s : State) : Bool := s.linkPowered && !s.inputs.inReset

/-- A buffer state whose bytes the window may read (R135). -/
def BufferEntry.readable (e : BufferEntry) : Bool :=
  match e.state with
  | .held => !e.marked
  | .orderQueued | .inService | .resultQueued | .alertQueued => true
  | .free | .filling => false

/-- Judges a read-ahead fetch at a number and offset (R135). -/
def State.fetchAt (s : State) (number offset : Nat) : ReadAhead :=
  if number = 0 then (if offset < 1024 then .captured (s.exchangeByte offset) else .refused)
  else if number ≤ 40 ∧ (s.pool.entry number).readable = true ∧ offset < (s.pool.entry number).capacity then
    .captured (s.pool.readBuffer number offset)
  else .refused

/-- Starts a read-ahead fetch at the pointer. -/
def State.fetch (s : State) : State :=
  s.onLink fun l => { l with readAhead := s.fetchAt l.number.toNat l.offset.toNat }

/-- The target of a DATA write byte is accepted (R136, R29). -/
def State.writable (s : State) (number offset : Nat) : Bool :=
  if number = 0 then
    (decide (256 ≤ offset ∧ offset < 512) && !s.activeSet.contains .slotA) ||
    (decide (512 ≤ offset ∧ offset < 768) && !s.activeSet.contains .slotB)
  else decide (number ≤ 40) && (s.pool.entry number).hostHeld && decide (offset < (s.pool.entry number).capacity)

/-- Stores the write-behind byte: a buffer's only while it is still HELD without its release mark, else the byte is
discarded with ACCESS_FAULT; a slot's whatever the slot's state (R136). -/
def State.storeWriteBehind (s : State) : State :=
  match s.link.writeBehind with
  | none => s
  | some w =>
    let s := s.onLink fun l => { l with writeBehind := none }
    if w.number = 0 then s.onPool fun p => { p with memory := memWrite p.memory w.offset w.value }
    else if (s.pool.entry w.number).hostHeld then s.onPool fun p => p.writeByte w.number w.offset w.value
    else s.onLink fun l => { l with accessFault := true }

/-- The end of a transaction: the write-behind byte is stored, and a DATA write is followed by a fresh fetch. -/
def State.endTransaction (s : State) : State :=
  let wrote := s.link.transaction == .dataWrite
  let s := s.storeWriteBehind
  let s := s.onLink fun l => { l with transaction := .idle }
  if wrote then s.fetch else s

/-- A transaction begins: a DATA write transaction still open ends first, and bytes of one kind continue theirs. -/
def State.beginTransaction (s : State) (t : SpiTransaction) : State :=
  let s := if s.link.transaction = .dataWrite ∧ t ≠ .dataWrite then s.endTransaction else s
  s.onLink fun l => { l with transaction := t }

/-- A command with its argument, taken at the Link Port: the write-behind byte is stored first, every command is
refused outside ACTIVE, and COMMAND keeps the record (R126, R134). Of R126's test of the power state and R175's of the
code, whose order the spec does not give, the power state's comes first (DESIGN CHOICE, log entry 43). -/
def State.command (s : State) (code : Byte) (argument : Half) (body : State → CommandOutcome × State) : State :=
  if !s.linkTakes then s
  else
    let s := (s.beginTransaction .registerWrite).storeWriteBehind
    let r := if s.sleep.power = .active then body s else (.refusedState, s)
    r.2.onLink fun l => { l with command := ⟨code, argument, r.1⟩ }

/-- PENDING becomes OK when the work of the last command, one of the codes given, completes (R126). -/
def State.settleCommand (s : State) (codes : List Byte) : State :=
  s.onLink fun l =>
    if codes.contains l.command.code && l.command.outcome == .pending then
      { l with command := { l.command with outcome := .ok } }
    else l

/-- The Link Port's registers when it is powered again at a wake (R138). The fetch it starts at the Status Block sees the
update count before this event raises it: the spec gives no order (DESIGN CHOICE, log entry 44). A transaction in progress
and its capture end here, also at a wake from ENTERING, where the link kept its power: the spec does not say (DESIGN
CHOICE, log entry 52). -/
def State.powerUpLink (s : State) : State :=
  (s.onLink fun l => { Link.reset l.resetCause with
    alertLost := decide (0 < s.alerts.lostCount), sdo := l.sdo }).fetch

/-- The Link Port loses power: a write-behind byte not yet stored is discarded, SDO reads as all ones (R133, R138). -/
def State.powerDownLink (s : State) : State :=
  s.onLink fun l => { Link.reset l.resetCause with sdo := 0xFF }

end Sys2Proof.Machine
end

