-- ==== Sys2Proof/Machine/AlertOps.lean ====
section
/-! DEFINITION. The Alert Writer's operations (R142 to R144, R179). -/

namespace Sys2Proof.Machine

open Sys2Proof

/-- An alert is lost: the count rises, the kind is recorded when the count was 0, ALERT_LOST is set (R144). -/
def State.loseAlert (s : State) (kind : AlertKind) : State :=
  (s.onAlerts fun a => { a with
    lostCount := satAdd 65535 a.lostCount 1
    firstLost := if a.lostCount = 0 then some kind else a.firstLost }).onLink fun l => { l with alertLost := true }

/-- A write-1 to ALERT_LOST clears the flag, the count and the first lost kind (R144). -/
def State.clearLostAlerts (s : State) : State :=
  (s.onAlerts fun a => { a with lostCount := 0, firstLost := none }).onLink fun l => { l with alertLost := false }

/-- Requests a page for the oldest alert when no request of the Alert Writer's own stands, no record is being written
and the list is not empty (R142). -/
def State.requestAlertPage (s : State) : State :=
  if s.pool.hasRequest .alert || s.alerts.writing.isSome || s.alerts.pending.isEmpty then s
  else s.onPool fun p => Pool.grant { p with waitingAlert := true }

/-- The bytes of an alert record (R179). -/
def Alert.record (a : Alert) : List Byte :=
  [BitVec.ofNat 8 (alertKindCode a.kind), BitVec.ofNat 8 (powerCode a.power)] ++ leBytes 2 a.sequence.toNat ++
    leBytes 4 a.time.toNat ++ leBytes 2 a.frame.toNat ++ leBytes 2 a.payload.length ++ a.payload

/-- An alert arrives: it takes the next sequence number and joins the list, or is lost when the list holds 16. -/
def State.alertArrives (s : State) (kind : AlertKind) (payload : List Byte) : State :=
  let number := s.alerts.lastSequence + 1
  let s := s.onAlerts fun a => { a with lastSequence := number }
  if 16 ≤ s.alerts.pending.length then s.loseAlert kind
  else
    (s.onAlerts fun a => { a with
      pending := a.pending ++ [⟨kind, number, s.now, s.power, s.seq.frameNumber, payload⟩] }).requestAlertPage

/-- The Alert Writer takes the outcome of its allocation: a buffer for its oldest alert, or the loss of that alert
and the request for the next (R142). -/
def State.alertAllocated (s : State) (buffer : Option Nat) : State :=
  match s.alerts.pending with
  | [] => s
  | a :: rest =>
    let s := s.onAlerts fun w => { w with pending := rest }
    match buffer with
    | some n => s.onAlerts fun w => { w with writing := some (n, a) }
    | none => (s.loseAlert a.kind).requestAlertPage

/-- The record has been written: its buffer joins the Alert Queue and the next request is made (R142). -/
def State.recordWritten (s : State) : State :=
  match s.alerts.writing with
  | none => s
  | some (n, a) =>
    let s := s.onPool fun p =>
      let q := p.writeBuffer n 0 a.record
      let q := q.setEntry n { q.entry n with state := .alertQueued }
      { q with alertQueue := q.alertQueue ++ [n] }
    (s.onAlerts fun w => { w with writing := none }).requestAlertPage

end Sys2Proof.Machine
end

