-- ==== Sys2Proof/Machine/ChainOps.lean ====
section
/-! DEFINITION. The Chain Controller's shared operations: the transaction engine, the node counts, break location, ring
closing and the frame-end update (Chapter 1). -/

namespace Sys2Proof.Machine

open Sys2Proof

/-! ## Sending (R4, R6) -/

def Chain.quiet (c : Chain) : Port → Bool
  | .a => c.quietA.isSome
  | .b => c.quietB.isSome

def Chain.startQuiet (c : Chain) : Port → Chain
  | .a => { c with quietA := some 1000 }
  | .b => { c with quietB := some 1000 }

/-- The frame begins to leave its port; on a port in the quiet time after a tone it waits for the end of that time. -/
def Chain.send (c : Chain) (e : Engine) : Chain :=
  { c with
    engine := some { e with phase := .sending }
    txTimer := if c.quiet e.port then none else some e.frame.duration
    replyTimer := none
    watchTimer := none
    idleTimer := none }

/-- A transaction is granted: `retries` further attempts stand behind the first (R6, R8). -/
def State.startTransaction (s : State) (requester : ChainRequester) (frame : ChainFrame) (port : Port)
    (retries : Nat) : State :=
  s.onChain fun c => c.send ⟨requester, frame, port, .sending, retries, s.profile.replyTimeout, 0, 0, .noError⟩

/-- The engine becomes free, and the 50 ms measure of R11 starts again. -/
def Chain.freeEngine (c : Chain) : Chain :=
  { c with engine := none, txTimer := none, replyTimer := none, watchTimer := none, idleTimer := some 50000 }

/-! ## Node counts (R7) -/

def NodeEntry.setError (e : NodeEntry) (x : LastError) : NodeEntry := { e with lastError := x }

def nodePresent (n : Nat) : Bool := decide (1 ≤ n ∧ n ≤ 20)

/-- Adds `k` failed attempts to a node's CRC count, with the alert when the count reaches 15. -/
def State.countCrc (s : State) (n k : Nat) : State :=
  let e := s.chain.node n
  let s' := s.onChain fun c => c.setNode n { e with crcCount := satAdd 15 e.crcCount k }
  if nodePresent n && decide (e.crcCount < 15 ∧ 15 ≤ e.crcCount + k) then
    s'.raise .nodeCounterFull (packFields [(1, n), (1, 0)])
  else s'

/-- Adds `k` failed attempts to a node's timeout count, with the alert when the count reaches 15. -/
def State.countTimeout (s : State) (n k : Nat) : State :=
  let e := s.chain.node n
  let s' := s.onChain fun c => c.setNode n { e with timeoutCount := satAdd 15 e.timeoutCount k }
  if nodePresent n && decide (e.timeoutCount < 15 ∧ 15 ≤ e.timeoutCount + k) then
    s'.raise .nodeCounterFull (packFields [(1, n), (1, 1)])
  else s'

def State.setNodeError (s : State) (n : Nat) (x : LastError) : State :=
  s.onChain fun c => c.setNode n ((c.node n).setError x)

/-- A failed attempt of a transaction: counted against the addressed node; an ENUMERATE's is held until a node takes
the address (R7, R17). -/
def State.attemptFailed (s : State) (e : Engine) (crc : Bool) : State :=
  match e.frame with
  | .enumerate _ =>
    s.onChain fun c => { c with engine := some { e with
      crcHeld := e.crcHeld + boolCode crc
      timeoutHeld := e.timeoutHeld + boolCode (!crc)
      lastHeld := if crc then .crc else .timeout } }
  | f =>
    let s := if crc then s.countCrc f.node 1 else s.countTimeout f.node 1
    s.setNodeError f.node (if crc then .crc else .timeout)

/-- The held attempts of an ENUMERATE are counted against the node that answered. -/
def State.creditHeld (s : State) (e : Engine) (n : Nat) : State :=
  let s := (s.countCrc n e.crcHeld).countTimeout n e.timeoutHeld
  if e.lastHeld = .noError then s else s.setNodeError n e.lastHeld

/-- How R9 handles a request for a node: skipped, failed without a frame, or sent on a port with so many retries. -/
inductive NodeHandling where
  | skipped
  | noPath
  | sent (port : Port) (retries : Nat)
deriving DecidableEq, Repr

def State.handling (s : State) (n : Nat) : NodeHandling :=
  let e := s.chain.node n
  let retries := if e.state = .lost then 0 else s.profile.retryLimit
  match e.state, e.path with
  | .absent, _ => .skipped
  | _, .noPath => .noPath
  | _, .pathA => .sent .a retries
  | _, .pathB => .sent .b retries

/-! ## The ring (R10, R12, R13) -/

/-- The payload of CHAIN_BREAK: ring state and break position. The alert of a ring that closes carries the position 0 too,
though R13 lists the ring state alone (DESIGN CHOICE, log entry 63). -/
def chainBreakPayload (st : RingState) (position : Nat) : List Byte :=
  packFields [(1, ringStateCode st), (1, position)]

/-- Gives every node that is not ABSENT a path and hop count. -/
def Chain.assignPaths (c : Chain) (f : Nat → NodeEntry → NodeEntry) : Chain :=
  c.mapNodes fun n e => if e.state = .absent then e else f n e

/-- The ring closes (R13). A break location that has begun and has not yet sent its first probe is left to run, on the
ring that is now CLOSED, and sets the break position at its end: R12, R13 and R157 do not say that it ends (DESIGN CHOICE,
log entry 53). -/
def State.closeRing (s : State) : State :=
  (s.onChain fun c =>
    ({ c with ringState := .closed, breakPos := 0, breakDue := false }).assignPaths
      fun n e => { e with path := .pathA, hops := n }).raise
    .chainBreak (chainBreakPayload .closed 0)

/-- Break location begins: the first place at the arbiter is its own (R12). -/
def Chain.beginLocation (c : Chain) : Chain :=
  { c with breakDue := false, location := some ⟨false, 1, 0, c.found + 1⟩ }

/-- The next address to probe on A: ABSENT addresses are skipped. -/
def Chain.probeUp (c : Chain) (addr : Nat) : Option Nat :=
  (List.range' addr (c.found + 1 - addr)).find? fun n => (c.node n).state != .absent

/-- The next address to probe on B, down to the one after `k`. -/
def Chain.probeDown (c : Chain) (addr k : Nat) : Option Nat :=
  ((List.range' (k + 1) (addr - k)).reverse).find? fun n => (c.node n).state != .absent

/-- The paths that a finished location gives (R12, step 3). -/
def Chain.locatedPaths (c : Chain) (k j : Nat) : Chain :=
  c.assignPaths fun n e =>
    if n ≤ k then { e with path := .pathA, hops := n }
    else if c.found < n then e
    else if n < j then { e with path := .noPath }
    else { e with path := .pathB, hops := c.found - n + 1 }

/-- One step of break location with the engine free: the next probe, the turn to port B, or the end (R12). -/
def State.locationStep (s : State) (l : Location) : State :=
  let probe := fun n port => s.startTransaction .breakLocation (.read n .status 1) port s.profile.retryLimit
  if l.onB then
    match s.chain.probeDown l.addr l.k with
    | some n => (probe n .b).onChain fun c => { c with location := some { l with addr := n } }
    | none =>
      (s.onChain fun c => { c.locatedPaths l.k l.j with location := none, breakPos := l.k }).raise
        .chainBreak (chainBreakPayload .opened l.k)
  else
    match s.chain.probeUp l.addr with
    | some n => (probe n .a).onChain fun c => { c with location := some { l with addr := n } }
    | none =>
      if l.k = s.chain.found then s.onChain fun c => { c with location := none, breakPos := l.k }
      else s.onChain fun c => { c with location := some { l with onB := true, addr := c.found } }

/-- The outcome of a probe (R12). -/
def Location.probed (l : Location) (found : Nat) (succeeded : Bool) : Location :=
  match l.onB, succeeded with
  | false, true => { l with k := l.addr, addr := l.addr + 1 }
  | false, false => { l with addr := found + 1 }
  | true, true => { l with j := l.addr, addr := l.addr - 1 }
  | true, false => { l with addr := l.k }

/-! ## Frame start and frame end (R15) -/

def Chain.clearMarks (c : Chain) : Chain := c.mapNodes fun _ e => { e with failedMark := false }

def Chain.markFailed (c : Chain) (n : Nat) : Chain := c.setNode n { c.node n with failedMark := true }

/-- The payload of NODE_LOST and NODE_RECOVERED. -/
def nodePayload (n : Nat) (e : NodeEntry) : List Byte :=
  packFields [(1, n), (1, e.failedFrames), (1, lastErrorCode e.lastError), (2, e.lastGood.toNat)]

/-- One entry at the end of an ACTIVE frame. -/
def NodeEntry.frameEnd (e : NodeEntry) (frame : Half) (threshold : Nat) : NodeEntry :=
  match e.state, e.failedMark with
  | .absent, _ => { e with failedMark := false }
  | _, false => { e with state := .present, failedFrames := 0, lastGood := frame, failedMark := false }
  | .lost, true => { e with failedFrames := satAdd 15 e.failedFrames 1, failedMark := false }
  | _, true =>
    let count := satAdd 15 e.failedFrames 1
    { e with state := if threshold ≤ count then .lost else .degraded, failedFrames := count, failedMark := false }

/-- The frame-end update of an ACTIVE frame: every entry, then the alerts and the report of the lowest address that became
LOST (R15, R87). The alerts are raised in address order, since the spec gives none (DESIGN CHOICE, log entry 36). A
payload carries the entry's values after the update, which the spec leaves open for NODE_RECOVERED (DESIGN CHOICE, log
entry 41). -/
def State.frameEndUpdate (s : State) : State :=
  let old := s.chain
  let s := s.onChain fun c => c.mapNodes fun _ e => e.frameEnd s.seq.frameNumber s.profile.lossThreshold
  let s := allNodes.foldl (fun acc n =>
    let e := s.chain.node n
    if (old.node n).state ≠ .lost ∧ e.state = .lost then acc.raise .nodeLost (nodePayload n e)
    else if (old.node n).state = .lost ∧ e.state = .present then acc.raise .nodeRecovered (nodePayload n e)
    else acc) s
  match allNodes.find? fun n => (old.node n).state != .lost && (s.chain.node n).state == .lost with
  | some n => s.onTransit fun t => { t with nodeLosses := t.nodeLosses ++ [n] }
  | none => s

/-- The nodes failed in the frame, as a set: bit n − 1 for node n. -/
def Chain.failedSet (c : Chain) : BitVec 20 :=
  BitVec.ofNat 20 ((allNodes.map fun n => if (c.node n).failedMark then 2 ^ (n - 1) else 0).sum)

/-- The order in the chain's slot completes and the slot is emptied. -/
def State.completeChainOrder (s : State) (code : Completion) (detail : Word) (answer : List Byte := [])
    (truncated : Bool := false) : State :=
  match s.chain.slot with
  | none => s
  | some o =>
    (s.complete o.buffer code detail answer false truncated).onChain fun c =>
      { c with slot := none, waitTimer := none }

end Sys2Proof.Machine
end

