-- ==== Sys2Proof/Machine/Align.lean ====
section
/-! DEFINITION. The Alignment Engine: the six stages of an evaluation and the hand-over (Chapter 4). -/

namespace Sys2Proof.Machine

open Sys2Proof

/-! ## Stage 1: calibration (R63) -/

/-- Vc of a raw code, and whether it saturated. -/
def calibrateCell (gain offset : Int) (raw : Nat) : Nat × Bool :=
  clamp16 (raw + offset + roundAway (raw * gain) 1000000)

/-! ## Stage 2: the sampling instant (R64) -/

def samplingInstant (issue : Word) (hops hopDelay offset : Nat) : Word :=
  issue + BitVec.ofNat 32 (hops * hopDelay + offset)

/-! ## Stage 3: placing an instant in the history (R65, R66) -/

/-- What placing an instant against a view gives: the value, how it was found, and the entries it was taken from. -/
structure Placed where
  value : Int
  ahead : Bool
  aged  : Bool
  empty : Bool
  used  : List HistoryEntry
deriving DecidableEq, Repr

/-- Interpolation between an older entry `a` and a newer `b` for an instant of age `g` (R66). -/
def interpolate (ia ib : Int) (ageA ageB g : Nat) : Int :=
  ia + roundAway ((ib - ia) * ((ageA - g : Nat) : Int)) (ageA - ageB)

/-- Finds age `g` in entries that run from oldest to newest (R65, step 4). -/
def bracket (reference : Word) (value : HistoryEntry → Int) (g : Nat) : List HistoryEntry → Placed
  | [] => ⟨0, false, false, true, []⟩
  | [a] => ⟨value a, false, false, false, [a]⟩
  | a :: b :: rest =>
    if g = age reference a.tag then ⟨value a, false, false, false, [a]⟩
    else if g < age reference a.tag ∧ age reference b.tag < g then
      ⟨interpolate (value a) (value b) (age reference a.tag) (age reference b.tag) g, false, false, false, [a, b]⟩
    else bracket reference value g (b :: rest)

/-- Places an instant against a view, oldest entry first (R65). -/
def place (view : List HistoryEntry) (value : HistoryEntry → Int) (ts : Word) : Placed :=
  match view, view.getLast? with
  | oldest :: _, some newest =>
    let d := age ts newest.tag
    let g := age newest.tag ts
    if 1 ≤ d ∧ d < 2 ^ 31 then ⟨value newest, true, false, false, [newest]⟩
    else if age newest.tag oldest.tag < g then ⟨value oldest, false, true, false, [oldest]⟩
    else bracket newest.tag value g view
  | _, _ => ⟨0, false, false, true, []⟩

/-! ## Stage 4: compensation (R67) -/

/-- Vcomp of a cell, and whether it saturated. -/
def compensate (vc : Nat) (current : Int) (resistance : Nat) : Nat × Bool :=
  clamp16 (vc + roundAway (current * resistance) 100000)

/-! ## One node slot (R62) -/

/-- The slot with its computed fields and flags cleared. -/
def NodeSlot.clearComputed (x : NodeSlot) : NodeSlot :=
  { x with vc := [], vcomp := [], ts := none, current := 0, flags := .clear }

/-- A slot that receives Stage 1 alone. -/
def NodeSlot.untimed (x : NodeSlot) (vc : List (Nat × Bool)) : NodeSlot :=
  { x with
    cellMark := .stale
    vc := vc.map (·.1)
    vcomp := vc.map (·.1)
    ts := none
    current := 0
    flags := { NodeFlags.clear with notTimed := true, vcSat := vc.any (·.2) } }

/-- A slot that receives Stages 1 to 4. -/
def NodeSlot.timed (x : NodeSlot) (p : Profile) (n : Nat) (vc : List (Nat × Bool)) (capture : Capture)
    (issue : Word) (view : List HistoryEntry) : NodeSlot :=
  let ts := samplingInstant issue capture.hops p.hopDelay capture.offset
  let at_ := place view HistoryEntry.current ts
  let comp := vc.mapIdx fun i v => compensate v.1 at_.value (p.resistance n (i + 1))
  { x with
    vc := vc.map (·.1)
    vcomp := comp.map (·.1)
    ts := some ts
    current := at_.value
    flags := {
      currentAhead := at_.ahead
      currentAged := at_.aged
      noCurrent := at_.empty
      currentSat := at_.used.any (·.iSat)
      notTimed := false
      vcSat := vc.any (·.2)
      vcompSat := comp.any (·.2)
      unaligned := false } }

/-- Sorts a slot by its cell block and its node's state and applies the stages of R62. -/
def NodeSlot.evaluate (x : NodeSlot) (p : Profile) (n : Nat) (state : NodeState) (view : List HistoryEntry) :
    NodeSlot :=
  if state = .absent then x.clearComputed
  else
    let vc := x.codes.map (calibrateCell (p.gain n) (p.offset n))
    match x.cellMark, x.capture with
    | .good, some c =>
      match c.issue with
      | some t => x.timed p n vc c t view
      | none => x.untimed vc
    | .good, none => x.untimed vc
    | .stale, _ => if x.codes = [] then x.clearComputed else x.untimed vc
    | .failed, _ => x.clearComputed
    | .notGathered, _ => x.clearComputed

/-! ## Stage 5: aggregates (R68 to R70) -/

/-- A valid cell or sensor with the value considered. -/
def Extreme.lower (best x : Extreme) : Extreme := if x.value < best.value then x else best
def Extreme.higher (best x : Extreme) : Extreme := if best.value < x.value then x else best

def contributes (state : NodeState) : Bool := state == .present || state == .degraded

/-- The valid cells of one node: channel, Vc and Vcomp (R68). -/
def validCells (e : NodeEntry) (x : NodeSlot) : List (Nat × Nat × Nat) :=
  if contributes e.state && x.cellMark == .good then
    ((x.vc.zip x.vcomp).mapIdx fun i v => (i + 1, v.1, v.2)).filter fun v => decide (v.1 ≤ e.cells)
  else []

/-- The valid sensors of one node: channel and value. -/
def validTemps (e : NodeEntry) (x : NodeSlot) : List (Nat × Int) :=
  if contributes e.state && x.tempMark == .good then
    ((x.temps.mapIdx fun i v => (i + 1, v)).filter fun v => decide (v.1 ≤ e.temps) && v.2 != 0x8000#16).map
      fun v => (v.1, v.2.toInt)
  else []

/-- A valid cell with its node. -/
structure ValidCell where
  node    : Nat
  channel : Nat
  vc      : Nat
  vcomp   : Nat
deriving DecidableEq, Repr

def cellFigures : List ValidCell → Option CellFigures
  | [] => none
  | c :: rest =>
    let vc := fun (x : ValidCell) => (⟨x.vc, x.node, x.channel⟩ : Extreme)
    let vcomp := fun (x : ValidCell) => (⟨x.vcomp, x.node, x.channel⟩ : Extreme)
    let all := c :: rest
    let lo := (rest.map vcomp).foldl Extreme.lower (vcomp c)
    let hi := (rest.map vcomp).foldl Extreme.higher (vcomp c)
    some {
      minVcomp := lo
      maxVcomp := hi
      minVc := (rest.map vc).foldl Extreme.lower (vc c)
      maxVc := (rest.map vc).foldl Extreme.higher (vc c)
      sumVc := (all.map (·.vc)).sum
      meanVcomp := roundUp (all.map (·.vcomp)).sum all.length
      imbalance := (hi.value - lo.value).toNat }

def tempFigures : List Extreme → Option TempFigures
  | [] => none
  | t :: rest => some ⟨rest.foldl Extreme.lower t, rest.foldl Extreme.higher t⟩

/-! ## Stage 6: plausibility (R71) -/

structure Plausibility where
  outcome : PlausOutcome
  reason  : PlausReason
  packMv  : Nat
  cellMv  : Nat
  ahead   : Bool
  aged    : Bool
deriving DecidableEq, Repr

def Plausibility.notEvaluated (r : PlausReason) : Plausibility := ⟨.notEvaluated, r, 0, 0, false, false⟩

/-- Every declared cell is among the valid cells. -/
def declaredCellsValid (p : Profile) (cells : List ValidCell) : Bool :=
  (List.range' 1 p.declared).all fun n =>
    (List.range' 1 (p.cellCount n)).all fun c => cells.any fun x => x.node == n && x.channel == c

def plausibility (p : Profile) (patrol : Bool) (cells : List ValidCell) (issueA : Option Word)
    (view : List HistoryEntry) : Plausibility :=
  if patrol then .notEvaluated .patrol
  else if !declaredCellsValid p cells then .notEvaluated .incomplete
  else match issueA with
    | none => .notEvaluated .noIssue
    | some t =>
      let at_ := place view (fun e => (e.packMv : Int)) t
      if at_.empty then .notEvaluated .noHistory
      else if at_.used.any fun e => e.vSat && e.packMv == 1000000 then .notEvaluated .vSat
      else
        let c := roundUp (cells.map (·.vc)).sum 10
        let violated := decide ((p.plausibility : Int) < (at_.value - (c : Int)).natAbs)
        ⟨if violated then .violation else .pass, .noReason, at_.value.toNat, c, at_.ahead, at_.aged⟩

/-! ## The evaluation and its hand-over (R61, R72) -/

/-- The Frame Table after an evaluation, its report awaited, with the figures handed over. -/
def State.evaluate (s : State) (patrol : Bool) : FrameTable × Aggregate :=
  let view := s.sensing.history
  let slots := s.table.slots.mapIdx fun i x =>
    x.evaluate s.profile (i + 1) (s.chain.node (i + 1)).state view
  let table := { s.table with slots := slots }
  let cells := (allNodes.map fun n => (validCells (s.chain.node n) (table.slot n)).map fun v =>
    (⟨n, v.1, v.2.1, v.2.2⟩ : ValidCell)).flatten
  let temps := (allNodes.map fun n => (validTemps (s.chain.node n) (table.slot n)).map fun v =>
    (⟨v.2, n, v.1⟩ : Extreme)).flatten
  let pl := plausibility s.profile patrol cells s.table.issueA view
  let figures : Aggregate := {
    frameNumber := s.seq.frameNumber
    place := s.table.evalCount + 1
    validCells := cells.length
    cells := cellFigures cells
    temps := tempFigures temps
    outcome := pl.outcome
    reason := pl.reason
    packMv := pl.packMv
    cellMv := pl.cellMv
    packAhead := pl.ahead
    packAged := pl.aged
    contributed := allNodes.filter fun n => !(validCells (s.chain.node n) (table.slot n)).isEmpty }
  ({ table with evalCount := s.table.evalCount + 1, aggregate := some figures, align := .awaitingReport }, figures)

/-! ## Reads reaching the Frame Table (R33, R60, R73) -/

/-- The timing capture of a cell block read now (R60). -/
def State.captureNow (s : State) (n : Nat) : Capture :=
  let e := s.chain.node n
  ⟨e.path, e.hops, e.offset,
    match e.path with
    | .pathA => s.table.issueA
    | .pathB => s.table.issueB
    | .noPath => none⟩

/-- A CELLS read ends with a mark and the words kept, if any: the block and its capture are replaced, the computed
fields cleared, and UNALIGNED set when words are held. -/
def State.writeCells (s : State) (n : Nat) (mark : Mark) (words : List Half) : State :=
  let x := (s.table.slot n).clearComputed
  let x := { x with
    cellMark := mark
    codes := words.map (·.toNat)
    capture := if words = [] then none else some (s.captureNow n)
    flags := { NodeFlags.clear with unaligned := !words.isEmpty } }
  s.onTable fun t => t.setSlot n x

/-- A TEMPS read ends with a mark and the words kept, if any. -/
def State.writeTemps (s : State) (n : Nat) (mark : Mark) (words : List Half) : State :=
  s.onTable fun t => t.setSlot n { t.slot n with tempMark := mark, temps := words }

end Sys2Proof.Machine
end

