-- ==== Sys2Proof/Machine/Protect.lean ====
section
/-! DEFINITION. The Protection Monitor: persistence, trips, the supervision record (Chapter 5). -/

namespace Sys2Proof.Machine

open Sys2Proof

def Protection.latch (p : Protection) (k : TripKind) : Option TripAction :=
  (p.latches[tripKindCode k]?).getD none

def Protection.setLatch (p : Protection) (k : TripKind) (a : Option TripAction) : Protection :=
  { p with latches := p.latches.setIfInBounds (tripKindCode k) a }

/-- The persistence counter of an evaluated kind; the other kinds have none. -/
def Protection.counter (p : Protection) (k : TripKind) : Nat := (p.counters[tripKindCode k]?).getD 0

def Protection.setCounter (p : Protection) (k : TripKind) (n : Nat) : Protection :=
  { p with counters := p.counters.setIfInBounds (tripKindCode k) n }

/-- What a TRIP alert reports besides the kind and the action (R90). -/
structure TripReport where
  cause     : Nat
  counter   : Nat
  node      : Nat
  channel   : Nat
  value     : Int
  limit     : Int
  reference : Nat
deriving DecidableEq, Repr

def TripReport.plain : TripReport := ⟨0, 0, 0, 0, 0, 0, 0⟩

/-- The 20 bytes of a TRIP payload (R179). -/
def tripPayload (k : TripKind) (a : TripAction) (r : TripReport) : List Byte :=
  [BitVec.ofNat 8 (tripKindCode k), BitVec.ofNat 8 (tripActionCode a), BitVec.ofNat 8 r.cause,
    BitVec.ofNat 8 r.counter, BitVec.ofNat 8 r.node, BitVec.ofNat 8 r.channel, 0, 0] ++
  leSigned 4 r.value ++ leSigned 4 r.limit ++ leBytes 4 r.reference

/-- A kind trips: a clear latch is set with the action that applies now, the alert is raised and an ORDERLY_OPEN
demand is made; a set latch makes it have no effect (R83). -/
def State.trip (s : State) (k : TripKind) (r : TripReport) : State :=
  match s.prot.latch k with
  | some _ => s
  | none =>
    let a := s.profile.actionOf k
    let s := (s.onProt fun p => p.setLatch k (some a)).raise .trip (tripPayload k a r)
    if a = .orderlyOpen then s.onTransit fun t => { t with demands := t.demands + 1 } else s

/-- The outcome of judging a kind (R78). -/
inductive Verdict where
  | violating | passing | unjudged
deriving DecidableEq, Repr

def verdictOf (violated : Bool) : Verdict := if violated then .violating else .passing

/-- Updates a kind's counter and trips it when a violation leaves the counter at its persistence or above (R81). -/
def State.judgeKind (s : State) (k : TripKind) (v : Verdict) (r : TripReport) : State :=
  match v with
  | .unjudged => s
  | .passing => s.onProt fun p => p.setCounter k 0
  | .violating =>
    let n := satAdd 15 (s.prot.counter k) 1
    let s := s.onProt fun p => p.setCounter k n
    if s.profile.persistenceOf k ≤ n then s.trip k { r with counter := n } else s

/-- A cell or temperature kind judged against a figure of the record of a frame (R79, R90). -/
def State.judgeFigure (s : State) (frame : Half) (k : TripKind) (figure : Option Extreme) (limit : Int) (high : Bool) :
    State :=
  match figure with
  | none => s.judgeKind k .unjudged .plain
  | some x =>
    let violated := if high then decide (limit < x.value) else decide (x.value < limit)
    s.judgeKind k (verdictOf violated)
      { TripReport.plain with
        node := x.node, channel := x.channel, value := x.value, limit := limit, reference := frame.toNat }

def plausVerdict : PlausOutcome → Verdict
  | .notEvaluated => .unjudged
  | .pass => .passing
  | .violation => .violating

/-- An evaluation record arrives: the six ALIGN kinds are judged, then the staleness timer is restarted and the mark
becomes FRESH (R78 to R80, R84). Kinds that trip together raise their alerts in mask order: the spec needs no order
(DESIGN CHOICE, log entry 36). -/
def State.judgeEvaluation (s : State) (a : Aggregate) : State :=
  let p := s.profile
  let s := s.judgeFigure a.frameNumber .cellOv (a.cells.map (·.maxVc)) p.cellOv true
  let s := s.judgeFigure a.frameNumber .cellUv (a.cells.map (·.minVcomp)) p.cellUv false
  let s := s.judgeFigure a.frameNumber .cellUvAbs (a.cells.map (·.minVc)) p.cellUvAbs false
  let s := s.judgeFigure a.frameNumber .tempHigh (a.temps.map (·.maxTemp)) p.tempHigh true
  let s := s.judgeFigure a.frameNumber .tempLow (a.temps.map (·.minTemp)) p.tempLow false
  let s := s.judgeKind .plausibility (plausVerdict a.outcome)
    { TripReport.plain with
      value := ((a.packMv : Int) - (a.cellMv : Int)).natAbs, limit := p.plausibility,
      reference := a.frameNumber.toNat }
  s.onProt fun q => { q with
    stale := false, stalenessTimer := some (1000 * p.supervision), lastEvaluation := some s.now }

/-- A delivered history entry judges both current kinds (R82). -/
def State.judgeEntry (s : State) (e : HistoryEntry) : State :=
  let p := s.profile
  let discharge := decide ((p.dischargeMax : Int) < e.current) || (e.iSat && e.current == 2000000)
  let charge := decide (e.current < -(p.chargeMax : Int)) || (e.iSat && e.current == -2000000)
  let report : Int → TripReport := fun limit =>
    { TripReport.plain with value := e.current, limit := limit, reference := e.tag.toNat }
  (s.judgeKind .currentDischarge (verdictOf discharge) (report p.dischargeMax)).judgeKind
    .currentCharge (verdictOf charge) (report (-(p.chargeMax : Int)))

/-- The time since the last evaluation in ms, or FFFFFFFFh (R90, R99). The record keeps a 32-bit pack time, so a time of
2^32 µs or more is given modulo 2^32 µs (DESIGN CHOICE, log entry 37). -/
def State.sinceEvaluation (s : State) : Nat :=
  match s.prot.lastEvaluation with
  | none => 0xFFFFFFFF
  | some t => age s.now t / 1000

/-- SUPERVISION_LOSS trips on staleness (R86). -/
def State.tripStale (s : State) : State :=
  s.trip .supervisionLoss { TripReport.plain with cause := 1, value := s.sinceEvaluation }

/-- SAFE_LINE trips (R88). -/
def State.tripSafeLine (s : State) : State := s.trip .safeLine .plain

/-- TAMPER trips (R89). -/
def State.tripTamper (s : State) : State := s.trip .tamper .plain

/-- A kind's cause is present, as CLEAR_TRIPS tests it (R76). -/
def State.causePresent (s : State) (tamperIn : Bool) (k : TripKind) : Bool :=
  match k with
  | .supervisionLoss => s.prot.stale ||
      (s.profile.openOnLoss && allNodes.any fun n => (s.chain.node n).state == .lost)
  | .safeLine => s.inputs.pins.safeOpen
  | .tamper => tamperIn
  | k => s.prot.counter k != 0

/-- The mask of latches set with an opening action (R99). -/
def Protection.openingMask (p : Protection) : Nat :=
  (allTripKinds.map fun k => match p.latch k with
    | some .orderlyOpen | some .immediateOpen => 2 ^ tripKindCode k
    | _ => 0).sum

end Sys2Proof.Machine
end

