-- ==== Sys2Proof/Machine/Contact.lean ====
section
/-! DEFINITION. The Contactor Sequencer's operations: states and commands, the aux watch, faults, the closing steps and
the open path (Chapter 6). -/

namespace Sys2Proof.Machine

open Sys2Proof

/-! ## Timers -/

/-- The step timer starts for a time in ms. -/
def State.startStep (s : State) (ms : Nat) : State :=
  s.onCont fun c => { c with stepTimer := some (1000 * ms), stepStart := s.now }

def Contactors.stopStep (c : Contactors) : Contactors := { c with stepTimer := none }

/-! ## The aux watch (R97) -/

/-- A contactor has an entry in the fault record. -/
def Contactors.faulty (c : Contactors) (k : Contactor) : Bool :=
  [0, 3, 6, 9].any fun i => c.faults.getLsbD (i + contactorCode k)

/-- The level a contactor is expected to hold; `none` where it is awaited or not watched. -/
def Contactors.expected (c : Contactors) (k : Contactor) : Option Bool :=
  if c.faulty k then none
  else match c.state, k with
    | .opened, _ => some false
    | .negClosing, .neg => none
    | .negClosing, _ => some false
    | .precharging, .pos => some false
    | .precharging, .neg => some true
    | .precharging, .pre => if c.stepTimer.isNone then some true else none
    | .posClosing, .pos => none
    | .posClosing, _ => some true
    | .preReleasing, .pre => none
    | .preReleasing, _ => some true
    | .closed, .pre => some false
    | .closed, _ => some true
    | .holdoff, .pre => some false
    | .holdoff, _ => some true
    | .posOpening, .pos => none
    | .posOpening, .neg => if c.commands.neg then some true else none
    | .posOpening, .pre => some false
    | .weldCheck, .neg => some true
    | .weldCheck, _ => some false
    | .negOpening, .pos => some false
    | .negOpening, _ => none
    | .faulted, _ => none

/-- A contactor's level differs from the one it is expected to hold. -/
def Contactors.differs (c : Contactors) (k : Contactor) : Bool :=
  match c.expected k with
  | some e => c.aux.get k != e
  | none => false

/-- A watch set afresh: a present difference starts a fresh timer for the feedback window. -/
def State.freshWatch (s : State) (k : Contactor) : Option StampedTimer :=
  if s.cont.differs k then some ⟨1000 * s.profile.window, s.now⟩ else none

/-- A state change restarts every watch. -/
def State.restartWatches (s : State) : State :=
  s.onCont fun c => { c with watches := ⟨s.freshWatch .pos, s.freshWatch .neg, s.freshWatch .pre⟩ }

/-- A new level of one contactor starts or stops its watch. -/
def State.updateWatch (s : State) (k : Contactor) : State :=
  if s.cont.differs k then
    match s.cont.watches.get k with
    | some _ => s
    | none => s.onCont fun c => { c with watches := c.watches.set k (s.freshWatch k) }
  else s.onCont fun c => { c with watches := c.watches.set k none }

/-! ## Faults (R114) -/

/-- The bytes of an edge log, oldest first, with empty entries marked (R179). -/
def edgeBytes (log : List Edge) : List Byte :=
  ((List.range 4).map fun i => match log[i]? with
    | some e => leBytes 4 e.time.toNat ++ [BitVec.ofNat 8 (boolCode e.closed), 1, 0, 0]
    | none => List.replicate 8 0).flatten

/-- The 52 bytes of a CONTACTOR_FAULT payload (R179). The aux levels and the commands are POS, NEG and PRE in bits 0 to 2 of
their byte, places that R179 does not give (DESIGN CHOICE, log entry 58). -/
def State.faultPayload (s : State) (f : FaultKind) (k : Contactor) (since : Word) : List Byte :=
  let voltages := match f, s.cont.entry with
    | .weld, some e => leBytes 4 e.packMv ++ leBytes 4 e.linkMv
    | .prechargeTimeout, some e => leBytes 4 e.packMv ++ leBytes 4 e.linkMv
    | _, _ => List.replicate 8 0
  [BitVec.ofNat 8 (faultKindCode f), BitVec.ofNat 8 (contactorCode k),
    BitVec.ofNat 8 (contactorStateCode s.cont.state), BitVec.ofNat 8 (tripleBits s.cont.aux),
    BitVec.ofNat 8 (tripleBits s.cont.commands), 0, 0, 0] ++
  voltages ++ leBytes 4 since.toNat ++ edgeBytes (s.cont.logs.get k)

/-- Enters a fault in the fault record. -/
def Contactors.enterFault (c : Contactors) (f : FaultKind) (k : Contactor) : Contactors :=
  { c with faults := c.faults ||| BitVec.ofNat 12 (2 ^ (3 * faultKindCode f + contactorCode k)) }

/-- A fault is found: the alert is raised on the state as it stands, and the fault is entered in the record. -/
def State.fault (s : State) (f : FaultKind) (k : Contactor) (since : Word) : State :=
  (s.raise .contactorFault (s.faultPayload f k since)).onCont fun c => c.enterFault f k

/-- Clears the path record and gives it a cause. -/
def State.clearPath (s : State) (cause : Option OpenCause) : State :=
  s.onCont fun c => { c with cause := cause, faults := 0, weldUnchecked := false }

/-! ## The open path (R104 to R109) -/

/-- The detail word of an OPEN_PACK that completes OK (R176). -/
def State.openDetail (s : State) : Word :=
  packDetail [(1, contactorStateCode s.cont.state),
    (1, match s.cont.cause with | some c => openCauseCode c | none => 0), (2, s.cont.faultWord)]

/-- The end of the path (R109). -/
def State.endPath (s : State) : State :=
  let s := s.onCont fun c => { c.stopStep with state := if c.faults = 0 then .opened else .faulted }
  let s := s.restartWatches
  match s.cont.openSlot with
  | none => s
  | some n => (s.complete n .ok s.openDetail).onCont fun c => { c with openSlot := none }

/-- Enters NEG_OPENING: all commands off, and the path ends at once when NEG and PRE are already OPEN (R108). -/
def State.enterNegOpening (s : State) : State :=
  let s := s.onCont fun c => { c with state := .negOpening, commands := ⟨false, false, false⟩ }
  let s := (s.startStep s.profile.window).restartWatches
  if s.cont.aux.neg || s.cont.aux.pre then s else s.endPath

/-- Enters WELD_CHECK (R107). -/
def State.enterWeldCheck (s : State) : State :=
  let s := s.onCont fun c => { c with state := .weldCheck, commands := ⟨false, true, false⟩ }
  (s.startStep s.profile.weldWindow).restartWatches

/-- The POS wait ends: the weld check follows with NEG on; after a kill it cannot be made (R106). -/
def State.endPosWait (s : State) : State :=
  if s.cont.commands.neg then s.enterWeldCheck
  else (s.onCont fun c => { c with weldUnchecked := true }).enterNegOpening

/-- POS carries current: the newest delivered entry is saturated or above the interrupt limit (R105). -/
def State.posCarries (s : State) : Bool :=
  match s.cont.entry with
  | none => false
  | some e => e.iSat || decide (s.profile.interrupt < e.current.natAbs)

/-- The OPENED_UNDER_CURRENT payload: current, tag, limit, the state left, the cause. -/
def State.openedPayload (s : State) : List Byte :=
  match s.cont.entry with
  | none => []
  | some e => packFields [(4, e.current), (4, e.tag.toNat), (4, s.profile.interrupt),
      (1, contactorStateCode s.cont.state), (1, match s.cont.cause with | some c => openCauseCode c | none => 0)]

/-- Enters POS_OPENING from a state with POS commanded on; `killed` switches NEG off too (R105, R106). -/
def State.enterPosOpening (s : State) (killed : Bool) : State :=
  let s := if s.posCarries then s.raise .openedUnderCurrent s.openedPayload else s
  let s := s.onCont fun c => { c with state := .posOpening, commands := ⟨false, !killed, false⟩ }
  let s := (s.startStep s.profile.window).restartWatches
  if s.cont.aux.pos then s else s.endPosWait

/-- Enters HOLDOFF; a hold-off time of 0 passes it at once (R104). -/
def State.enterHoldoff (s : State) : State :=
  let s := s.onCont fun c => { c with state := .holdoff }
  let s := (s.startStep s.profile.holdoff).restartWatches
  if s.profile.holdoff = 0 then s.enterPosOpening false else s

/-! ## Closing (R100 to R103) -/

/-- A close is in progress. -/
def ContactorState.closing : ContactorState → Bool
  | .negClosing | .precharging | .posClosing | .preReleasing => true
  | _ => false

/-- POS is commanded on in a closing state. -/
def ContactorState.posOn : ContactorState → Bool
  | .posClosing | .preReleasing => true
  | _ => false

/-- A close is abandoned: the precharge timer stops, CLOSE_PACK completes ABORTED with the cause and the state, and the
open path begins (R103). -/
def State.abandonClose (s : State) (cause : OpenCause) (killed : Bool) : State :=
  let left := s.cont.state
  let s := s.onCont fun c => { c with prechargeTimer := none, cause := some cause }
  let s := match s.cont.closeSlot with
    | none => s
    | some n => (s.complete n .aborted
        (packDetail [(1, openCauseCode cause), (1, contactorStateCode left)])).onCont fun c =>
          { c with closeSlot := none }
  if left.posOn then s.enterPosOpening killed else s.enterNegOpening

/-- NEG has closed: PRECHARGING (R100). -/
def State.enterPrecharging (s : State) : State :=
  let s := s.onCont fun c => { c with
    state := .precharging
    commands := ⟨false, true, true⟩
    prechargeTimer := some (1000 * s.profile.prechargeMax)
    prechargeStart := s.now }
  (s.startStep s.profile.window).restartWatches

/-- The precharge completion test (R101). -/
def State.prechargeDone (s : State) (e : HistoryEntry) : Bool :=
  s.cont.stepTimer.isNone && decide (0 < e.packMv) && !e.vSat &&
    decide (e.packMv * s.profile.ratio ≤ e.linkMv * 100)

/-- The test has passed: POS_CLOSING (R101). -/
def State.enterPosClosing (s : State) : State :=
  let s := s.onCont fun c => { c with
    state := .posClosing
    commands := ⟨true, true, true⟩
    prechargeTimer := none
    prechargeMs := age s.now c.prechargeStart / 1000 }
  (s.startStep s.profile.window).restartWatches

/-- POS has closed: PRE_RELEASING (R102). -/
def State.enterPreReleasing (s : State) : State :=
  let s := s.onCont fun c => { c with state := .preReleasing, commands := ⟨true, true, false⟩ }
  (s.startStep s.profile.window).restartWatches

/-- PRE has opened: CLOSED, and CLOSE_PACK completes OK with the precharge duration (R102). -/
def State.enterClosed (s : State) : State :=
  let s := (s.onCont fun c => { c.stopStep with state := .closed, commands := ⟨true, true, false⟩ }).restartWatches
  match s.cont.closeSlot with
  | none => s
  | some n => (s.complete n .ok (BitVec.ofNat 32 s.cont.prechargeMs)).onCont fun c => { c with closeSlot := none }

/-! ## What reaches the sequencer from outside (R98, R111, R112) -/

/-- A watch fault acts according to the state (R98). -/
def State.watchFault (s : State) (k : Contactor) (since : Word) : State :=
  let dropout := s.cont.expected k == some true && k != .pre
  let kind : FaultKind := if dropout then .dropout else .feedback
  let cause : OpenCause := if dropout then .dropout else .feedback
  let s := s.onCont fun c => { c with watches := c.watches.set k none }
  match s.cont.state with
  | .opened =>
    ((s.fault kind k since).onCont fun c => { c.stopStep with state := .faulted }).restartWatches
  | .negClosing | .precharging | .posClosing | .preReleasing => (s.fault kind k since).abandonClose cause false
  | .closed =>
    let s := s.raise .contactorFault (s.faultPayload kind k since)
    let s := s.clearPath (some cause)
    (s.onCont fun c => c.enterFault kind k).enterPosOpening false
  | .holdoff => (s.fault kind k since).enterPosOpening false
  | .posOpening | .weldCheck | .negOpening => s.fault kind k since
  | .faulted => s

/-- An orderly-open demand (R111). -/
def State.takeDemand (s : State) : State :=
  match s.cont.state with
  | .closed => (s.clearPath (some .orderly)).enterHoldoff
  | .negClosing | .precharging | .posClosing | .preReleasing => s.abandonClose .orderly false
  | .opened | .faulted | .holdoff | .posOpening | .weldCheck | .negOpening => s

/-- A kill-gate assertion (R112). -/
def State.takeKill (s : State) : State :=
  match s.cont.state with
  | .opened | .faulted | .negOpening => s
  | .negClosing | .precharging | .posClosing | .preReleasing => s.abandonClose .kill true
  | .closed | .holdoff => (s.clearPath (some .kill)).enterPosOpening true
  | .posOpening =>
    s.onCont fun c => { c with commands := ⟨false, false, false⟩, watches := c.watches.set .neg none }
  | .weldCheck => (s.onCont fun c => { c with weldUnchecked := true }).enterNegOpening

/-- An assertion of the kill gate that waits is taken, and the edges that wait with it (R112). -/
def State.takeWaitingKill (s : State) : State :=
  if s.transit.killEdges.contains true then (s.onTransit fun t => { t with killEdges := [] }).takeKill else s

/-- An event that may deassert the kill gate. R85: by the deassertion the sequencer has taken the assertion and switched
every command off; so an assertion that still waits is taken before it (DEDUCED, log entry 46). -/
def State.afterKill (s : State) (f : State → State) : State :=
  if s.killGate && !(f s).killGate then f s.takeWaitingKill else f s

/-- CLEAR_TRIPS hands over the CONTACTOR bit: the new state and the answer, cleared or not (R115). -/
def State.clearContactor (s : State) : State × Bool :=
  if s.cont.state ≠ .faulted then (s, true)
  else if s.cont.aux = ⟨false, false, false⟩ ∧ s.killGate = false then
    ((s.onCont fun c => { c with state := .opened, faults := 0, weldUnchecked := false }).restartWatches, true)
  else (s, false)

/-! ## Aux levels (R96) -/

/-- An edge joins a log of the four most recent. -/
def logEdge (log : List Edge) (e : Edge) : List Edge := (log ++ [e]).drop (log.length + 1 - 4)

/-- The sequencer's reaction to a level just taken: the wait it satisfies, and the watch (R100 to R102, R106, R108). -/
def State.levelReached (s : State) (k : Contactor) (closed : Bool) : State :=
  match s.cont.state, k, closed with
  | .negClosing, .neg, true => s.enterPrecharging
  | .precharging, .pre, true => (s.onCont Contactors.stopStep).updateWatch .pre
  | .posClosing, .pos, true => s.enterPreReleasing
  | .preReleasing, .pre, false => s.enterClosed
  | .posOpening, .pos, false => s.endPosWait
  | .negOpening, .neg, false => if s.cont.aux.pre then s.updateWatch .neg else s.endPath
  | .negOpening, .pre, false => if s.cont.aux.neg then s.updateWatch .pre else s.endPath
  | _, k, _ => s.updateWatch k

/-- Each aux input's present level is taken without the 1 ms hold, and the watch restarts; after a wake an edge is
logged where the level differs from the log's last entry (R96, R116). -/
def State.sampleAux (s : State) (log : Bool) : State :=
  let levels := PinLevels.aux s.inputs.pins
  let logged := fun k (old : List Edge) =>
    let last := match old.getLast? with
      | some e => e.closed
      | none => false
    if log && levels.get k != last then logEdge old ⟨levels.get k, s.now⟩ else old
  (s.onCont fun c => { c with
    aux := levels
    holds := ⟨none, none, none⟩
    logs := ⟨logged .pos c.logs.pos, logged .neg c.logs.neg, logged .pre c.logs.pre⟩ }).restartWatches

/-- The watch and the holds are suspended while the power state is other than ACTIVE (R116). -/
def Contactors.suspend (c : Contactors) : Contactors :=
  { c with watches := ⟨none, none, none⟩, holds := ⟨none, none, none⟩ }

end Sys2Proof.Machine
end

