-- ==== Sys2Proof/Machine/StoreOps.lean ====
section
/-! DEFINITION. The Profile Store's operations: the target bank, rejection, the tamper lock, activation and the reset
choice (Chapter 10). -/

namespace Sys2Proof.Machine

open Sys2Proof

/-! ## Banks (R160) -/

/-- The ACTIVE bank; with the invariant that exactly one bank is ACTIVE it is A or B. -/
def ProfileStore.activeBank (p : ProfileStore) : Bank := if p.bankA.state = .active then .bankA else .bankB

/-- The bank the session works on: the one that is not ACTIVE. -/
def ProfileStore.targetBank (p : ProfileStore) : Bank := if p.bankA.state = .active then .bankB else .bankA

def ProfileStore.bank (p : ProfileStore) : Bank → BankContent
  | .bankA => p.bankA
  | .bankB => p.bankB

def ProfileStore.target (p : ProfileStore) : BankContent := p.bank p.targetBank
def ProfileStore.active (p : ProfileStore) : BankContent := p.bank p.activeBank

def ProfileStore.setBank (p : ProfileStore) (b : Bank) (x : BankContent) : ProfileStore :=
  match b with
  | .bankA => { p with bankA := x }
  | .bankB => { p with bankB := x }

def ProfileStore.setTarget (p : ProfileStore) (x : BankContent) : ProfileStore := p.setBank p.targetBank x

/-- The target bank becomes INVALID. -/
def ProfileStore.invalidate (p : ProfileStore) : ProfileStore := p.setTarget { p.target with state := .invalid }

def ProfileOrder.buffer : ProfileOrder → Nat
  | .erase n => n
  | .program n _ _ => n
  | .verify n => n
  | .activate n => n

/-- The order in the Profile Store's slot completes and the slot is emptied. -/
def State.completeStoreOrder (s : State) (code : Completion) (detail : Word) : State :=
  match s.store.slot with
  | none => s
  | some o => (s.complete o.buffer code detail).onStore fun p => { p with slot := none }

/-- The UPDATE_REJECTED payload: reason, bank, declared version, and the offset of a failed chunk: 0 where no
chunk failed, since R164 and R166 list no offset and R174 does not say that the field is then left out (DESIGN CHOICE, log
entry 63). -/
def ProfileStore.rejectedPayload (p : ProfileStore) (reason offset : Nat) : List Byte :=
  packFields [(1, reason), (1, bankCode p.targetBank), (4, p.declVersion.toNat), (2, offset)]

/-- The UPDATE_LOCKED payload: cause REJECTIONS 0 or TAMPER 1. -/
def lockedPayload (cause : Nat) : List Byte := packFields [(1, cause)]

/-- The condition of R168 on the contactors. -/
def State.contactorsSettled (s : State) : Bool :=
  match s.cont.state with
  | .opened | .faulted => true
  | .closed => !s.store.chainChange
  | _ => false

/-- The conditions of an activation (R168). -/
def State.activationReady (s : State) : Bool := s.contactorsSettled && s.seq.sampler != .running

/-! ## Stopping the sampler (R43, R45) -/

/-- A pending SELECT_LIST completes ABORTED, with the sampler state in its detail word. -/
def State.abortSwitch (s : State) : State :=
  match s.seq.slot with
  | some (.select n) =>
    (s.complete n .aborted (packDetail [(1, samplerCode s.seq.sampler)])).onSeq fun q =>
      { q with slot := none, pendingSwitch := none }
  | _ => s.onSeq fun q => { q with pendingSwitch := none }

/-- The sampler leaves sampling: the timer stops, the start-due mark clears, the active set empties (R38). -/
def Sequencer.leave (q : Sequencer) (st : SamplerState) : Sequencer :=
  { q with sampler := st, frameTimer := none, startDue := false, activeSlot := none }

/-- An activation that changes CHAIN stops the sampler (R45). -/
def State.stopForChainChange (s : State) : State :=
  match s.seq.sampler with
  | .waiting | .halted => (s.onSeq fun q => q.leave .stopped).abortSwitch
  | .stopped | .running => s

/-- The enumeration status after an activation that changes CHAIN (R18, R19). -/
def Chain.chainChanged (c : Chain) : Chain :=
  match c.enumStatus with
  | .running => { c with slot := c.slot.map fun o => { o with chainChanged := true } }
  | _ => { c with enumStatus := .needed }

/-! ## The activation (R169) -/

/-- The commit and the load: target ACTIVE with the next sequence, the floor raised, the old bank STALE, the profile in
use replaced, the session IDLE. -/
def ProfileStore.commit (p : ProfileStore) : ProfileStore :=
  let new := { p.target with state := .active, sequence := p.active.sequence + 1 }
  let old := { p.active with state := .stale }
  { ((p.setBank p.targetBank new).setBank p.activeBank old) with
    floor := new.version
    inUse := profileOf new.image
    session := .idle
    waitTimer := none
    chainChange := false }

/-- The activation is made (R169). -/
def State.activate (s : State) : State :=
  let mark := s.store.chainChange
  let s := s.onStore ProfileStore.commit
  let s := s.onProt fun p => { p with counters := Vector.replicate 8 0 }
  let s := if mark then (s.onChain Chain.chainChanged).stopForChainChange else s
  s.completeStoreOrder .ok
    (packDetail [(2, (s.store.active.sequence.toNat % 65536 : Nat)), (1, bankCode s.store.activeBank),
      (1, boolCode mark)])

/-! ## The tamper lock (R172) -/

/-- The Profile Store takes a tamper event. The chain-change mark of a wait that it ends stays set, as it does at a
timeout: the spec does not say (DESIGN CHOICE, log entry 29). -/
def State.tamperAtStore (s : State) : State :=
  let locked := fun (s : State) =>
    ((s.onStore fun p => { p with session := .locked, waitTimer := none }).completeStoreOrder .aborted
      (packDetail [(1, 1)])).raise .updateLocked (lockedPayload 1)
  match s.store.session with
  | .locked => s
  | .idle => locked (if s.store.slot.isSome then s.onStore ProfileStore.invalidate else s)
  | .receiving | .verifying | .verified | .activationPending => locked (s.onStore ProfileStore.invalidate)

/-! ## Verification (R166, R167) -/

/-- Verification ends. -/
def State.verified (s : State) : State :=
  let p := s.store
  let reason := verifyReason p.packKey p.floor p.declVersion p.declLength p.target.image
  if reason = 0 then
    (s.onStore fun p => { p.setTarget { p.target with state := .valid } with session := .verified }).completeStoreOrder
      .ok p.declVersion
  else
    let count := p.rejected + 1
    let s := s.raise .updateRejected (p.rejectedPayload reason 0)
    let s := s.onStore fun p => { p.invalidate with
      rejected := min 3 count, session := if 3 ≤ count then .locked else .idle }
    let s := s.completeStoreOrder .verifyFailed (packDetail [(1, reason)])
    if 3 ≤ count then s.raise .updateLocked (lockedPayload 0) else s

/-! ## The reset choice (R173) -/

/-- A bank other than the ACTIVE one after a reset. -/
def BankContent.afterReset (b : BankContent) : BankContent :=
  match b.state with
  | .writing | .written | .valid => { b with state := .invalid }
  | .active => { b with state := .stale }
  | .empty | .invalid | .stale => b

/-- Steps 1 to 3 of R173: with both banks ACTIVE the higher activation sequence stays, the floor is raised to the
ACTIVE bank's version, and the profile in use is loaded from it. -/
def ProfileStore.choose (p : ProfileStore) : ProfileStore :=
  let keepA := match p.bankA.state, p.bankB.state with
    | .active, .active => decide (p.bankB.sequence.toNat < p.bankA.sequence.toNat)
    | .active, _ => true
    | _, _ => false
  let q := if keepA then { p with bankB := p.bankB.afterReset } else { p with bankA := p.bankA.afterReset }
  let active := if keepA then q.bankA else q.bankB
  { q with
    floor := if p.floor.toNat < active.version.toNat then active.version else p.floor
    inUse := profileOf active.image
    declVersion := 0
    declLength := 0
    nextOffset := 0
    chainChange := false
    slot := none
    waitTimer := none }

/-- Power-on reset clears the rejected-image count and the lock. -/
def ProfileStore.powerOn (p : ProfileStore) : ProfileStore := { p.choose with rejected := 0, session := .idle }

/-- Assertion of RESET_N keeps the count and a lock. -/
def ProfileStore.resetLine (p : ProfileStore) : ProfileStore :=
  { p.choose with session := if p.session = .locked then .locked else .idle }

/-- Step 5 of R173 with TAMPER_IN asserted. -/
def State.lockAtReset (s : State) : State :=
  if s.store.session = .locked then s
  else (s.onStore fun p => { p with session := .locked }).raise .updateLocked (lockedPayload 1)

end Sys2Proof.Machine
end

