-- ==== Sys2Proof/Machine/FrameOps.lean ====
section
/-! DEFINITION. Frames: the size and the bytes of a frame result, the frame start, and the requests of a list (R30 to
R34, R178). -/

namespace Sys2Proof.Machine

open Sys2Proof

/-! ## The frame result's size (R31) -/

def roundUp4 (n : Nat) : Nat := (n + 3) / 4 * 4

/-- The elements of a range, as their bytes stand in the slot. -/
def State.elementsOf (s : State) (slot : Slot) (first last : Nat) : List Element :=
  (List.range' first (last + 1 - first)).map fun i => elementOf (s.elementBytes slot i)

/-- A GATHER element names a node; its group has CELLS or TEMPS. -/
def Element.gathers (e : Element) (n : Nat) : Bool := decide (e.kind = 2 ∧ e.firstNode ≤ n ∧ n ≤ e.lastNode)
def Element.hasCells (e : Element) : Bool := e.group == 1 || e.group == 3
def Element.hasTemps (e : Element) : Bool := e.group == 2 || e.group == 3

/-- The stop-code area: one byte for each MARK or HALT, rounded up to a multiple of 4. -/
def stopAreaOf (es : List Element) : Nat := roundUp4 (es.filter fun e => e.kind == 7 || e.kind == 8).length

/-- The node records of a result: each address some GATHER names whose state is not ABSENT. -/
def State.resultNodesOf (s : State) (es : List Element) : List ResultNode :=
  (allNodes.filter fun n => (s.chain.node n).state != .absent && es.any (·.gathers n)).map fun n =>
    { node := n
      cells := if es.any fun e => e.gathers n && e.hasCells then (s.chain.node n).cells else 0
      temps := if es.any fun e => e.gathers n && e.hasTemps then (s.chain.node n).temps else 0 }

def ResultNode.size (r : ResultNode) : Nat := roundUp4 (8 + 4 * r.cells + 2 * r.temps)

def resultSize (stopArea : Nat) (nodes : List ResultNode) : Nat := 64 + stopArea + (nodes.map ResultNode.size).sum

def pagesFor (bytes : Nat) : Nat := (bytes + 255) / 256

/-! ## The frame result's bytes (R74, R178) -/

def padTo (n : Nat) (bs : List Byte) : List Byte := bs ++ List.replicate (n - bs.length) 0

/-- The quality flags: LATE, TRAPPED, HALTED, NO_ALIGN in bits 0 to 3. -/
def qualityFlags (f : Frame) (evalCount : Nat) : Nat :=
  boolCode f.late + 2 * boolCode f.trapped + 4 * boolCode f.halted + 8 * boolCode (evalCount == 0)

/-- An extreme in four bytes: value, node, channel. -/
def extremeBytes : Option Extreme → List Byte
  | some x => leSigned 2 x.value ++ [BitVec.ofNat 8 x.node, BitVec.ofNat 8 x.channel]
  | none => [0, 0, 0, 0]

def issueBytes (t : Option Word) : List Byte := leBytes 4 (t.getD 0).toNat

/-- The 64-byte header. -/
def State.resultHeader (s : State) (f : Frame) : List Byte :=
  let t := s.table
  let cells := t.aggregate.bind (·.cells)
  let temps := t.aggregate.bind (·.temps)
  let get := fun (g : Aggregate → Nat) => (t.aggregate.map g).getD 0
  let flag := fun (g : Aggregate → Bool) => boolCode ((t.aggregate.map g).getD false)
  leBytes 2 s.seq.frameNumber.toNat ++
  [BitVec.ofNat 8 (qualityFlags f t.evalCount + 128 * slotCode f.slot), BitVec.ofNat 8 f.first,
    BitVec.ofNat 8 f.last, BitVec.ofNat 8 f.trapIndex, BitVec.ofNat 8 f.stopCodes.length,
    BitVec.ofNat 8 t.evalCount] ++
  leBytes 2 s.seq.period ++
  [BitVec.ofNat 8 (boolCode cells.isSome + 2 * boolCode temps.isSome + 4 * flag (·.packAhead) +
      8 * flag (·.packAged) + 16 * boolCode t.issueA.isSome + 32 * boolCode t.issueB.isSome),
    BitVec.ofNat 8 (get (fun a => plausOutcomeCode a.outcome) + 16 * get (fun a => plausReasonCode a.reason))] ++
  leBytes 4 s.seq.frameStart.toNat ++ issueBytes t.issueA ++ issueBytes t.issueB ++
  leBytes 2 (get (·.validCells)) ++ leBytes 2 ((cells.map (·.meanVcomp)).getD 0) ++
  extremeBytes (cells.map (·.minVcomp)) ++ extremeBytes (cells.map (·.maxVcomp)) ++
  extremeBytes (cells.map (·.minVc)) ++ extremeBytes (cells.map (·.maxVc)) ++
  leBytes 4 ((cells.map (·.sumVc)).getD 0) ++ leBytes 2 ((cells.map (·.imbalance)).getD 0) ++
  extremeBytes (temps.map (·.minTemp)) ++ extremeBytes (temps.map (·.maxTemp)) ++
  leBytes 3 (get (·.packMv)) ++ leBytes 3 (get (·.cellMv))

def NodeFlags.code (f : NodeFlags) : Nat :=
  boolCode f.currentAhead + 2 * boolCode f.currentAged + 4 * boolCode f.noCurrent + 8 * boolCode f.currentSat +
  16 * boolCode f.notTimed + 32 * boolCode f.vcSat + 64 * boolCode f.vcompSat + 128 * boolCode f.unaligned

/-- A node record as sized at the frame start. -/
def nodeRecord (r : ResultNode) (x : NodeSlot) : List Byte :=
  let onB := match x.capture with
    | some c => c.path == .pathB
    | none => false
  padTo r.size (
    [BitVec.ofNat 8 (r.node + 128 * boolCode onB), BitVec.ofNat 8 (markCode x.cellMark + 4 * markCode x.tempMark),
      BitVec.ofNat 8 x.flags.code] ++
    leSigned 3 x.current ++ leBytes 2 (x.ts.getD 0).toNat ++
    ((List.range r.cells).map fun i => leBytes 2 ((x.vc[i]?).getD 0) ++ leBytes 2 ((x.vcomp[i]?).getD 0)).flatten ++
    ((List.range r.temps).map fun i => leBytes 2 ((x.temps[i]?).getD 0).toNat).flatten)

/-- The whole frame result. R36 says that the stop codes cannot outgrow the area sized at the frame start, which a
write-behind byte that is stored after the start (R29) can belie: the codes then run on, and the node records stand
behind them, cut where the buffer ends (DESIGN CHOICE, log entry 54). -/
def State.resultBytes (s : State) (f : Frame) : List Byte :=
  s.resultHeader f ++ padTo f.stopArea (f.stopCodes.map (BitVec.ofNat 8 ·)) ++
    (f.resultNodes.map fun r => nodeRecord r (s.table.slot r.node)).flatten

/-! ## The frame start (R30) -/

/-- A pending switch takes effect at a frame start and its SELECT_LIST completes OK. -/
def State.takeSwitch (s : State) : State :=
  match s.seq.pendingSwitch with
  | none => s
  | some w =>
    let s := s.onSeq fun q => { q with
      activeSlot := some w.slot, first := w.first, last := w.last, pendingSwitch := none }
    match s.seq.slot with
    | some (.select n) =>
      (s.complete n .ok (packDetail [(2, s.seq.frameNumber.toNat)])).onSeq fun q => { q with slot := none }
    | _ => s

/-- The frame-result buffer is requested (R31, R122). -/
def State.requestResult (s : State) (pages : Nat) : State :=
  s.onPool fun p => Pool.grant { p with waitingSampler := some pages }

/-- A new frame of the range given. -/
def Frame.start (kind : FrameKind) (slot : Slot) (first last : Nat) (late : Bool) (stopArea : Nat)
    (nodes : List ResultNode) : Frame where
  kind := kind
  slot := slot
  first := first
  last := last
  index := first
  phase := .start
  element := .none
  result := if kind = .patrol then .notAsked else .asked
  stopCodes := []
  late := late
  trapped := false
  halted := false
  trapIndex := 0
  stopArea := stopArea
  resultNodes := nodes

/-- The parts of a frame start that every kind of frame shares: the number, the tag, the start time, the marks and the
Frame Table. -/
def State.frameStartCommon (s : State) : State :=
  let s := s.onSeq fun q => { q with
    frameNumber := q.frameNumber + 1
    tag := (q.frameNumber + 1).setWidth 8
    frameStart := s.now
    elementTimer := none
    repollTimer := none }
  (s.onChain Chain.clearMarks).onTable fun _ => .reset

/-- A frame start of the sampler: a single frame leaves the frame timer alone. -/
def State.frameStart (s : State) (kind : FrameKind) (late : Bool) : State :=
  let s := s.frameStartCommon.takeSwitch
  let slot := s.seq.activeSlot.getD .slotA
  let es := s.elementsOf slot s.seq.first s.seq.last
  let nodes := s.resultNodesOf es
  let s := s.onSeq fun q => { q with
    sampler := .running
    frameTimer := if kind = .normal then some (1000 * q.period) else q.frameTimer
    startDue := if kind = .normal then false else q.startDue
    frame := some (.start kind slot q.first q.last late (stopAreaOf es) nodes) }
  s.requestResult (pagesFor (resultSize (stopAreaOf es) nodes))

/-- A patrol frame's start (R44). -/
def State.patrolFrameStart (s : State) (slot : Slot) (first last : Nat) : State :=
  s.frameStartCommon.onSeq fun q => { q with frame := some (.start .patrol slot first last false 0 []) }

/-! ## The list's requests (R32 to R34) -/

def State.onFrame (s : State) (f : Frame → Frame) : State := s.onSeq fun q => { q with frame := q.frame.map f }

/-- The element has finished: the list moves to the next index. -/
def State.nextElement (s : State) : State := s.onFrame fun f => { f with index := f.index + 1, phase := .start }

def State.endList (s : State) : State := s.onFrame fun f => { f with phase := .ended }

def State.requestChain (s : State) (frame : ChainFrame) : State := s.onChain fun c => { c with seqRequest := some frame }

/-- The READ of a node's CELLS or TEMPS block, with the node's own count. -/
def State.gatherRead (s : State) (n : Nat) (temps : Bool) : ChainFrame :=
  if temps then .read n .temps (s.chain.node n).temps else .read n .cells (s.chain.node n).cells

/-- A place in a GATHER's order of reads: CELLS, then TEMPS, node by node. -/
def readKey (n : Nat) (temps : Bool) : Nat := 2 * n + boolCode temps

/-- The reads of a GATHER: TEMPS is left out for a node with no temperature channel. -/
def State.readsOf (s : State) (e : Element) : List (Nat × Bool) :=
  ((List.range' e.firstNode (e.lastNode + 1 - e.firstNode)).map fun n =>
    (if e.hasCells then [(n, false)] else []) ++
    (if e.hasTemps && (s.chain.node n).temps != 0 then [(n, true)] else [])).flatten

/-- The GATHER goes on to its first read after a place, or finishes. -/
def State.gatherAfter (s : State) (e : Element) (key : Nat) : State :=
  match (s.readsOf e).find? fun r => decide (key < readKey r.1 r.2) with
  | some (n, temps) =>
    (s.requestChain (s.gatherRead n temps)).onFrame fun f => { f with element := e, phase := .gathering n temps 0 }
  | none => s.nextElement

/-- The WRITE of one node. -/
def State.writeTo (s : State) (e : Element) (n : Nat) : State :=
  (s.requestChain (.write n ((blockOf e.group).getD .identity) (BitVec.ofNat 16 e.argument))).onFrame fun f =>
    { f with element := e, phase := .writing n }

/-- A block read ends: its mark, and the words kept. -/
def State.writeBlock (s : State) (n : Nat) (temps : Bool) (mark : Mark) (words : List Half) : State :=
  if temps then s.writeTemps n mark words else s.writeCells n mark words

/-- How a good DATA reply marks its block (R33, R34); `none` asks for a re-poll. -/
def gatherMark (asked : Nat) (frameTag tag : Byte) (busy noRepoll : Bool) (repolls : Nat) (words : List Half) :
    Option (Mark × List Half) :=
  if words.length ≠ asked then some (.stale, [])
  else if tag ≠ frameTag then some (.stale, words)
  else if busy then (if noRepoll || decide (2 ≤ repolls) then some (.stale, []) else none)
  else some (.good, words)

/-- A read of a GATHER ends. -/
def State.gatherEnded (s : State) (e : Element) (n : Nat) (temps : Bool) (repolls : Nat) (x : TransactionEnd) :
    State :=
  let asked := if temps then (s.chain.node n).temps else (s.chain.node n).cells
  match x with
  | .data tag busy words =>
    match gatherMark asked s.seq.tag tag busy (e.flags == 1) repolls words with
    | some (mark, kept) => (s.writeBlock n temps mark kept).gatherAfter e (readKey n temps)
    | none =>
      (s.onSeq fun q => { q with repollTimer := some 20 }).onFrame fun f =>
        { f with phase := .gathering n temps (repolls + 1) }
  | .nack _ | .crcFailure | .timeout => (s.writeBlock n temps .failed []).gatherAfter e (readKey n temps)
  | .sent | .ack | .skipped => s.gatherAfter e (readKey n temps)

/-- A transaction of the running frame ends (R32, R33, R60). -/
def State.sequencerEnded (s : State) (x : TransactionEnd) : State :=
  match s.seq.frame with
  | none => s
  | some f =>
    match f.phase with
    | .converting => (s.onTable fun t => { t with issueA := s.chain.issueA, issueB := s.chain.issueB }).nextElement
    | .gathering n temps repolls => s.gatherEnded f.element n temps repolls x
    | .writing n => if n < f.element.lastNode then s.writeTo f.element (n + 1) else s.nextElement
    | .start | .waiting | .holding | .ended => s

end Sys2Proof.Machine
end

