-- ==== Sys2Proof/Machine/SleepOps.lean ====
section
/-! DEFINITION. The Sleep Controller's operations: the tamper latch, sleep entry, patrols, waking (Chapter 9). -/

namespace Sys2Proof.Machine

open Sys2Proof

/-! ## The Current History across sleep (R53, R96) -/

/-- The Current History is emptied with the burst record and the newest delivered entry. -/
def State.emptyHistory (s : State) : State :=
  (s.onSensing fun x => { x with history := [], burstCount := 0, burstSum := 0, burstSat := false }).onCont
    fun c => { c with entry := none }

/-! ## Retention (R131, R132) -/

/-- The pool pages of the buffers that sleep keeps: ALERT_QUEUED, FILLING for ALERT, and the ENTER_SLEEP order's. -/
def State.keptPages (s : State) : List Nat :=
  (allNumbers.map fun n =>
    let e := s.pool.entry n
    if e.state == .alertQueued || (e.state == .filling && e.requester == .alert) ||
      (s.sleep.slot.map (·.buffer)) == some n then e.pages else []).flatten

/-- The clearing step: every pool page outside the retained set is set to 00h, and the set is given up (R132, R158). An
ALERT buffer created later in WAKING joins no set, where R131 lets one join until the end of the wake (DESIGN CHOICE,
log entry 50). -/
def State.clearPool (s : State) : State :=
  let kept := s.pool.retained.getD s.keptPages
  s.onPool fun p => { p with
    memory := memZero p.memory (poolPages.filter fun q => !kept.contains q), retained := none }

/-! ## Waking (R157, R158) -/

/-- The wake completes: ENTER_SLEEP completes OK and the power state becomes ACTIVE. -/
def State.completeWake (s : State) : State :=
  let s := match s.sleep.slot with
    | none => s
    | some o =>
      (s.complete o.buffer .ok (detailOf (leBytes 3 s.sleep.duration ++
        [BitVec.ofNat 8 (wakeReasonCode s.sleep.lastReason)])) [] o.clamped).onSleep fun x =>
          { x with wakeCompletion := o.buffer, slot := none }
  let s := s.onSleep fun x => { x with power := .active, phase := .idle, patrol := none, pendingReason := none }
  let s := s.emptyHistory.onSensing fun x => { x with sampleTimer := some 250, burstTimer := none }
  let s := s.onTransit fun t => { t with toContactors := [] }
  let s := (s.onSeq fun q => q.leave .stopped).sampleAux true
  let s := if s.inputs.pins.safeOpen then s.tripSafeLine else s
  if s.prot.tamperHeld then (s.onProt fun p => { p with tamperHeld := false }).tripTamper else s

/-- The sleep duration at this moment, in s: 0 in ENTERING (R157). -/
def State.sleptFor (s : State) : Nat := if s.sleep.power = .entering then 0 else s.sleep.maxCount / 1000

/-- The power state is about to leave PATROL: a burst in progress, and one not yet begun, ends without a report, and its
entries stay in the ring (R55). -/
def State.leavePatrol (s : State) : State :=
  if s.sleep.power = .patrol then
    (s.onSensing fun x => { x with burstTimer := none }).onTransit fun t => { t with burst := false }
  else s

/-- WAKING begins: the Link Port takes its values of R138, WAKE_OUT is asserted, the timers stop, the reason, duration
and time are written, the pool is cleared, and the nodes are woken if they sleep. A patrol-due mark that is set when the
patrol ends in a wake is cleared here, where R151 and R154 leave a LATE patrol of the next sleep open (DESIGN CHOICE, log
entry 56). -/
def State.beginWaking (s : State) (r : WakeReason) (duration : Nat) : State :=
  let s := s.leavePatrol.onSleep fun x => { x with
    power := .waking
    wakeOut := true
    timersRunning := false
    lastReason := r
    duration := duration
    pendingReason := none
    patrolDue := false
    patrol := none
    page := { x.page with lastReason := r, duration := duration, wakeTime := s.now } }
  let s := s.powerUpLink.clearPool
  if s.sleep.nodesAsleep then
    (s.onSleep fun x => { x with phase := .wakeTone }).onChain fun c => { c with sleepRequest := some .wakeTone }
  else s.completeWake

/-! ## Sleep entry (R149, R150) -/

/-- Steps 3 to 6 of entry. -/
def State.fallAsleep (s : State) : State :=
  let s := (s.onPool fun p => { p with retained := some s.keptPages }).emptyHistory
  let s := s.onSleep fun x => { x with
    power := .asleep
    phase := .idle
    timersRunning := true
    wakeCount := 0
    maxCount := 0
    page := { x.page with
      settings := x.settings, trap := none, patrolCount := 0, failed := 0, entryTime := s.now,
      ringCount := 0, newest := 0, ring := Vector.replicate 8 .reset } }
  s.powerDownLink

/-- The release step has ended (R149, R150). -/
def State.endReleaseStep (s : State) : State :=
  match s.sleep.pendingReason with
  | some r => s.beginWaking r 0
  | none => s.fallAsleep

/-- The release step begins: every RESULT_QUEUED buffer and every HELD buffer without the mark is released in ascending
order, and a wake completion among them releases WAKE_OUT (R131, R159). -/
def State.beginReleaseStep (s : State) : State :=
  let numbers := allNumbers.filter fun n =>
    (s.pool.entry n).state == .resultQueued || (s.pool.entry n).hostHeld
  let s := s.onPool fun p =>
    let q := numbers.foldl Pool.beginRelease p
    { q with resultQueue := [], discarded := satAdd 65535 q.discarded numbers.length }
  let s := s.onSleep fun x =>
    if numbers.contains x.wakeCompletion then { x with phase := .entryRelease, wakeOut := false, wakeCompletion := 0 }
    else { x with phase := .entryRelease }
  if s.pool.releaseList = [] then s.endReleaseStep else s

/-! ## Patrol (R154 to R156) -/

/-- A patrol begins with its wake tone. -/
def State.beginPatrol (s : State) (late : Bool) : State :=
  (s.onSleep fun x => { x with
    power := .patrol
    phase := .patrolTone
    patrolDue := false
    patrol := some ⟨s.now, late, 0, false, 0, 0, none, .clear, none⟩ }).onChain fun c =>
      { c with sleepRequest := some .wakeTone }

/-- The power state becomes ASLEEP after a patrol; a patrol that fell due meanwhile begins at once (R55, R154). -/
def State.returnAsleep (s : State) : State :=
  let s := s.leavePatrol.onSleep fun x => { x with power := .asleep, phase := .idle, patrol := none }
  if s.sleep.patrolDue then s.beginPatrol true else s

/-- An evaluation record of the patrol frame is judged (R155). -/
def State.judgePatrolRecord (s : State) (a : Aggregate) : State :=
  let p := s.profile
  let cell := fun (f : CellFigures → Bool) => (a.cells.map f).getD false
  let temp := fun (f : TempFigures → Bool) => (a.temps.map f).getD false
  s.onSleep fun x => { x with patrol := x.patrol.map fun t => { t with
    record := some a
    breaches := {
      vcHigh := t.breaches.vcHigh || cell fun f => decide ((p.sleepMaxVc : Int) < f.maxVc.value)
      vcLow := t.breaches.vcLow || cell fun f => decide (f.minVc.value < (p.sleepMinVc : Int))
      tempHigh := t.breaches.tempHigh || temp fun f => decide (p.sleepTemp < f.maxTemp.value)
      imbalance := t.breaches.imbalance || cell fun f => decide (p.sleepImbalance < f.imbalance) } } }

def Breaches.any (b : Breaches) : Bool := b.vcHigh || b.vcLow || b.tempHigh || b.imbalance

/-- The burst mean's magnitude exceeds the drain limit, or the burst saturated. -/
def Patrol.drain (t : Patrol) (limit : Nat) : Bool := decide (limit < t.mean.natAbs) || t.burstSat

/-- A SUPERVISION condition: a node failed in two patrols running, a trap, or no record. -/
def Patrol.supervision (t : Patrol) (failed lastFailed : BitVec 20) : Bool :=
  (failed &&& lastFailed) != 0#20 || t.trap.isSome || t.record.isNone

/-- The wake reason of a patrol: the first condition of R155's list that holds. -/
def Patrol.wakeReason (t : Patrol) (limit : Nat) (failed lastFailed : BitVec 20) : Option WakeReason :=
  if t.breaches.any then some .patrolBreach
  else if t.drain limit then some .drain
  else if t.supervision failed lastFailed then some .supervision
  else none

/-- The figure of an aggregate, or 0 when it is absent. -/
def figureOr0 (x : Option Extreme) : Int :=
  match x with
  | some e => e.value
  | none => 0

/-- The summary entry of a patrol, its flags in the order of R156's list. -/
def Patrol.summary (t : Patrol) (limit : Nat) (failed lastFailed : BitVec 20) : SummaryEntry :=
  let cells : Option CellFigures := t.record.bind (·.cells)
  let temps : Option TempFigures := t.record.bind (·.temps)
  let bits := [t.breaches.vcHigh, t.breaches.vcLow, t.breaches.tempHigh, t.breaches.imbalance, t.drain limit,
    t.burstSat, failed != 0#20, t.supervision failed lastFailed, t.trap.isSome, t.record.isNone, cells.isNone,
    temps.isNone, t.late]
  { time := t.start
    minVc := (figureOr0 (cells.map CellFigures.minVc)).toNat
    maxVc := (figureOr0 (cells.map CellFigures.maxVc)).toNat
    maxTemp := figureOr0 (temps.map TempFigures.maxTemp)
    flags := BitVec.ofNat 13 (bits.foldr (fun b acc => boolCode b + 2 * acc) 0)
    mean := t.mean }

/-- A summary entry becomes the newest of the ring; the eighth place is followed by the first (R156). The first entry
after the ring is cleared takes place 0, which the spec does not say (DESIGN CHOICE, log entry 51). -/
def SleepPage.addSummary (p : SleepPage) (e : SummaryEntry) : SleepPage :=
  let place := if p.ringCount = 0 then 0 else (p.newest + 1) % 8
  { p with ring := p.ring.setIfInBounds place e, newest := place, ringCount := min 8 (p.ringCount + 1) }

/-- Steps 4 and 5 of a patrol: judgement, summary, and the return or the wake. -/
def State.judgePatrol (s : State) (failed : BitVec 20) : State :=
  match s.sleep.patrol with
  | none => s
  | some t =>
    let last := s.sleep.failedSet
    let limit := s.profile.drain
    let s := s.onSleep fun x => { x with
      failedSet := failed
      page := { (x.page.addSummary (t.summary limit failed last)) with
        patrolCount := x.page.patrolCount + 1
        failed := failed
        trap := if t.trap.isSome then t.trap else x.page.trap } }
    match t.wakeReason limit failed last with
    | some r => s.beginWaking r s.sleptFor
    | none =>
      (s.onSleep fun x => { x with phase := .patrolSleep }).onChain fun c => { c with sleepRequest := some .sleep }

/-- The burst has ended: its figures are kept, and the patrol frame is requested unless the chain is not enumerated
without mismatch (R54, R154). -/
def State.burstReported (s : State) (mean : Int) (sat : Bool) (e : HistoryEntry) : State :=
  if s.sleep.phase ≠ .patrolBurst then s
  else
    let s := s.onSleep fun x => { x with patrol := x.patrol.map fun t =>
      { t with mean := mean, burstSat := sat, packMv := e.packMv, linkMv := e.linkMv } }
    if s.chain.enumStatus = .matched then
      (s.onSleep fun x => { x with phase := .patrolFrame }).patrolFrameStart s.sleep.page.settings.slot
        s.sleep.page.settings.first s.sleep.page.settings.last
    else s.judgePatrol 0

/-! ## Wake reasons (R150, R157) -/

/-- A granted transaction whose requester has gone runs to its end with its result discarded. -/
def Engine.discardFor (r : ChainRequester) (e : Engine) : Engine :=
  if e.requester = r then { e with requester := .discarded } else e

/-- The patrol frame in progress is dropped: its requests go, a granted transaction's result is discarded, the Alignment
Engine is IDLE, and a break location it owes begins (R61, R157). -/
def State.dropPatrolFrame (s : State) : State :=
  let s := s.onSeq fun q => { q with frame := none, elementTimer := none, repollTimer := none }
  let s := s.onTable fun t => { t with align := .idle }
  s.onChain fun c =>
    let c := { c with seqRequest := none, engine := c.engine.map (Engine.discardFor .sequencer) }
    if c.breakDue then c.beginLocation else c

/-- A wake reason abandons the patrol; WAKING ends its burst (R55, R157). -/
def State.abandonPatrol (s : State) (r : WakeReason) : State :=
  (s.onChain fun c => { c with sleepRequest := none }).dropPatrolFrame.beginWaking r s.sleptFor

/-- A wake reason arrives. -/
def State.wakeReason (s : State) (r : WakeReason) : State :=
  match s.sleep.power with
  | .active | .waking => s
  | .asleep => s.beginWaking r s.sleptFor
  | .entering =>
    match s.sleep.pendingReason with
    | some _ => s
    | none =>
      let s := s.onSleep fun x => { x with pendingReason := some r }
      if s.sleep.phase = .entrySleep ∧ s.chain.sleepRequest.isSome then
        (s.onChain fun c => { c with sleepRequest := none }).beginReleaseStep
      else s
  | .patrol =>
    if s.sleep.phase = .patrolSleep ∧ s.chain.sleepRequest.isNone then
      match s.sleep.pendingReason with
      | some _ => s
      | none => s.onSleep fun x => { x with pendingReason := some r, duration := x.maxCount / 1000 }
    else s.abandonPatrol r

/-- The SLEEP or the tone of the Sleep Controller has ended on every port it goes to (R149, R154, R157, R158). -/
def State.sleepTransmissionEnded (s : State) (f : ChainFrame) : State :=
  match f with
  | .sleep =>
    let s := s.onSleep fun x => { x with nodesAsleep := true }
    match s.sleep.power, s.sleep.phase with
    | .entering, .entrySleep => s.beginReleaseStep
    | .patrol, .patrolSleep =>
      match s.sleep.pendingReason with
      | some r => s.beginWaking r s.sleep.duration
      | none => s.returnAsleep
    | _, _ => s
  | .wakeTone =>
    let s := s.onSleep fun x => { x with nodesAsleep := false }
    match s.sleep.power, s.sleep.phase, s.chain.sleepRequest with
    | .patrol, .patrolTone, none =>
      (s.onSleep fun x => { x with phase := .patrolBurst }).onTransit fun t => { t with burst := true }
    | .waking, .wakeTone, none => s.completeWake
    | _, _, _ => s
  | _ => s

/-! ## The tamper edge latch (R153) -/

/-- The TAMPER payload: power state, the latch's pack time, edge count, level of TAMPER_IN. -/
def State.tamperPayload (s : State) : List Byte :=
  packFields [(1, powerCode s.sleep.power), (4, (s.sleep.tamperLatch.getD 0).toNat), (1, s.sleep.tamperEdges),
    (1, boolCode s.inputs.pins.tamperIn)]

/-- The Sleep Controller takes the set latch. -/
def State.takeTamper (s : State) : State :=
  let payload := s.tamperPayload
  let s := s.tamperAtStore
  let s := if s.sleep.power = .active then s.tripTamper else s.onProt fun p => { p with tamperHeld := true }
  let s := (s.raise .tamper payload).onSleep fun x => { x with tamperLatch := none, tamperEdges := 0 }
  s.wakeReason .tamper

/-- An assertion edge of TAMPER_IN: the latch and its count, taken at once outside ASLEEP. -/
def State.tamperEdge (s : State) : State :=
  let s := s.onSleep fun x => { x with
    tamperLatch := some (x.tamperLatch.getD s.now), tamperEdges := satAdd 255 x.tamperEdges 1 }
  if s.sleep.power = .asleep then s else s.takeTamper

/-! ## The low-power clock (R151, R152) -/

/-- The Sleep Controller's timers and sampler run in this power state. -/
def State.sleepTimersRun (s : State) : Bool :=
  (s.sleep.power == .asleep || s.sleep.power == .patrol) && s.sleep.timersRunning

/-- A patrol falls due (R151). -/
def State.patrolFallsDue (s : State) : State :=
  if s.sleep.power = .asleep then s.beginPatrol false
  else s.onSleep fun x => { x with patrolDue := true }

/-- WAKE_IN is sampled in ENTERING, ASLEEP and PATROL (R152). -/
def State.sampleWakeIn (s : State) : State :=
  match s.sleep.power with
  | .entering | .asleep | .patrol => if s.inputs.pins.wakeIn then s.wakeReason .wakeLine else s
  | .active | .waking => s

/-- The max-sleep timer counts one tick (R151). -/
def State.countMaxSleep (s : State) : State :=
  if s.sleepTimersRun then
    let s := s.onSleep fun x => { x with maxCount := x.maxCount + 1 }
    if 1000 * s.sleep.settings.maxSleep ≤ s.sleep.maxCount then s.wakeReason .maxSleep else s
  else s

/-- The wake timer counts one tick (R151). -/
def State.countWake (s : State) : State :=
  if s.sleepTimersRun then
    let s := s.onSleep fun x => { x with wakeCount := x.wakeCount + 1 }
    if 1000 * s.sleep.settings.interval ≤ s.sleep.wakeCount then
      (s.onSleep fun x => { x with wakeCount := 0 }).patrolFallsDue
    else s
  else s

/-- One tick's work in the order of R151. -/
def State.tickWork (s : State) : State :=
  let s := if s.sleep.power = .asleep ∧ s.sleep.tamperLatch.isSome then s.takeTamper else s
  s.sampleWakeIn.countMaxSleep.countWake

/-- Time passes up to the tick; in ASLEEP pack time moves by 1,000 and the staleness timer with it (R26, R84, R151). -/
def State.passTick (s : State) : State :=
  if s.sleep.power = .asleep then
    (s.onClock fun _ => ⟨s.clock.packTime + 1000, 1000⟩).onProt fun p =>
      { p with stalenessTimer := p.stalenessTimer.run 1000 }
  else (s.elapse s.clock.tick).onClock fun c => { c with tick := 1000 }

/-- `n` ticks pass, each with its work and the lines as they stand; a tick that changes the power state is the last. -/
def State.runTicks : Nat → State → State
  | 0, s => s
  | k + 1, s =>
    let t := s.passTick.tickWork
    if t.sleep.power = s.sleep.power then State.runTicks k t else t

/-- The ticks up to a timer's compare value, at least the next one (log entry 14). -/
def State.passTicks (s : State) (n : Nat) : State := s.runTicks (max 1 n)

end Sys2Proof.Machine
end

