-- ==== Sys2Proof/Machine/Work.lean ====
section
/-! DEFINITION. Work that follows an event at once: chain orders and their outcomes, the arbiter's grants, the elements
of a list, the frame end, and `settle`, which runs them until nothing more can be done without a further event. -/

namespace Sys2Proof.Machine

open Sys2Proof

/-! ## Chain orders: outcomes (R17, R18, R21, R22) -/

/-- The kinds of difference of a CHAIN_MISMATCH: MISSING 0, EXTRA 1, IDENTITY 2, COUNT 3. -/
def State.mismatchAt (s : State) (o : ChainOrder) (n : Nat) : Option Nat :=
  let p := s.profile
  let e := s.chain.node n
  if n ≤ p.declared then
    if s.chain.found < n then some 0
    else if o.badIdentity.contains n then some 2
    else if e.cells ≠ p.cellCount n ∨ e.temps ≠ p.tempCount n then some 3
    else none
  else if n ≤ s.chain.found then some 1
  else none

/-- The lowest mismatching address with its kind of difference. -/
def State.lowestMismatch (s : State) (o : ChainOrder) : Option (Nat × Nat) :=
  allNodes.findSome? fun n => (s.mismatchAt o n).map fun k => (n, k)

/-- The detail word of ENUMERATE_CHAIN, OK (R176). -/
def State.enumerateDetail (s : State) (mismatch : Bool) (address : Nat) : Word :=
  detailOf [BitVec.ofNat 8 s.chain.found, BitVec.ofNat 8 s.profile.declared,
    BitVec.ofNat 8 (ringStateCode s.chain.ringState + 128 * boolCode mismatch), BitVec.ofNat 8 address]

def State.setEnumStatus (s : State) (x : EnumStatus) : State := s.onChain fun c => { c with enumStatus := x }

/-- The comparison with the profile, and the completion of ENUMERATE_CHAIN (R18). -/
def State.compareChain (s : State) (o : ChainOrder) : State :=
  if o.chainChanged then
    let s := s.setEnumStatus .needed
    s.completeChainOrder .ok (s.enumerateDetail false 0)
  else match s.lowestMismatch o with
    | some (n, k) =>
      let s := (s.setEnumStatus .mismatched).raise .chainMismatch
        (packFields [(1, s.profile.declared), (1, s.chain.found), (1, n), (1, k)])
      s.completeChainOrder .ok (s.enumerateDetail true n)
    | none =>
      let s := s.setEnumStatus .matched
      s.completeChainOrder .ok (s.enumerateDetail false 0)

/-- The ring check of an enumeration has ended (R18). -/
def State.ringTested (s : State) (o : ChainOrder) (returned : Bool) : State :=
  let st : RingState := if returned then .closed else .opened
  let position := if returned then 0 else s.chain.found
  let s := s.onChain fun c => { c with ringState := st, breakPos := position }
  let s := if st = o.ringBefore then s else s.raise .chainBreak (chainBreakPayload st position)
  s.compareChain o

def State.setJob (s : State) (j : ChainJob) : State :=
  s.onChain fun c => { c with slot := c.slot.map fun o => { o with job := j } }

/-- Address assignment has ended (R18). -/
def State.assignmentEnded (s : State) (o : ChainOrder) : State :=
  if s.chain.ringMode then s.setJob .ringTest else s.compareChain o

/-- An accepted identity: cell count 1 to 16, temperature count 0 to 4 (R17). A reply of other than the four words asked
for is not accepted, a case of which R17 says nothing (DESIGN CHOICE, log entry 42). -/
def identityOf : List Half → Option (Nat × Nat × Nat)
  | [_, cells, temps, offset] =>
    if 1 ≤ cells.toNat ∧ cells.toNat ≤ 16 ∧ temps.toNat ≤ 4 then
      some (cells.toNat, temps.toNat,
        if offset.toNat ≤ 255 then offset.toNat else (Config.offsetOf offset).toNat)
    else none
  | _ => none

/-- The IDENTITY read of node n has ended: the entry, or a mark against the node (R17). -/
def State.identityRead (s : State) (n : Nat) (x : TransactionEnd) : State :=
  let identity := match x with
    | .data _ _ words => identityOf words
    | _ => none
  match identity with
  | some (cells, temps, offset) =>
    if n ≤ s.profile.declared then
      s.onChain fun c => c.setNode n { c.node n with
        state := .present, path := .pathA, hops := n, cells := cells, temps := temps, offset := offset,
        lastGood := s.seq.frameNumber }
    else s
  | none => s.onChain fun c => { c with slot := c.slot.map fun o => { o with badIdentity := o.badIdentity ++ [n] } }

/-- The READ_NODE answer (R177). -/
def readAnswer (n : Nat) (tag : Byte) (busy : Bool) (words : List Half) : List Byte :=
  [BitVec.ofNat 8 n, BitVec.ofNat 8 (boolCode busy), tag, BitVec.ofNat 8 words.length] ++
    (words.map fun w => leBytes 2 w.toNat).flatten

/-- The detail codes of a chain order's TIMEOUT: WAIT 0, CRC 1, NO_REPLY 2. -/
def chainDetail (code : Nat) : Word := packDetail [(1, code)]

/-- A READ_NODE or WRITE_NODE transaction ends (R21, R22). An answer that is longer than the room is cut at the room's last
byte, its word count still that of the words received: R141 leaves the point to R21, which names none (DESIGN CHOICE, log
entry 55). -/
def State.nodeOrderEnded (s : State) (o : ChainOrder) (n : Nat) (x : TransactionEnd) : State :=
  match x with
  | .data tag busy words =>
    let answer := readAnswer n tag busy words
    let room := s.answerRoom o.buffer
    s.completeChainOrder .ok 0 (answer.take room) (decide (room < answer.length))
  | .ack | .sent => s.completeChainOrder .ok 0
  | .nack badValue => s.completeChainOrder .refusedState (chainDetail (if badValue then 2 else 1))
  | .crcFailure => s.completeChainOrder .timeout (chainDetail 1)
  | .timeout => s.completeChainOrder .timeout (chainDetail 2)
  | .skipped => s.completeChainOrder .refusedState 0

/-- A transaction of the order in the chain's slot ends. -/
def State.orderEnded (s : State) (x : TransactionEnd) : State :=
  match s.chain.slot with
  | none => s
  | some o =>
    match o.job with
    | .readNode n _ _ => s.nodeOrderEnded o n x
    | .writeNode n _ _ => s.nodeOrderEnded o n x
    | .forget .a => s.setJob (if s.chain.ringMode then .forget .b else .assign 1)
    | .forget .b => s.setJob (.assign 1)
    | .assign n =>
      match x with
      | .ack => (s.onChain fun c => { c with found := n }).setJob (.identity n)
      | _ => s.assignmentEnded o
    | .identity n =>
      let s := s.identityRead n x
      if n < 20 then s.setJob (.assign (n + 1))
      else match s.chain.slot with
        | some o => s.assignmentEnded o
        | none => s
    | .ringTest => s

/-! ## The end of a transaction (R6, R15) -/

/-- The outcome goes to the requester. -/
def State.deliver (s : State) (requester : ChainRequester) (frame : ChainFrame) (x : TransactionEnd) : State :=
  match requester with
  | .sequencer => (if x.failed then s.onChain fun c => c.markFailed frame.node else s).sequencerEnded x
  | .breakLocation =>
    s.onChain fun c => { c with location := c.location.map fun l => l.probed c.found !x.failed }
  | .order => s.orderEnded x
  | .sleepController => s.sleepTransmissionEnded frame
  | .ringCheck | .discarded => s

/-- The transaction in progress ends. -/
def State.finishTransaction (s : State) (e : Engine) (x : TransactionEnd) : State :=
  let s := s.onChain Chain.freeEngine
  let s := match x, e.frame with
    | .nack badValue, f => s.setNodeError f.node (if badValue then .nackBadValue else .nackBadBlock)
    | .ack, .enumerate n => s.creditHeld e n
    | _, _ => s
  s.deliver e.requester e.frame x

/-- An attempt has failed: the frame is sent again while attempts remain (R6). -/
def State.endAttempt (s : State) (e : Engine) (crc : Bool) : State :=
  let s := s.attemptFailed e crc
  if e.attemptsLeft = 0 then s.finishTransaction e (if crc then .crcFailure else .timeout)
  else s.onChain fun c => match c.engine with
    | some e => c.send { e with attemptsLeft := e.attemptsLeft - 1 }
    | none => c

/-- The frame was watched for and came back (R10, R13, R18). -/
def State.frameReturned (s : State) (e : Engine) : State :=
  match e.frame, e.requester, s.chain.slot with
  | .keepalive, .order, some o => (s.onChain Chain.freeEngine).ringTested o true
  | .keepalive, .discarded, _ => s.finishTransaction e .sent
  | _, _, _ => (if s.chain.ringState = .opened then s.closeRing else s).finishTransaction e .sent

/-- The watch has ended without the frame's return (R10, R12, R18). A CONVERT of a dropped patrol frame goes on to port B
in an OPEN ring as any other does: R157 and R6 do not say whether it still does (DESIGN CHOICE, log entry 48). -/
def State.watchEnded (s : State) (e : Engine) : State :=
  match e.frame, e.requester, s.chain.slot with
  | .keepalive, .order, some o => (s.onChain Chain.freeEngine).ringTested o false
  | .keepalive, .discarded, _ => s.finishTransaction e .sent
  | .keepalive, _, _ =>
    (if s.chain.ringState = .closed then s.onChain fun c => { c.beginLocation with ringState := .opened }
      else s).finishTransaction e .sent
  | .convert _ _, requester, _ =>
    if s.chain.ringState = .opened then s.onChain fun c => c.send { e with port := .b }
    else
      (s.onChain fun c =>
        let c := { c with ringState := .opened }
        if requester = .discarded then c.beginLocation else { c with breakDue := true }).finishTransaction e .sent
  | _, _, _ => s.finishTransaction e .sent

/-- The last byte of the frame, or the end of the tone, has left the port (R6, R10, R24). In ring mode a WAKE_TONE leaves
port A first and port B after it: the spec says 'on both ports' (DESIGN CHOICE, log entry 47). -/
def State.transmitted (s : State) (e : Engine) : State :=
  let watch := fun (s : State) =>
    s.onChain fun c => { c with
      engine := some { e with phase := .watching }, txTimer := none, watchTimer := some e.timeout }
  match e.frame, e.port with
  | .convert _ _, .a =>
    let s := s.onChain fun c => { c with issueA := some s.now, issueB := none }
    if s.chain.ringMode then watch s else s.finishTransaction e .sent
  | .convert _ _, .b => (s.onChain fun c => { c with issueB := some s.now }).finishTransaction e .sent
  | .keepalive, _ => watch s
  | .forget, _ => s.finishTransaction e .sent
  | .sleep, .a =>
    if s.chain.ringMode then s.onChain fun c => c.send { e with port := .b } else s.finishTransaction e .sent
  | .sleep, .b => s.finishTransaction e .sent
  | .wakeTone, .a =>
    let s := s.onChain fun c => c.startQuiet .a
    if s.chain.ringMode then s.onChain fun c => c.send { e with port := .b } else s.finishTransaction e .sent
  | .wakeTone, .b => (s.onChain fun c => c.startQuiet .b).finishTransaction e .sent
  | .read _ _ _, _ | .write _ _ _, _ | .enumerate _, _ =>
    s.onChain fun c => { c with
      engine := some { e with phase := .awaiting }, txTimer := none, replyTimer := some e.timeout }

/-- A complete frame received while a reply is awaited (R5, R6). -/
def State.replied (s : State) (e : Engine) (bytes : List Byte) : State :=
  match judgeReply e.frame bytes with
  | none => s.endAttempt e true
  | some (.data tag busy words) => s.finishTransaction e (.data tag busy words)
  | some .ack => s.finishTransaction e .ack
  | some (.nack badValue) => s.finishTransaction e (.nack badValue)

/-! ## The arbiter's grants (R8, R9) -/

/-- A request for a node, handled by the node's entry. -/
def State.grantNode (s : State) (requester : ChainRequester) (frame : ChainFrame) (n : Nat) : State :=
  match s.handling n with
  | .skipped => s.deliver requester frame .skipped
  | .noPath => s.deliver requester frame .timeout
  | .sent port retries => s.startTransaction requester frame port retries

/-- The Frame Sequencer's request. -/
def State.grantSequencer (s : State) (frame : ChainFrame) : State :=
  let s := s.onChain fun c => { c with seqRequest := none }
  match frame with
  | .read n _ _ => s.grantNode .sequencer frame n
  | .write n _ _ => s.grantNode .sequencer frame n
  | _ => s.startTransaction .sequencer frame .a 0

/-- The next transaction of the order in the slot; its wait timer stops (R20). -/
def State.grantOrder (s : State) (o : ChainOrder) : State :=
  let s := s.onChain fun c => { c with waitTimer := none }
  let retries := s.profile.retryLimit
  match o.job with
  | .readNode n b k => s.grantNode .order (.read n b k) n
  | .writeNode n b v => s.grantNode .order (.write n b v) n
  | .forget p => s.startTransaction .order .forget p 0
  | .assign n => s.startTransaction .order (.enumerate n) .a retries
  | .identity n => s.startTransaction .order (.read n .identity 4) .a retries
  | .ringTest => s.startTransaction .order .keepalive .a 0

/-- The waiting request of the highest rank, granted (R8). Break location keeps its first place in ENTERING too, ahead of
the SLEEP, where R147's table names no probe (DESIGN CHOICE, log entry 57). -/
def State.candidate (s : State) : Option State :=
  match s.chain.location, s.chain.seqRequest, s.chain.sleepRequest, s.chain.slot with
  | some l, _, _, _ => some (s.locationStep l)
  | none, some f, _, _ => some (s.grantSequencer f)
  | none, none, some f, _ =>
    some ((s.onChain fun c => { c with sleepRequest := none }).startTransaction .sleepController f .a 0)
  | none, none, none, some o => if s.seq.sampler = .running then none else some (s.grantOrder o)
  | none, none, none, none => none

/-- A grant: with the engine free, outside ASLEEP, and not onto a port in the quiet time after a tone (R4, R24). -/
def State.grantChain (s : State) : Option State :=
  if s.chain.engine.isSome || s.inputs.inReset || s.sleep.power == .asleep then none
  else match s.candidate with
    | some s' => if s'.chain.engine.isSome && s'.chain.txTimer.isNone then none else some s'
    | none => none

/-! ## Elements (R32 to R37) -/

/-- An illegal element ends the list with a trap (R37). -/
def State.trapList (s : State) (f : Frame) (e : Element) (reason : Nat) : State :=
  let s := s.onFrame fun f => { f with phase := .ended, trapped := true, trapIndex := f.index }
  if f.kind = .patrol then
    s.onSleep fun x => { x with patrol := x.patrol.map fun t => { t with trap := some ⟨f.index, e.kind, reason⟩ } }
  else
    s.raise .sequenceTrap (packFields [(1, slotCode f.slot), (1, f.index), (1, e.kind), (1, reason),
      (2, s.seq.frameNumber.toNat)])

/-- The block that judged reports: the Alignment Engine is IDLE and the element has finished (R61). -/
def State.alignReported (s : State) : State := (s.onTable fun t => { t with align := .idle }).nextElement

/-- ALIGN: the evaluation and its hand-over to the Protection Monitor or the Sleep Controller, whose report ends the
element in the same event (R35, R61, R78). -/
def State.runAlign (s : State) (f : Frame) : State :=
  let patrol := f.kind == .patrol
  let r := s.evaluate patrol
  let s := s.onTable fun _ => r.1
  (if patrol then s.judgePatrolRecord r.2 else s.judgeEvaluation r.2).alignReported

/-- A stop code joins the list, in frames that record (R36). -/
def State.addStopCode (s : State) (f : Frame) (code : Nat) : State :=
  if f.kind = .patrol then s else s.onFrame fun f => { f with stopCodes := f.stopCodes ++ [code] }

/-- The list reaches its next element (R32). -/
def State.runElement (s : State) (f : Frame) : State :=
  if f.last < f.index then s.endList
  else
    let e := elementOf (s.elementBytes f.slot f.index)
    if e.trapReason ≠ 0 then s.trapList f e e.trapReason
    else match e.kind with
      | 1 => (s.requestChain (.convert s.seq.tag ((groupOf e.group).getD .both))).onFrame fun f =>
          { f with phase := .converting }
      | 2 => s.gatherAfter e 0
      | 3 => s.writeTo e e.firstNode
      | 4 => if e.argument = 0 then s.nextElement
        else (s.onSeq fun q => { q with elementTimer := some e.argument }).onFrame fun f => { f with phase := .waiting }
      | 5 =>
        let passed := age s.now s.seq.frameStart
        if e.argument ≤ passed then s.nextElement
        else (s.onSeq fun q => { q with elementTimer := some (e.argument - passed) }).onFrame fun f =>
          { f with phase := .holding }
      | 6 => s.runAlign f
      | 7 => (s.addStopCode f e.argument).nextElement
      | 8 =>
        let s := s.addStopCode f e.argument
        (if f.kind = .patrol then s else s.onFrame fun f => { f with halted := true }).endList
      | _ => s.endList

/-! ## The frame end (R38, R39) -/

/-- The order in the sequencer's slot completes OK and the slot is emptied. -/
def State.completeSequencerOrder (s : State) (buffer : Nat) (detail : Word) : State :=
  (s.complete buffer .ok detail).onSeq fun q => { q with slot := none }

/-- The frame result is written and queued, when the frame holds a buffer. -/
def State.queueFrameResult (s : State) (f : Frame) : State :=
  match f.result with
  | .granted n => s.onPool fun p => (p.writeBuffer n 0 (s.resultBytes f)).queueResult n
  | .notAsked | .asked | .dropped => s

/-- The detail word of SINGLE_FRAME, OK (R176). -/
def State.singleDetail (s : State) (f : Frame) : Word :=
  let noResult := f.result == .dropped
  packDetail [(2, s.seq.frameNumber.toNat), (1, (qualityFlags f s.table.evalCount + 128 * boolCode noResult : Nat)),
    (1, 0)]

/-- The sampler after a frame's end, by the table of R38, with the order it completes. -/
def State.samplerAfter (s : State) (f : Frame) : State :=
  match f.kind, s.seq.slot with
  | .single, some (.single n) => (s.onSeq fun q => q.leave .stopped).completeSequencerOrder n (s.singleDetail f)
  | .single, _ => s.onSeq fun q => q.leave .stopped
  | _, some (.stop n) =>
    (s.onSeq fun q => q.leave .stopped).completeSequencerOrder n (packDetail [(2, s.seq.frameNumber.toNat)])
  | _, _ =>
    if f.halted || f.trapped then (s.onSeq fun q => q.leave .halted).abortSwitch
    else if s.seq.startDue then
      (s.onSeq fun q => { q with overruns := satAdd 65535 q.overruns 1 }).frameStart .normal true
    else s.onSeq fun q => { q with sampler := .waiting }

/-- The break location a frame's CONVERT made due begins at the frame's end (R12). -/
def State.beginDueLocation (s : State) : State := s.onChain fun c => if c.breakDue then c.beginLocation else c

/-- The frame ends: its list has ended and its allocation has completed. -/
def State.endFrame (s : State) (f : Frame) : State :=
  if f.kind = .patrol then
    let failed := s.chain.failedSet
    let s := (s.onSeq fun q => { q with frame := none }).onChain Chain.clearMarks
    s.beginDueLocation.judgePatrol failed
  else
    let s := s.frameEndUpdate.beginDueLocation.queueFrameResult f
    (s.onSeq fun q => { q with frame := none }).samplerAfter f

/-! ## Everything that follows at once -/

/-- One piece of work that needs no further event: an element, the frame end, a grant. The list does not advance while
the Alignment Engine awaits its report (R61). -/
def State.settleStep (s : State) : Option State :=
  match s.seq.frame with
  | none => s.grantChain
  | some f =>
    if f.phase = .start ∧ s.table.align = .idle then some (s.runElement f)
    else if f.phase = .ended ∧ f.result ≠ .asked then some (s.endFrame f)
    else s.grantChain

def State.settleN : Nat → State → State
  | 0, s => s
  | k + 1, s =>
    match s.settleStep with
    | some s' => State.settleN k s'
    | none => s

/-- Runs the work to its end. A list has at most 32 elements of at most 40 requests, and an event ends at most one frame
and starts at most one, so the bound is never met. -/
def State.settle (s : State) : State := s.settleN 4096

end Sys2Proof.Machine
end

