-- ==== Sys2Proof/Machine/Orders.lean ====
section
/-! DEFINITION. Orders at their owners: the examination of the head, the header checks, and what each of the nineteen
kinds does when it is taken (R139, R140 and the owners' rules). -/

namespace Sys2Proof.Machine

open Sys2Proof

/-! ## The head of the Order Queue (R139) -/

/-- The head's buffer, with the kind its header names. -/
def State.headOrder (s : State) : Option (Nat × Option OrderKind) :=
  s.pool.orderQueue.head?.map fun n => (n, orderKindOf (s.orderByte n 0))

/-- The owner's slot for a kind is empty. An OPEN_PACK is taken even when its slot is occupied (R110); the Sensing Front
End and the Protection Monitor complete their orders in the event of the taking. -/
def State.slotFree (s : State) : OrderKind → Bool
  | .enumerateChain | .readChainStatus | .writeNode | .readNode => s.chain.slot.isNone
  | .startSampling | .stopSampling | .singleFrame | .selectList => s.seq.slot.isNone
  | .snapshotHistory | .clearTrips | .openPack => true
  | .closePack => s.cont.closeSlot.isNone
  | .enterSleep => s.sleep.slot.isNone
  | .updateBegin | .updateChunk | .updateFinish | .updateAbort | .activateProfile | .readProfileInfo =>
    s.store.slot.isNone

/-- The buffer moves from ORDER_QUEUED to IN_SERVICE and leaves the head. -/
def Pool.takeHead (p : Pool) (n : Nat) : Pool :=
  let q := p.setEntry n { p.entry n with state := .inService }
  { q with orderQueue := q.orderQueue.tail }

/-- The header check that fails, or 0 (R140). -/
def State.headerCheck (s : State) (n : Nat) (k : OrderKind) : Nat :=
  let length := s.orderHalf n 4
  if 2 ≤ s.orderByte n 1 then 1
  else if !bodyLengthOk k length then 2
  else if (s.pool.entry n).capacity < 16 + length then 3
  else 0

/-- The detail word of MALFORMED (R176). -/
def malformedDetail (check length : Nat) : Word := detailOf ([BitVec.ofNat 8 check, 0] ++ leBytes 2 length)

/-- A body field. -/
def State.body8 (s : State) (n i : Nat) : Nat := s.orderByte n (16 + i)
def State.body16 (s : State) (n i : Nat) : Nat := s.orderHalf n (16 + i)
def State.body32 (s : State) (n i : Nat) : Nat := s.orderWord n (16 + i)

/-! ## Chain orders (R16, R20 to R23) -/

def State.holdChainOrder (s : State) (n : Nat) (j : ChainJob) : State :=
  s.onChain fun c => { c with
    slot := some ⟨n, j, c.ringState, [], false⟩, waitTimer := some 2000000 }

/-- ENUMERATE_CHAIN at its taking (R16). A break location that is probing then runs on over the reset table, with the found
count 0: the spec does not say that it ends (DESIGN CHOICE, log entry 40). -/
def State.takeEnumerate (s : State) (n : Nat) : State :=
  match s.seq.sampler with
  | .stopped | .halted =>
    (s.holdChainOrder n (.forget .a)).onChain fun c => { c with
      nodes := Vector.replicate 20 .reset, found := 0, enumStatus := .running }
  | .waiting | .running => s.complete n .refusedState 0

def nodeEntryBytes (e : NodeEntry) : List Byte :=
  [BitVec.ofNat 8 (nodeStateCode e.state), BitVec.ofNat 8 (pathCode e.path), BitVec.ofNat 8 e.hops,
    BitVec.ofNat 8 e.cells, BitVec.ofNat 8 e.temps, BitVec.ofNat 8 e.offset, BitVec.ofNat 8 e.failedFrames,
    BitVec.ofNat 8 e.crcCount, BitVec.ofNat 8 e.timeoutCount, BitVec.ofNat 8 (lastErrorCode e.lastError)] ++
  leBytes 2 e.lastGood.toNat

def Chain.statusHeader (c : Chain) : List Byte :=
  [BitVec.ofNat 8 (boolCode (!c.ringMode)), BitVec.ofNat 8 (ringStateCode c.ringState), BitVec.ofNat 8 c.breakPos,
    BitVec.ofNat 8 c.found, BitVec.ofNat 8 (enumStatusCode c.enumStatus), 0, 0, 0]

/-- The READ_CHAIN_STATUS answer with as many whole entries as the room holds (R23, R177). -/
def State.chainStatusAnswer (s : State) (room : Nat) : List Byte :=
  s.chain.statusHeader ++
    ((allNodes.take ((room - 8) / 12)).map fun n => nodeEntryBytes (s.chain.node n)).flatten

def State.takeReadChainStatus (s : State) (n : Nat) : State :=
  let clear := s.body8 n 0 % 2 == 1
  let room := s.answerRoom n
  let s := s.complete n .ok 0 (s.chainStatusAnswer room) false (decide ((room - 8) / 12 < 20))
  if clear then s.onChain fun c => c.mapNodes fun _ e => { e with crcCount := 0, timeoutCount := 0 } else s

def State.takeWriteNode (s : State) (n : Nat) : State :=
  let address := s.body8 n 0
  if !nodePresent address then s.complete n .range 0
  else match blockOf (s.body8 n 1) with
    | none => s.complete n .range 0
    | some b =>
      if (s.chain.node address).state = .absent then s.complete n .refusedState 0
      else s.holdChainOrder n (.writeNode address b (BitVec.ofNat 16 (s.body16 n 2)))

def State.takeReadNode (s : State) (n : Nat) : State :=
  let address := s.body8 n 0
  let words := s.body8 n 2
  if !nodePresent address then s.complete n .range 0
  else match blockOf (s.body8 n 1) with
    | none => s.complete n .range 0
    | some b =>
      if words = 0 ∨ 16 < words then s.complete n .range 0
      else if (s.chain.node address).state = .absent then s.complete n .refusedState 0
      else s.holdChainOrder n (.readNode address b words)

/-! ## Sampling orders (R40 to R43) -/

/-- The slot and range of a body at bytes 0 to 2 from an offset, or none when out of range. -/
def State.rangeOf (s : State) (n i : Nat) : Option (Slot × Nat × Nat) :=
  let first := s.body8 n (i + 1)
  let last := s.body8 n (i + 2)
  match slotOf (s.body8 n i) with
  | none => none
  | some slot => if 31 < first ∨ 31 < last ∨ last < first then none else some (slot, first, last)

/-- The frame period an order's value selects, and whether it was clamped (R40). -/
def framePeriod (value default : Nat) : Nat × Bool :=
  if value = 0 then (default, false)
  else if value < 10 then (10, true)
  else if 1000 < value then (1000, true)
  else (value, false)

def State.takeStartSampling (s : State) (n : Nat) : State :=
  if s.seq.sampler = .waiting ∨ s.seq.sampler = .running then s.complete n .refusedState 0
  else match s.rangeOf n 0 with
    | none => s.complete n .range 0
    | some (slot, first, last) =>
      if s.chain.enumStatus ≠ .matched then s.complete n .chainIncomplete 0
      else
        let period := framePeriod (s.body32 n 4) s.profile.defaultPeriod
        let s := s.onSeq fun q => { q with
          activeSlot := some slot, first := first, last := last, period := period.1 }
        let s := s.frameStart .normal false
        s.complete n .ok (packDetail [(2, s.seq.frameNumber.toNat), (2, period.1)]) [] period.2

def State.takeStopSampling (s : State) (n : Nat) : State :=
  let detail := packDetail [(2, s.seq.frameNumber.toNat)]
  match s.seq.sampler with
  | .stopped => s.complete n .ok detail
  | .waiting | .halted => (s.onSeq fun q => q.leave .stopped).complete n .ok detail
  | .running => s.onSeq fun q => { q with slot := some (.stop n) }

def State.takeSingleFrame (s : State) (n : Nat) : State :=
  if s.seq.sampler ≠ .stopped then s.complete n .refusedState 0
  else match s.rangeOf n 0 with
    | none => s.complete n .range 0
    | some (slot, first, last) =>
      if s.chain.enumStatus ≠ .matched then s.complete n .chainIncomplete 0
      else
        (s.onSeq fun q => { q with
          activeSlot := some slot, first := first, last := last, slot := some (.single n) }).frameStart .single false

def State.takeSelectList (s : State) (n : Nat) : State :=
  if s.seq.sampler = .stopped ∨ s.seq.sampler = .halted then s.complete n .refusedState 0
  else match s.rangeOf n 0 with
    | none => s.complete n .range 0
    | some (slot, first, last) =>
      s.onSeq fun q => { q with pendingSwitch := some ⟨slot, first, last⟩, slot := some (.select n) }

/-! ## SNAPSHOT_HISTORY (R57, R58) -/

/-- A history entry in 16 bytes (R177). -/
def HistoryEntry.bytes (e : HistoryEntry) : List Byte :=
  leBytes 4 e.tag.toNat ++ leSigned 4 e.current ++ leBytes 3 e.packMv ++
    [BitVec.ofNat 8 (boolCode e.iSat + 2 * boolCode e.vSat)] ++ leBytes 3 e.linkMv ++ [0]

/-- The entries a count selects: the newest of the view, or all for 0. -/
def selectEntries (view : List HistoryEntry) (count : Nat) : List HistoryEntry :=
  if count = 0 then view else view.drop (view.length - count)

def State.takeSnapshot (s : State) (n : Nat) : State :=
  let count := s.body16 n 0
  if 128 < count then s.complete n .range 0
  else
    let view := s.sensing.history
    let selected := selectEntries view count
    let room := s.answerRoom n
    if room < 8 then s.complete n .ok (packDetail [(2, selected.length), (2, 0)]) [] false true
    else
      let written := selected.take ((room - 8) / 16)
      let header := leBytes 4 s.now.toNat ++
        [BitVec.ofNat 8 view.length, BitVec.ofNat 8 selected.length, BitVec.ofNat 8 written.length, 0]
      s.complete n .ok (packDetail [(2, selected.length), (2, written.length)])
        (header ++ (written.map HistoryEntry.bytes).flatten) false (decide (written.length < selected.length))

/-! ## CLEAR_TRIPS (R91) -/

/-- Step 1: each named kind's latch is cleared unless its cause is present. -/
def State.clearLatches (s : State) (mask : Nat) (tamperIn : Bool) : State :=
  let causes := allTripKinds.filter fun k => mask.testBit (tripKindCode k) && !s.causePresent tamperIn k
  s.onProt fun p => causes.foldl (fun q k => q.setLatch k none) p

/-- The kinds named whose latch is still set. -/
def State.remainingMask (s : State) (mask : Nat) : Nat :=
  (allTripKinds.map fun k =>
    if mask.testBit (tripKindCode k) && (s.prot.latch k).isSome then 2 ^ tripKindCode k else 0).sum

def State.takeClearTrips (s : State) (n : Nat) (tamperIn : Bool) : State :=
  let mask := s.body32 n 0
  if 4096 ≤ mask then s.complete n .range 0
  else
    let s := s.afterKill fun s => s.clearLatches mask tamperIn
    let r := if mask.testBit 11 then s.clearContactor else (s, true)
    let remaining := s.remainingMask mask + (if r.2 then 0 else 2048)
    r.1.complete n (if remaining = 0 then .ok else .stillActive) (BitVec.ofNat 32 remaining)

/-! ## Contactor orders (R99, R110) -/

/-- CLOSE_PACK's test that fails first, with its completion and detail word. The three aux levels are one byte of the
detail word, POS, NEG and PRE in bits 0 to 2: R99 and R174 do not say whether they are one field or three (DESIGN CHOICE,
log entry 58). -/
def State.closeRefusal (s : State) : Option (Completion × Word) :=
  if s.cont.state ≠ .opened ∨ s.cont.aux ≠ ⟨false, false, false⟩ then
    some (.refusedState, packDetail [(1, contactorStateCode s.cont.state), (1, tripleBits s.cont.aux)])
  else if s.killGate then
    some (.lockedOut, packDetail [(1, openCauseCode .kill), (1, boolCode s.inputs.pins.safeOpen)])
  else if s.prot.openingMask ≠ 0 then some (.lockedOut, packDetail [(2, s.prot.openingMask)])
  else if s.prot.stale then some (.noSupervision, BitVec.ofNat 32 s.sinceEvaluation)
  else none

def State.takeClosePack (s : State) (n : Nat) : State :=
  match s.closeRefusal with
  | some (code, detail) => s.complete n code detail
  | none =>
    let s := (s.clearPath none).onCont fun c => { c with
      closeSlot := some n, state := .negClosing, commands := ⟨false, true, false⟩ }
    (s.startStep s.profile.window).restartWatches

def State.takeOpenPack (s : State) (n : Nat) : State :=
  let flags := s.body32 n 0
  if s.cont.openSlot.isSome then s.complete n .busy 0
  else if 2 ≤ flags then s.complete n .range 0
  else
    let held := s.onCont fun c => { c with openSlot := some n }
    match s.cont.state with
    | .opened => s.complete n .ok (packDetail [(1, contactorStateCode .opened), (1, 0), (2, 0)])
    | .faulted => s.complete n .ok s.openDetail
    | .negClosing | .precharging | .posClosing | .preReleasing => held.abandonClose .openOrder false
    | .closed =>
      let t := held.clearPath (some .openOrder)
      if flags = 1 then t.enterHoldoff else t.enterPosOpening false
    | .holdoff | .posOpening | .weldCheck | .negOpening => held

/-! ## ENTER_SLEEP (R148, R24, R126) -/

/-- The first condition of R148 that fails, counted from 0. -/
def State.sleepRefusal (s : State) (wakeIn : Bool) : Option Nat :=
  if s.cont.state ≠ .opened then some 0
  else if s.seq.sampler = .waiting ∨ s.seq.sampler = .running then some 1
  else if ¬ ((s.store.session = .idle ∨ s.store.session = .locked) ∧ s.store.slot.isNone) then some 2
  else if s.pool.orderQueue ≠ [] then some 3
  else if wakeIn then some 4
  else none

/-- A time parameter brought within its range, and whether it had to be. -/
def clampTime (lo hi v : Nat) : Nat × Bool :=
  if v < lo then (lo, true) else if hi < v then (hi, true) else (v, false)

/-- Sleep entry aborts the order in the chain's slot, in the event that takes ENTER_SLEEP, and an enumeration is left
NEEDED. A transaction of it that was granted runs to its end with its result discarded: that the order completes while
that transaction still runs, and not when it ends, is the model's choice, since R24's 'at once' speaks of an order that
waits or stands between transactions (DESIGN CHOICE, log entry 61). -/
def State.abortChainOrder (s : State) : State :=
  match s.chain.slot with
  | none => s
  | some _ =>
    (s.completeChainOrder .aborted 0).onChain fun c => { c with
      engine := c.engine.map (Engine.discardFor .order)
      enumStatus := if c.enumStatus = .running then .needed else c.enumStatus }

/-- Sleep entry withdraws a LINK allocation (R126). -/
def State.withdrawLink (s : State) : State :=
  if s.pool.hasRequest .link then
    (s.onPool fun p => Pool.grant { p with
      waitingLink := none
      inProgress := match p.inProgress with
        | some (.link, _) => none
        | x => x
      allocNumber := 0
      allocReason := .abandoned }).onLink fun l => { l with allocDone := true }
  else s

/-- Sleep entry begins: no history entry is delivered to the Contactor Sequencer any more (R116, R148, R149). -/
def State.beginEntry (s : State) (n : Nat) (settings : PatrolSettings) (clamped : Bool) : State :=
  let s := s.onSleep fun x => { x with
    power := .entering
    phase := .entrySleep
    slot := some ⟨n, clamped⟩
    settings := settings
    pendingReason := none
    nodesAsleep := false
    failedSet := 0
    patrolDue := false
    patrol := none }
  let s := (s.onSensing fun x => { x with sampleTimer := none, burstTimer := none }).onCont Contactors.suspend
  let s := s.onTransit fun t => { t with toContactors := [] }
  s.abortChainOrder.withdrawLink.onChain fun c => { c with sleepRequest := some .sleep }

def State.takeEnterSleep (s : State) (n : Nat) (wakeIn : Bool) : State :=
  if s.quiet n then s.complete n .malformed (malformedDetail 4 (s.orderHalf n 4))
  else match s.sleepRefusal wakeIn with
    | some i => s.complete n .refusedState (packDetail [(1, i)])
    | none =>
      match s.rangeOf n 8 with
      | none => s.complete n .range (packDetail [(1, 3)])
      | some (slot, first, last) =>
        let interval := clampTime 1 86400 (s.body32 n 0)
        let maxSleep := clampTime 60 2592000 (s.body32 n 4)
        s.beginEntry n ⟨interval.1, maxSleep.1, slot, first, last⟩ (interval.2 || maxSleep.2)

/-! ## Profile Store orders (R164 to R171) -/

def State.takeUpdateBegin (s : State) (n : Nat) : State :=
  let version : Word := BitVec.ofNat 32 (s.body32 n 0)
  let length := s.body32 n 4
  if s.store.session = .locked then s.complete n .lockedOut 0
  else if s.store.session ≠ .idle then s.complete n .busy 0
  else if length < 64 ∨ 8192 < length then s.complete n .range 0
  else if version.toNat ≤ s.store.floor.toNat then s.complete n .staleVersion s.store.floor
  else s.onStore fun p => { p.setTarget ⟨.writing, version, 0, length, []⟩ with
    declVersion := version, declLength := length, slot := some (.erase n) }

def State.takeUpdateChunk (s : State) (n : Nat) : State :=
  let offset := s.body32 n 0
  let count := s.orderHalf n 4 - 4
  if s.store.session = .locked then s.complete n .lockedOut 0
  else if s.store.session ≠ .receiving then s.complete n .refusedState 0
  else if offset ≠ s.store.nextOffset then s.complete n .sequenceError (BitVec.ofNat 32 s.store.nextOffset)
  else if s.store.declLength < offset + count then s.complete n .range (BitVec.ofNat 32 s.store.declLength)
  else s.onStore fun p => { p with slot := some (.program n offset (s.pool.bytes n 20 count)) }

def State.takeUpdateFinish (s : State) (n : Nat) : State :=
  if s.store.session = .locked then s.complete n .lockedOut 0
  else if s.store.session ≠ .receiving then s.complete n .refusedState 0
  else if s.store.nextOffset < s.store.declLength then
    s.complete n .incomplete (BitVec.ofNat 32 s.store.nextOffset)
  else s.onStore fun p => { p.setTarget { p.target with state := .written } with
    session := .verifying, slot := some (.verify n) }

/-- UPDATE_ABORT (R170). VERIFYING and ACTIVATION_PENDING hold the slot, so no abort is taken in them; the answer given
there is never seen. -/
def State.takeUpdateAbort (s : State) (n : Nat) : State :=
  let detail := packDetail [(1, sessionCode s.store.session)]
  match s.store.session with
  | .idle => s.complete n .ok detail
  | .receiving | .verified =>
    (s.onStore fun p => { p.invalidate with session := .idle }).complete n .ok detail
  | .locked => s.complete n .lockedOut 0
  | .verifying | .activationPending => s.complete n .refusedState detail

def State.takeActivate (s : State) (n : Nat) : State :=
  if s.store.session = .locked then s.complete n .lockedOut 0
  else if s.store.session ≠ .verified then s.complete n .refusedState 0
  else
    let s := s.onStore fun p => { p with
      chainChange := decide ((sectionsOf p.target.image).chain ≠ (sectionsOf p.active.image).chain)
      session := .activationPending
      waitTimer := some 10000000
      slot := some (.activate n) }
    if s.activationReady then s.activate else s

/-- The 48-byte answer of READ_PROFILE_INFO (R177). -/
def State.profileInfo (s : State) : List Byte :=
  let p := s.store
  bankRecord p.bankA ++ bankRecord p.bankB ++
  [BitVec.ofNat 8 (bankCode p.activeBank), BitVec.ofNat 8 (sessionCode p.session), BitVec.ofNat 8 p.rejected,
    BitVec.ofNat 8 (boolCode p.chainChange), BitVec.ofNat 8 (resetCauseCode s.link.resetCause), 0, 0, 0] ++
  leBytes 4 p.floor.toNat ++ leBytes 4 p.declVersion.toNat ++ leBytes 2 p.declLength ++ leBytes 2 p.nextOffset ++
  [0, 0, 0, 0]

def State.takeReadInfo (s : State) (n : Nat) : State := s.complete n .ok 0 s.profileInfo

/-! ## The taking -/

/-- The owner takes an order whose header has passed. -/
def State.takeKind (s : State) (k : OrderKind) (n : Nat) : State :=
  match k with
  | .enumerateChain => s.takeEnumerate n
  | .readChainStatus => s.takeReadChainStatus n
  | .writeNode => s.takeWriteNode n
  | .readNode => s.takeReadNode n
  | .startSampling => s.takeStartSampling n
  | .stopSampling => s.takeStopSampling n
  | .singleFrame => s.takeSingleFrame n
  | .selectList => s.takeSelectList n
  | .snapshotHistory => s.takeSnapshot n
  | .clearTrips => s.takeClearTrips n s.inputs.pins.tamperIn
  | .closePack => s.takeClosePack n
  | .openPack => s.takeOpenPack n
  | .enterSleep => s.takeEnterSleep n s.inputs.pins.wakeIn
  | .updateBegin => s.takeUpdateBegin n
  | .updateChunk => s.takeUpdateChunk n
  | .updateFinish => s.takeUpdateFinish n
  | .updateAbort => s.takeUpdateAbort n
  | .activateProfile => s.takeActivate n
  | .readProfileInfo => s.takeReadInfo n

/-- The head order of a kind is taken: into service, through the header checks, to its owner. -/
def State.takeHeadOrder (s : State) (n : Nat) (k : OrderKind) : State :=
  let s := s.onPool fun p => p.takeHead n
  match s.headerCheck n k with
  | 0 => s.takeKind k n
  | check => s.complete n .malformed (malformedDetail check (s.orderHalf n 4))

/-- The head is examined (R139): an unknown kind completes ILLEGAL_ORDER, a known kind with its slot free is taken, and
anything else stays. -/
def State.examineHead (s : State) : State :=
  if !s.activeNow then s
  else match s.headOrder with
    | none => s
    | some (n, none) =>
      (s.onPool fun p => p.takeHead n).complete n .illegalOrder (packDetail [(1, s.orderByte n 0)])
    | some (n, some k) => if s.slotFree k then s.takeHeadOrder n k else s

/-- The examination of a head of one kind; with any other head nothing happens. -/
def State.examineKind (s : State) (k : OrderKind) : State :=
  if s.headOrder.map (·.2) = some (some k) then s.examineHead else s

end Sys2Proof.Machine
end

