-- ==== Sys2Proof/Machine/Events.lean ====
section
/-! DEFINITION. The frame of an event: what every command's meaning shares. -/

namespace Sys2Proof.Machine

open Sys2Proof

/-- The answer of a command's meaning. -/
abbrev Answer := Host.Outcome State Fault Refusal

/-- An event inside one block that touches no Status Block field. While RESET_N is asserted nothing is taken. -/
def State.localEvent (s : State) (f : State → State) : Answer := .next (if s.inputs.inReset then s else f s)

/-- An event closed by `publish`: the reports to other blocks, and the update count. -/
def State.event (s : State) (f : State → State) : Answer :=
  .next (if s.inputs.inReset then s else (f s).publish s)

/-- The expiry of a timer: with the timer running its time passes and the event follows; a stopped timer does not
expire (log entry 6). -/
def State.onExpiry (s : State) (t : Timer) (f : State → State) : State :=
  match t with
  | none => s
  | some r => f (s.elapse r)

end Sys2Proof.Machine
end

