-- ==== Sys2Proof/Machine/AlertRows.lean ====
section
/-! DEFINITION. The Alert Writer's rows (R142, R144). -/

namespace Sys2Proof.Machine

open Sys2Proof

/-- ALERT_ARRIVAL: the oldest alert on its way arrives (R142). -/
def execAlertArrival (s : State) : Answer :=
  s.event fun s =>
    match s.transit.alerts with
    | [] => s
    | (kind, payload) :: rest => (s.onTransit fun t => { t with alerts := rest }).alertArrives kind payload

/-- ALERT_RECORD_WRITTEN (R142). -/
def execAlertRecordWritten (s : State) : Answer := s.event State.recordWritten

end Sys2Proof.Machine
end

