-- ==== Sys2Proof/Machine/BufferRows.lean ====
section
/-! DEFINITION. The immediate commands and the Buffer Manager's own events (R123, R124, R126 to R130). -/

namespace Sys2Proof.Machine

open Sys2Proof

/-- ALLOCATE's body (R126). -/
def State.allocate (s : State) (count : Nat) : CommandOutcome × State :=
  if count = 0 ∨ 2048 < count then (.range, s)
  else if s.pool.hasRequest .link then (.refusedBusy, s)
  else (.pending, (s.onPool fun p => Pool.grant { p with
    waitingLink := some (pagesFor count), allocNumber := 0, allocReason := .pending }).onLink fun l =>
      { l with allocDone := false })

/-- ALLOCATE (R126). -/
def execAllocate (argument : Half) (s : State) : Answer :=
  s.localEvent fun s => s.command 1 argument fun s => s.allocate argument.toNat

/-- SUBMIT's body (R127). -/
def State.submit (s : State) (n : Nat) : CommandOutcome × State :=
  if n = 0 ∨ 40 < n then (.range, s)
  else if !(s.pool.entry n).hostHeld then (.refusedState, s)
  else (.ok, s.onPool fun p =>
    let q := p.setEntry n { p.entry n with state := .orderQueued, requester := .link }
    { q with orderQueue := q.orderQueue ++ [n] })

/-- SUBMIT (R127). -/
def execSubmit (argument : Half) (s : State) : Answer :=
  s.localEvent fun s => s.command 2 argument fun s => s.submit argument.toNat

/-- The taken part of ALLOC_RESULT (R128, R129). -/
def Pool.recordTaken (p : Pool) (n : Nat) : Pool :=
  { p with takenNumber := n, takenRequester := (p.entry n).requester, takenPages := (p.entry n).pages.length }

/-- A host release begins (R125). -/
def Pool.beginHostRelease (p : Pool) (n : Nat) : Pool := { p.beginRelease n with hostRelease := some n }

/-- A taken head is kept as HELD, or its release begins. -/
def Pool.keepOrRelease (p : Pool) (n : Nat) (release : Bool) : Pool :=
  if release then p.beginHostRelease n else p.setEntry n { p.entry n with state := .held }

/-- The Sleep Controller hears of a number taken from the Result Queue (R159). -/
def State.resultTaken (s : State) (n : Nat) : State :=
  if s.sleep.wakeCompletion = n ∧ n ≠ 0 then s.onSleep fun x => { x with wakeOut := false, wakeCompletion := 0 }
  else s

/-- The outcome of a take. -/
def takeOutcome (release : Bool) : CommandOutcome := if release then .pending else .ok

/-- TAKE_RESULT's body (R128). -/
def State.takeResult (s : State) (argument : Nat) : CommandOutcome × State :=
  if 2 ≤ argument then (.range, s)
  else match s.pool.resultQueue with
    | [] => (.refusedEmpty, s)
    | n :: rest =>
      let release := argument == 1
      if release && s.pool.hostRelease.isSome then (.refusedBusy, s)
      else (takeOutcome release, (s.onPool fun p =>
        ({ p with resultQueue := rest }.recordTaken n).keepOrRelease n release).resultTaken n)

/-- TAKE_RESULT (R128). -/
def execTakeResult (argument : Half) (s : State) : Answer :=
  s.event fun s => s.command 3 argument fun s => s.takeResult argument.toNat

/-- TAKE_ALERT's body (R128). -/
def State.takeAlert (s : State) (argument : Nat) : CommandOutcome × State :=
  if 2 ≤ argument then (.range, s)
  else match s.pool.alertQueue with
    | [] => (.refusedEmpty, s)
    | n :: rest =>
      let release := argument == 1
      if release && s.pool.hostRelease.isSome then (.refusedBusy, s)
      else (takeOutcome release, s.onPool fun p =>
        ({ p with alertQueue := rest }.recordTaken n).keepOrRelease n release)

/-- TAKE_ALERT (R128). -/
def execTakeAlert (argument : Half) (s : State) : Answer :=
  s.event fun s => s.command 4 argument fun s => s.takeAlert argument.toNat

/-- RELEASE's body (R130). -/
def State.release (s : State) (n : Nat) : CommandOutcome × State :=
  if n = 0 ∨ 40 < n then (.range, s)
  else if s.pool.hostRelease.isSome then (.refusedBusy, s)
  else if !(s.pool.entry n).hostHeld then (.refusedState, s)
  else (.pending, s.onPool fun p => p.beginHostRelease n)

/-- RELEASE (R130). -/
def execRelease (argument : Half) (s : State) : Answer :=
  s.localEvent fun s => s.command 5 argument fun s => s.release argument.toNat

/-- ILLEGAL_COMMAND (R126, R175). -/
def execIllegalCommand (code : Byte) (argument : Half) (s : State) : Answer :=
  if 1 ≤ code.toNat ∧ code.toNat ≤ 5 then .refused .illFormed
  else s.localEvent fun s => s.command code argument fun s => (.illegal, s)

/-! ## The allocator (R123) -/

/-- Why an allocation of `n` pages fails, or nothing. -/
def Pool.allocFailure (p : Pool) (r : Requester) (n reserve : Nat) : Option AllocReason :=
  let numbers := match r with
    | .alert => 1
    | .link | .sampler => 5
  let pages := match r with
    | .alert => 1
    | .link | .sampler => n + reserve
  if p.freeNumberCount < numbers then some .noNumber
  else if p.freePageCount < pages then some .noPages
  else none

/-- The buffer a successful allocation creates: the lowest FREE number and the lowest free pages, zeroed. -/
def Pool.create (p : Pool) (r : Requester) (n : Nat) : Nat × Pool :=
  let number := p.freeNumbers.headD 0
  let pages := p.freePages.take n
  let state : BufferState := match r with
    | .link => .held
    | .sampler | .alert => .filling
  let q := { p with memory := memZero p.memory pages }.setEntry number ⟨state, pages, r, false⟩
  (number, match r with
    | .alert => { q with retained := q.retained.map (· ++ pages) }
    | .link | .sampler => q)

/-- The LINK requester takes the outcome (R126). -/
def State.linkAllocated (s : State) (number : Nat) (reason : AllocReason) : State :=
  ((s.onPool fun p => { p with allocNumber := number, allocReason := reason }).onLink fun l =>
    { l with allocDone := true }).settleCommand [1]

/-- The Frame Sequencer takes the outcome (R31). -/
def State.resultAllocated (s : State) (buffer : Option Nat) : State :=
  match buffer with
  | some n => s.onFrame fun f => { f with result := .granted n }
  | none => (s.onSeq fun q => { q with droppedFrames := satAdd 65535 q.droppedFrames 1 }).onFrame fun f =>
      { f with result := .dropped }

/-- The allocation in progress completes, and the arbiter grants the next waiting request (R123) before the frame end that
a SAMPLER's outcome lets follow, with its own new request; the Alert Writer's next request, which a failed allocation of
its own lets it make at once (R142), comes before that grant and takes part in it. The spec orders neither against the
grant (DESIGN CHOICE, log entry 49). -/
def State.completeAllocation (s : State) (r : Requester) (n : Nat) : State :=
  let failure := s.pool.allocFailure r n s.profile.alertReserve
  let made := s.pool.create r n
  let s := s.onPool fun p => { (if failure.isNone then made.2 else p) with inProgress := none }
  let s := match r with
    | .link => match failure with
      | none => s.linkAllocated made.1 .noReason
      | some reason => s.linkAllocated 0 reason
    | .sampler => s.resultAllocated (if failure.isNone then some made.1 else none)
    | .alert => s.alertAllocated (if failure.isNone then some made.1 else none)
  s.onPool Pool.grant

/-- ALLOCATION_COMPLETE (R123). -/
def execAllocationComplete (s : State) : Answer :=
  s.event fun s =>
    match s.pool.inProgress with
    | none => s
    | some (r, n) => (s.completeAllocation r n).settle

/-! ## Releases (R124) -/

/-- The oldest release on the list completes. -/
def Pool.finishRelease (p : Pool) (n : Nat) : Pool :=
  let q := p.setEntry n { p.entry n with state := .free, pages := [], marked := false }
  { q with releaseList := q.releaseList.tail, hostRelease := if q.hostRelease = some n then none else q.hostRelease }

def State.completeRelease (s : State) (n : Nat) : State :=
  let host := s.pool.hostRelease == some n
  let s := s.onPool fun p => p.finishRelease n
  let s := if host then s.settleCommand [3, 4, 5] else s
  if s.sleep.phase = .entryRelease ∧ s.pool.releaseList = [] then s.endReleaseStep.settle else s

/-- RELEASE_COMPLETE (R124, R149). -/
def execReleaseComplete (s : State) : Answer :=
  s.event fun s =>
    match s.pool.releaseList with
    | [] => s
    | n :: _ => s.completeRelease n

end Sys2Proof.Machine
end

