-- ==== Sys2Proof/Machine/ChainRows.lean ====
section
/-! DEFINITION. The chain rows: what arrives on the ports and the Chain Controller's timers (R3 to R13, R20). -/

namespace Sys2Proof.Machine

open Sys2Proof

/-- A chain event with a transaction in progress; the work that follows is run. -/
def State.engineEvent (s : State) (f : State → Engine → State) : Answer :=
  s.event fun s =>
    match s.chain.engine with
    | none => s
    | some e => (f s e).settle

/-- TRANSMISSION_END: the frame has left its port (R6, R10). -/
def execTransmissionEnd (s : State) : Answer :=
  s.engineEvent fun s e => s.onExpiry s.chain.txTimer fun s => s.transmitted e

/-- A reply can reach the part: one is awaited, or has begun, on the engine's port. -/
def Engine.listens (e : Engine) (p : Port) : Bool :=
  e.port == p && (e.phase == .awaiting || e.phase == .receiving)

/-- REPLY_RECEIVED: a complete frame on a port (R5, R6). -/
def execReplyReceived (port : Port) (frame : List Byte) (s : State) : Answer :=
  s.engineEvent fun s e => if e.listens port then s.replied e frame else s

/-- CHAIN_BYTE_PAUSE: a reply that has begun is incomplete, hence bad (R3, R5). -/
def execChainBytePause (port : Port) (s : State) : Answer :=
  s.engineEvent fun s e => if e.port = port ∧ e.phase = .receiving then s.endAttempt e true else s

/-- REPLY_TIMEOUT: the reply timer expires (R6). -/
def execReplyTimeout (s : State) : Answer :=
  s.engineEvent fun s e =>
    if e.phase = .awaiting then s.onExpiry s.chain.replyTimer fun s => s.endAttempt e false else s

/-- FIRST_REPLY_BYTE: the reply timer stops (R6). -/
def execFirstReplyByte (port : Port) (s : State) : Answer :=
  s.localEvent fun s =>
    match s.chain.engine with
    | some e =>
      if e.port = port ∧ e.phase = .awaiting then
        s.onChain fun c => { c with engine := some { e with phase := .receiving }, replyTimer := none }
      else s
    | none => s

/-- RING_WATCH_EXPIRY: the watch ends without the frame's return (R10). -/
def execRingWatchExpiry (s : State) : Answer :=
  s.engineEvent fun s e =>
    if e.phase = .watching then s.onExpiry s.chain.watchTimer fun s => s.watchEnded e else s

/-- RING_FRAME_RETURN: a frame arrives on port B; it counts as the return when its bytes are those sent (R10, R13). -/
def execRingFrameReturn (frame : List Byte) (s : State) : Answer :=
  s.engineEvent fun s e => if e.phase = .watching ∧ frame = e.frame.bytes then s.frameReturned e else s

/-- The conditions of a KEEPALIVE besides the 50 ms (R11). -/
def State.keepaliveFree (s : State) : Bool :=
  s.chain.ringMode && s.sleep.power == .active && s.chain.engine.isNone && s.chain.location.isNone &&
  s.chain.seqRequest.isNone && s.chain.sleepRequest.isNone && s.chain.slot.isNone && !s.chain.quiet .a

/-- KEEPALIVE_IDLE_EXPIRY: 50 ms without a transaction have passed (R11). -/
def execKeepaliveIdleExpiry (s : State) : Answer :=
  s.event fun s => s.onExpiry s.chain.idleTimer fun s =>
    if s.keepaliveFree then s.startTransaction .ringCheck .keepalive .a 0 else s

/-- The quiet time of a port. -/
def Chain.quietTimer (c : Chain) : Port → Timer
  | .a => c.quietA
  | .b => c.quietB

/-- The quiet time of a port ends; a frame waiting for that port begins to leave. -/
def Chain.endQuiet (c : Chain) (p : Port) : Chain :=
  let c := match p with
    | .a => { c with quietA := none }
    | .b => { c with quietB := none }
  match c.engine, c.txTimer with
  | some e, none => if e.port = p ∧ e.phase = .sending then c.send e else c
  | _, _ => c

/-- WAKE_TONE_QUIET_EXPIRY (R4). -/
def execWakeToneQuietExpiry (port : Port) (s : State) : Answer :=
  s.event fun s => s.onExpiry (s.chain.quietTimer port) fun s => (s.onChain fun c => c.endQuiet port).settle

/-- The order in the chain's slot was never granted its first transaction (R20); an enumeration then ends NEEDED
(R19). -/
def State.chainOrderTimedOut (s : State) : State :=
  (s.completeChainOrder .timeout (chainDetail 0)).onChain fun c =>
    { c with enumStatus := if c.enumStatus = .running then .needed else c.enumStatus }

/-- CHAIN_ORDER_WAIT_TIMEOUT (R20). -/
def execChainOrderWaitTimeout (s : State) : Answer :=
  s.event fun s => s.onExpiry s.chain.waitTimer State.chainOrderTimedOut

end Sys2Proof.Machine
end

