-- ==== Sys2Proof/Machine/ContactorRows.lean ====
section
/-! DEFINITION. The Contactor Sequencer's rows (R96 to R112). -/

namespace Sys2Proof.Machine

open Sys2Proof

/-- KILL_GATE_ASSERTION (R112). -/
def execKillGateAssertion (s : State) : Answer :=
  s.event fun s => (s.onTransit fun t => { t with killEdges := t.killEdges.erase true }).takeKill

/-- KILL_GATE_DEASSERTION: no change of state or command (R112). -/
def execKillGateDeassertion (s : State) : Answer :=
  s.event fun s => s.onTransit fun t => { t with killEdges := t.killEdges.erase false }

/-- ORDERLY_OPEN_DEMAND (R111). -/
def execOrderlyOpenDemand (s : State) : Answer :=
  s.event fun s => (s.onTransit fun t => { t with demands := t.demands - 1 }).takeDemand

/-- The line changes: in ACTIVE the 1 ms hold of a new level starts, and a level that reverts is not taken (R96). -/
def State.auxEdge (s : State) (k : Contactor) (closed : Bool) : State :=
  let changed := (PinLevels.aux s.inputs.pins).get k != closed
  let t := s.onInputs fun i => { i with pins := PinLevels.setAux i.pins k closed }
  if changed && s.activeNow then
    t.onCont fun c => { c with holds := c.holds.set k (if c.aux.get k = closed then none else some ⟨1000, s.now⟩) }
  else t

/-- AUX_INPUT_EDGE (R96). While RESET_N is asserted the line moves and nothing is timed. -/
def execAuxInputEdge (contactor : Contactor) (closed : Bool) (s : State) : Answer :=
  .next (s.auxEdge contactor closed)

/-- A level held for 1 ms is taken and logged, and the sequencer reacts (R96). -/
def State.takeLevel (s : State) (k : Contactor) (since : Word) : State :=
  let level := (PinLevels.aux s.inputs.pins).get k
  let s := s.onCont fun c => { c with
    aux := c.aux.set k level
    holds := c.holds.set k none
    logs := c.logs.set k (logEdge (c.logs.get k) ⟨level, since⟩) }
  s.levelReached k level

/-- AUX_LEVEL_TAKEN (R96). -/
def execAuxLevelTaken (contactor : Contactor) (s : State) : Answer :=
  s.event fun s =>
    match s.cont.holds.get contactor with
    | none => s
    | some h => (s.elapse h.remaining).takeLevel contactor h.since

/-- NEG_OPENING's expiry: each of NEG and PRE that is not OPEN has a FEEDBACK fault, and the path ends (R108). Of two
alerts NEG's is raised first: R114 gives no order (DESIGN CHOICE, log entry 36). -/
def State.negWaitExpired (s : State) : State :=
  let since := s.cont.stepStart
  let s := if s.cont.aux.neg then s.fault .feedback .neg since else s
  let s := if s.cont.aux.pre then s.fault .feedback .pre since else s
  s.endPath

/-- The step timer has expired, by the state (R100 to R108). -/
def State.stepExpired (s : State) : State :=
  let since := s.cont.stepStart
  let s := s.onCont Contactors.stopStep
  match s.cont.state with
  | .negClosing => (s.fault .feedback .neg since).abandonClose .feedback false
  | .precharging => (s.fault .feedback .pre since).abandonClose .feedback false
  | .posClosing => (s.fault .feedback .pos since).abandonClose .feedback false
  | .preReleasing => (s.fault .feedback .pre since).abandonClose .feedback false
  | .holdoff => s.enterPosOpening false
  | .posOpening => (s.fault .feedback .pos since).endPosWait
  | .weldCheck => (s.fault .weld .pos since).enterNegOpening
  | .negOpening => s.negWaitExpired
  | .opened | .closed | .faulted => s

/-- STEP_TIMER_EXPIRY. -/
def execStepTimerExpiry (s : State) : Answer :=
  s.event fun s => s.onExpiry s.cont.stepTimer State.stepExpired

/-- The precharge timer has expired (R101). -/
def State.prechargeExpired (s : State) : State :=
  let since := s.cont.prechargeStart
  let s := s.onCont fun c => { c with prechargeTimer := none }
  if s.cont.state = .precharging then
    (s.fault .prechargeTimeout .pre since).abandonClose .prechargeTimeout false
  else s

/-- PRECHARGE_TIMER_EXPIRY (R101). -/
def execPrechargeTimerExpiry (s : State) : Answer :=
  s.event fun s => s.onExpiry s.cont.prechargeTimer State.prechargeExpired

/-- AUX_WATCH_EXPIRY (R97, R98). -/
def execAuxWatchExpiry (contactor : Contactor) (s : State) : Answer :=
  s.event fun s =>
    match s.cont.watches.get contactor with
    | none => s
    | some w => (s.elapse w.remaining).watchFault contactor w.since

end Sys2Proof.Machine
end

