-- ==== Sys2Proof/Machine/LinkRows.lean ====
section
/-! DEFINITION. The SPI rows: transactions, register writes, and the window (R133 to R137). -/

namespace Sys2Proof.Machine

open Sys2Proof

/-- A link event: nothing is taken while the Link Port is unpowered, and SDO reads as all ones (R133). -/
def State.linkEvent (s : State) (f : State → State) : Answer :=
  s.localEvent fun s => if s.linkPowered then f s else s.onLink fun l => { l with sdo := 0xFF }

/-- A command byte has been received (R133, R175): a transaction begins, and a DATA write transaction still open ends
first. Bits 3 to 6 make it void; a register read captures the register whole; a DATA write discards the read-ahead
(R135); a register write collects its bytes until the event of its own row. -/
def State.commandByte (s : State) (command : Byte) : State :=
  let s := if s.link.transaction = .dataWrite then s.endTransaction else s
  let index := registerIndex command
  let captured := s.readRegister index
  s.onLink fun l =>
    if voidByte command then { l with transaction := .void, sdo := 0xFF }
    else if readByte command then
      (if index = 4 then { l with transaction := .dataRead }
       else { l with transaction := .registerRead, capture := captured })
    else if index = 4 then { l with transaction := .dataWrite, readAhead := .discarded }
    else { l with transaction := .registerWrite }

/-- SPI_VOID_TRANSACTION: the command byte of a transaction, whose bits 3 to 6 may make it void (R133, R175, log
entry 32). -/
def execSpiVoidTransaction (command : Byte) (s : State) : Answer := s.linkEvent fun s => s.commandByte command

/-- SPI_TRANSACTION_END (R133, R135, R136). -/
def execSpiTransactionEnd (s : State) : Answer := s.linkEvent State.endTransaction

/-- REGISTER_WRITE to ID, ALLOC_RESULT or QUEUE_STATE: ignored (R134). -/
def execRegisterWrite (_register : ReadOnlyRegister) (_value : Word) (s : State) : Answer :=
  s.linkEvent fun s => s.beginTransaction .registerWrite

/-- The latched flags written 1 are cleared (R137, R144). -/
def State.clearFlags (s : State) (value : Word) : State :=
  let s := s.onLink fun l => { l with
    allocDone := l.allocDone && !value.getLsbD 3
    accessFault := l.accessFault && !value.getLsbD 4 }
  if value.getLsbD 5 then s.clearLostAlerts else s

/-- ATTN_WRITE (R137, R144). -/
def execAttnWrite (value : Word) (s : State) : Answer :=
  s.event fun s =>
    if s.linkPowered then (s.beginTransaction .registerWrite).clearFlags value
    else s.onLink fun l => { l with sdo := 0xFF }

/-- ATTN_MASK_WRITE (R134). -/
def execAttnMaskWrite (value : Word) (s : State) : Answer :=
  s.linkEvent fun s => (s.beginTransaction .registerWrite).onLink fun l => { l with mask := value.setWidth 6 }

/-- The pointer is loaded and a fetch is started at it (R135). -/
def State.loadPointer (s : State) (value : Word) : State :=
  (s.onLink fun l => { l with
    number := value.setWidth 8, offset := (value >>> 16).setWidth 16 }).fetch

/-- SELECT_WRITE (R135). -/
def execSelectWrite (value : Word) (s : State) : Answer :=
  s.linkEvent fun s => ((s.beginTransaction .registerWrite).storeWriteBehind).loadPointer value

/-- One DATA read: the read-ahead byte, or 00h with ACCESS_FAULT; then the next fetch (R135). -/
def State.readData (s : State) : State :=
  let s := s.beginTransaction .dataRead
  let s := if s.link.readAhead = .discarded then s.fetch else s
  let s := s.onLink fun l =>
    match l.readAhead with
    | .captured v => { l with sdo := v }
    | .refused | .discarded => { l with sdo := 0, accessFault := true }
  (s.onLink fun l => { l with offset := l.offset + 1 }).fetch

/-- DATA_READ (R135). -/
def execDataRead (s : State) : Answer := s.linkEvent State.readData

/-- One DATA write byte: the previous byte is stored, this one is tested and held or refused (R136). -/
def State.writeData (s : State) (value : Byte) : State :=
  let s := (s.beginTransaction .dataWrite).storeWriteBehind
  let number := s.link.number.toNat
  let offset := s.link.offset.toNat
  let accepted := s.writable number offset
  s.onLink fun l => { l with
    readAhead := .discarded
    writeBehind := if accepted then some ⟨number, offset, value⟩ else none
    accessFault := l.accessFault || !accepted
    offset := l.offset + 1 }

/-- DATA_WRITE (R136). -/
def execDataWrite (value : Byte) (s : State) : Answer := s.linkEvent fun s => s.writeData value

end Sys2Proof.Machine
end

