-- ==== Sys2Proof/Machine/OrderRows.lean ====
section
/-! DEFINITION. ORDER_HEAD_EXAMINE and the nineteen order rows: each order row is the examination that finds an order of
its kind at the head (R139, log entry 10). -/

namespace Sys2Proof.Machine

open Sys2Proof

/-- The lines an owner's test reads stand as the event finds them. -/
def State.setWakeIn (s : State) (asserted : Bool) : State :=
  s.onInputs fun i => { i with pins := { i.pins with wakeIn := asserted } }

def State.setTamperIn (s : State) (asserted : Bool) : State :=
  s.onInputs fun i => { i with pins := { i.pins with tamperIn := asserted } }

/-- An order row: the head is examined when it is of the row's kind, and the work that follows is run. -/
def State.orderEvent (s : State) (k : OrderKind) : Answer := s.event fun s => (s.examineKind k).settle

/-- ORDER_HEAD_EXAMINE (R139). -/
def execOrderHeadExamine (wakeIn tamperIn : Bool) (s : State) : Answer :=
  s.event fun s => (((s.setWakeIn wakeIn).setTamperIn tamperIn).examineHead).settle

/-- ENUMERATE_CHAIN (R16). -/
def execEnumerateChain (s : State) : Answer := s.orderEvent .enumerateChain

/-- READ_CHAIN_STATUS (R23). -/
def execReadChainStatus (s : State) : Answer := s.orderEvent .readChainStatus

/-- WRITE_NODE (R22). -/
def execWriteNode (s : State) : Answer := s.orderEvent .writeNode

/-- READ_NODE (R21). -/
def execReadNode (s : State) : Answer := s.orderEvent .readNode

/-- START_SAMPLING (R40). -/
def execStartSampling (s : State) : Answer := s.orderEvent .startSampling

/-- STOP_SAMPLING (R41). -/
def execStopSampling (s : State) : Answer := s.orderEvent .stopSampling

/-- SINGLE_FRAME (R42). -/
def execSingleFrame (s : State) : Answer := s.orderEvent .singleFrame

/-- SELECT_LIST (R43). -/
def execSelectList (s : State) : Answer := s.orderEvent .selectList

/-- SNAPSHOT_HISTORY (R57, R58). -/
def execSnapshotHistory (s : State) : Answer := s.orderEvent .snapshotHistory

/-- CLEAR_TRIPS (R91), with TAMPER_IN as the cause test of R76 reads it. -/
def execClearTrips (tamperIn : Bool) (s : State) : Answer :=
  s.event fun s => ((s.setTamperIn tamperIn).examineKind .clearTrips).settle

/-- CLOSE_PACK (R99). -/
def execClosePack (s : State) : Answer := s.orderEvent .closePack

/-- OPEN_PACK (R110). -/
def execOpenPack (s : State) : Answer := s.orderEvent .openPack

/-- ENTER_SLEEP (R148), with WAKE_IN as its test reads it. -/
def execEnterSleep (wakeIn : Bool) (s : State) : Answer :=
  s.event fun s => ((s.setWakeIn wakeIn).examineKind .enterSleep).settle

/-- UPDATE_BEGIN (R164). -/
def execUpdateBegin (s : State) : Answer := s.orderEvent .updateBegin

/-- UPDATE_CHUNK (R165). -/
def execUpdateChunk (s : State) : Answer := s.orderEvent .updateChunk

/-- UPDATE_FINISH (R166). -/
def execUpdateFinish (s : State) : Answer := s.orderEvent .updateFinish

/-- UPDATE_ABORT (R170). -/
def execUpdateAbort (s : State) : Answer := s.orderEvent .updateAbort

/-- ACTIVATE_PROFILE (R168). -/
def execActivateProfile (s : State) : Answer := s.orderEvent .activateProfile

/-- READ_PROFILE_INFO (R171). -/
def execReadProfileInfo (s : State) : Answer := s.orderEvent .readProfileInfo

end Sys2Proof.Machine
end

