-- ==== Sys2Proof/Machine/ProtectionRows.lean ====
section
/-! DEFINITION. The Protection Monitor's rows (R85 to R89). -/

namespace Sys2Proof.Machine

open Sys2Proof

/-- The staleness timer has expired (R84, R86). -/
def State.becomeStale (s : State) : State :=
  let s := s.onProt fun p => { p with stale := true, stalenessTimer := none }
  if s.cont.state = .opened then s else s.tripStale

/-- In ASLEEP the staleness timer runs out at a tick of the low-power clock: the ticks up to it pass, each with its work,
and the mark becomes STALE when the timer has run out (R84, R151). -/
def State.staleInSleep (s : State) (r : Nat) : State :=
  let s := s.runTicks ((r + 999) / 1000)
  (if s.prot.stalenessTimer = some 0 then s.becomeStale else s).settle

/-- STALENESS_TIMER_EXPIRY (R84, R86). -/
def execStalenessTimerExpiry (s : State) : Answer :=
  s.event fun s =>
    match s.sleep.power, s.prot.stalenessTimer with
    | .asleep, some r => s.staleInSleep r
    | _, t => s.onExpiry t State.becomeStale

/-- The oldest report waiting; with none, the state as it stands. -/
def State.nextOpenReport (s : State) : Bool := s.transit.openReports.headD (s.cont.state != .opened)

/-- CONTACTOR_STATE_REPORT: a move out of OPEN while the mark is STALE trips SUPERVISION_LOSS (R86). -/
def execContactorStateReport (s : State) : Answer :=
  s.event fun s =>
    let left := s.nextOpenReport
    let s := s.onTransit fun t => { t with openReports := t.openReports.tail }
    if left && s.prot.stale then s.tripStale else s

/-- NODE_LOST_REPORT: the lowest address that became LOST (R87, R90). -/
def execNodeLostReport (s : State) : Answer :=
  s.event fun s =>
    match s.transit.nodeLosses with
    | [] => s
    | n :: rest =>
      let s := s.onTransit fun t => { t with nodeLosses := rest }
      if s.profile.openOnLoss then s.trip .supervisionLoss { TripReport.plain with cause := 2, node := n } else s

def State.setSafeOpen (s : State) (asserted : Bool) : State :=
  s.onInputs fun i => { i with pins := { i.pins with safeOpen := asserted } }

/-- The line as the gate follows it, in a reset too (R85, R94); a deassertion finds the gate's assertion taken. -/
def State.safeOpenEdge (s : State) (asserted : Bool) : Answer :=
  let t := s.afterKill fun s => s.setSafeOpen asserted
  let t := if asserted && !s.inputs.pins.safeOpen && s.activeNow then t.tripSafeLine else t
  .next (if s.inputs.inReset then t else t.publish s)

/-- SAFE_OPEN_ASSERTION: the gate asserts, and in ACTIVE SAFE_LINE trips (R85, R88). -/
def execSafeOpenAssertion (s : State) : Answer := s.safeOpenEdge true

/-- SAFE_OPEN_DEASSERTION: the gate is recomputed (R85, R88). -/
def execSafeOpenDeassertion (s : State) : Answer := s.safeOpenEdge false

/-- TAMPER_EVENT_AT_PROTECTION: taken in ACTIVE, held until then in the other power states (R89, R153). -/
def execTamperEventAtProtection (s : State) : Answer :=
  s.event fun s =>
    if s.sleep.power = .active then (s.onProt fun p => { p with tamperHeld := false }).tripTamper
    else s.onProt fun p => { p with tamperHeld := true }

end Sys2Proof.Machine
end

