-- ==== Sys2Proof/Machine/Resets.lean ====
section
/-! DEFINITION. POWER_ON_RESET, RESET_N_ASSERTION and RESET_N_RELEASE (R173, R94, R46 and every block's reset rule). -/

namespace Sys2Proof.Machine

open Sys2Proof

/-- Every block but the clock, the inputs, the Profile Store and the queue at its reset values (R14, R27, R53, R59, R94,
R95, R117, R118, R120, R126, R134, R143, R147). What one block had on its way to another is dropped with it, an alert that
had not yet reached the Alert Writer included: R143 empties the pending list alone (DESIGN CHOICE, log entry 62). -/
def State.resetBlocks (s : State) (cause : ResetCause) (ringEn : Bool) (store : ProfileStore) : State :=
  { s with
    clock := { s.clock with packTime := 0 }
    link := Link.reset cause
    pool := Pool.reset
    alerts := AlertWriter.reset
    chain := Chain.reset ringEn
    seq := Sequencer.reset store.inUse.defaultPeriod
    sensing := Sensing.reset
    table := FrameTable.reset
    prot := Protection.reset
    cont := Contactors.reset
    sleep := Sleep.reset
    store := store
    transit := Transit.empty }

/-- The Profile Store samples TAMPER_IN, the fifth step of R173. -/
def State.sampleTamperAtStore (s : State) (tamperIn : Bool) : State := if tamperIn then s.lockAtReset else s

/-- The end of a reset: the sample timer starts, the aux inputs are sampled, and SAFE_OPEN and TAMPER_IN for the
Protection Monitor; a gate that is then asserted is an event for the Contactor Sequencer (R85; DEDUCED, log entry 46);
the WAKE_TONE is requested, the update count is raised once, and the first byte is fetched (R46, R88, R89, R96, R134,
R145, R147). SAFE_LINE trips before TAMPER, so its TRIP alert is the earlier one; R83 and R94 give no order (DESIGN CHOICE,
log entry 36). -/
def State.endReset (s : State) : State :=
  let s := (s.onInputs fun i => { i with inReset := false }).onSensing fun x => { x with sampleTimer := some 250 }
  let s := s.sampleAux false
  let s := if s.inputs.pins.safeOpen then s.tripSafeLine else s
  let s := if s.inputs.pins.tamperIn then s.tripTamper else s
  let s := s.onTransit fun t => { t with killEdges := if s.killGate then [true] else [] }
  let s := (s.onChain fun c => { c with sleepRequest := some .wakeTone }).settle
  (s.onPool fun p => { p with updateCount := 1 }).fetch

/-- POWER_ON_RESET: the whole of a power-on reset, from its start to its end, with the lines as they stand. -/
def execPowerOnReset (pins : PinLevels) (s : State) : Answer :=
  let s := (s.resetBlocks .powerOn pins.ringEn s.store.powerOn).onInputs fun i => { i with pins := pins }
  .next ((s.sampleTamperAtStore pins.tamperIn).onClock fun c => { c with tick := 1000 }).endReset

/-- RESET_N_ASSERTION: every block at its reset values, the Profile Store through the five steps of R173, RING_EN latched,
RESET_N held. -/
def execResetNAssertion (levels : ResetLevels) (s : State) : Answer :=
  let s := (s.resetBlocks .resetLine levels.ringEn s.store.resetLine).sampleTamperAtStore levels.tamperIn
  .next (s.onInputs fun i =>
    { i with pins := { i.pins with ringEn := levels.ringEn, tamperIn := levels.tamperIn }, inReset := true })

/-- RESET_N_RELEASE: the end of the reset that an assertion began. -/
def execResetNRelease (pins : PinLevels) (s : State) : Answer :=
  .next (if s.inputs.inReset then
    (s.onInputs fun i => { i with pins := { pins with ringEn := i.pins.ringEn } }).endReset else s)

end Sys2Proof.Machine
end

