-- ==== Sys2Proof/Machine/SensingRows.lean ====
section
/-! DEFINITION. The samples of the Sensing Front End and their deliveries (R46 to R55, R82, R101, R104, R107). -/

namespace Sys2Proof.Machine

open Sys2Proof

/-- The calibrated current of a raw reading, with I_SAT (R48). -/
def calibrateCurrent (raw gain offset : Int) : Int × Bool :=
  if 2200000 ≤ raw then (2000000, true)
  else if raw ≤ -2200000 then (-2000000, true)
  else
    let i := raw + roundAway (raw * gain) 1000000 + offset
    if 2000000 < i then (2000000, true) else if i < -2000000 then (-2000000, true) else (i, false)

/-- A voltage bounded to 0 to 1,000,000 mV, with V_SAT (R49). -/
def boundVoltage (mv : Int) : Nat × Bool :=
  if 1000000 < mv then (1000000, true) else (mv.toNat, false)

/-- The entry of a sample taken now. -/
def State.entryOf (s : State) (r : RawSample) : HistoryEntry :=
  let i := calibrateCurrent r.current s.profile.shuntGain s.profile.shuntOffset
  let pack := boundVoltage r.pack
  let link := boundVoltage r.link
  ⟨s.now, i.1, pack.1, link.1, i.2, pack.2 || link.2⟩

/-- The ring of 128: the oldest entry is lost when it is full (R50). -/
def pushEntry (history : List HistoryEntry) (e : HistoryEntry) : List HistoryEntry :=
  (history ++ [e]).drop (history.length + 1 - 128)

/-- A sample is taken: the sense inputs are held and the entry is written. -/
def State.takeSample (s : State) (r : RawSample) : State :=
  (s.onInputs fun i => { i with sense := r }).onSensing fun x =>
    { x with history := pushEntry x.history (s.entryOf r) }

/-- A periodic sample, delivered to both blocks (R46, R52). -/
def State.periodicSample (s : State) (r : RawSample) : State :=
  let e := s.entryOf r
  ((s.takeSample r).onSensing fun x => { x with sampleTimer := some 250 }).onTransit fun t => { t with
    toProtection := t.toProtection ++ [e], toContactors := t.toContactors ++ [e] }

/-- SAMPLE_TIMER_EXPIRY (R46 to R52). -/
def execSampleTimerExpiry (sample : RawSample) (s : State) : Answer :=
  s.event fun s => s.onExpiry s.sensing.sampleTimer fun s => s.periodicSample sample

/-- HISTORY_ENTRY_AT_PROTECTION: the oldest entry not yet judged (R82). -/
def execHistoryEntryAtProtection (s : State) : Answer :=
  s.event fun s =>
    match s.transit.toProtection with
    | [] => s
    | e :: rest => (s.onTransit fun t => { t with toProtection := rest }).judgeEntry e

/-- The hold-off current test passes (R104). -/
def HistoryEntry.withinLimit (e : HistoryEntry) (limit : Nat) : Bool :=
  !e.iSat && decide (e.current.natAbs ≤ limit)

/-- The weld check passes (R107). -/
def HistoryEntry.posFree (e : HistoryEntry) (fraction : Nat) : Bool :=
  decide (e.linkMv * 100 < e.packMv * fraction)

/-- An entry is kept as the newest and applied to the state's test (R96, R101, R104, R107). -/
def State.entryAtContactor (s : State) (e : HistoryEntry) : State :=
  let s := s.onCont fun c => { c with entry := some e }
  match s.cont.state with
  | .precharging => if s.prechargeDone e then s.enterPosClosing else s
  | .holdoff => if e.withinLimit s.profile.interrupt then s.enterPosOpening false else s
  | .weldCheck => if e.posFree s.profile.weldFraction then s.enterNegOpening else s
  | _ => s

/-- HISTORY_ENTRY_AT_CONTACTOR: the oldest entry not yet taken (R52); outside ACTIVE none is delivered (R116, log
entry 38). -/
def execHistoryEntryAtContactor (s : State) : Answer :=
  s.event fun s =>
    match s.transit.toContactors with
    | [] => s
    | e :: rest =>
      let s := s.onTransit fun t => { t with toContactors := rest }
      if s.sleep.power = .active then s.entryAtContactor e else s

/-- A burst sample: the entry, the sum, the saturation mark (R54). -/
def State.sampleBurst (s : State) (r : RawSample) : State :=
  let e := s.entryOf r
  (s.takeSample r).onSensing fun x => { x with
    burstCount := x.burstCount + 1
    burstSum := x.burstSum + e.current
    burstSat := x.burstSat || e.iSat
    burstTimer := if x.burstCount + 1 < 8 then some 250 else none }

/-- BURST_REQUEST: in PATROL the history is emptied and the first sample taken (R54, R55). -/
def execBurstRequest (sample : RawSample) (s : State) : Answer :=
  s.event fun s =>
    let s := s.onTransit fun t => { t with burst := false }
    if s.sleep.power = .patrol then s.emptyHistory.sampleBurst sample else s

/-- The burst's report at the eighth sample. -/
def State.reportBurst (s : State) : State :=
  match s.sensing.history.getLast? with
  | some e => (s.burstReported (roundAway s.sensing.burstSum 8) s.sensing.burstSat e).settle
  | none => s

/-- The burst's next sample; the eighth ends it (R54). -/
def State.nextBurstSample (s : State) (r : RawSample) : State :=
  let s := s.sampleBurst r
  if s.sensing.burstTimer.isNone then s.reportBurst else s

/-- BURST_SAMPLE: in PATROL alone; elsewhere the sample is not taken, and the burst has ended (R54, R55). -/
def execBurstSample (sample : RawSample) (s : State) : Answer :=
  s.event fun s => s.onExpiry s.sensing.burstTimer fun s =>
    if s.sleep.power = .patrol then s.nextBurstSample sample
    else s.onSensing fun x => { x with burstTimer := none }

end Sys2Proof.Machine
end

