-- ==== Sys2Proof/Machine/SequencerRows.lean ====
section
/-! DEFINITION. The Frame Sequencer's timers (R32, R34, R39). -/

namespace Sys2Proof.Machine

open Sys2Proof

/-- The frame timer has expired (R39). -/
def State.frameTimerExpired (s : State) : State :=
  let s := s.onSeq fun q => { q with frameTimer := none }
  match s.seq.sampler with
  | .waiting => (s.frameStart .normal false).settle
  | .running => s.onSeq fun q => { q with startDue := true }
  | .stopped | .halted => s

/-- FRAME_TIMER_EXPIRY (R39). -/
def execFrameTimerExpiry (s : State) : Answer :=
  s.event fun s => s.onExpiry s.seq.frameTimer State.frameTimerExpired

/-- The list waits in the phase given. -/
def State.listIn (s : State) (p : ListPhase) : Bool := (s.seq.frame.map Frame.phase) == some p

/-- A WAIT or HOLD_UNTIL has run out. -/
def State.elementTimedOut (s : State) (p : ListPhase) : State :=
  if s.listIn p then
    s.onExpiry s.seq.elementTimer fun s => (s.onSeq fun q => { q with elementTimer := none }).nextElement.settle
  else s

/-- WAIT_EXPIRY (R32). -/
def execWaitExpiry (s : State) : Answer := s.event fun s => s.elementTimedOut .waiting

/-- HOLD_UNTIL_EXPIRY (R32). -/
def execHoldUntilExpiry (s : State) : Answer := s.event fun s => s.elementTimedOut .holding

/-- The READ is requested again (R34). -/
def State.repoll (s : State) : State :=
  let s := s.onSeq fun q => { q with repollTimer := none }
  match s.seq.frame.map Frame.phase with
  | some (.gathering n temps _) => (s.requestChain (s.gatherRead n temps)).settle
  | _ => s

/-- REPOLL_DELAY_EXPIRY (R34). -/
def execRepollDelayExpiry (s : State) : Answer := s.event fun s => s.onExpiry s.seq.repollTimer State.repoll

end Sys2Proof.Machine
end

