-- ==== Sys2Proof/Machine/SleepRows.lean ====
section
/-! DEFINITION. The low-power clock, the sleep timers and the tamper edge (R151 to R153). -/

namespace Sys2Proof.Machine

open Sys2Proof

/-- LOW_POWER_TICK, with the levels of WAKE_IN and TAMPER_IN at the tick (R151 to R153). -/
def execLowPowerTick (wakeIn tamperIn : Bool) (s : State) : Answer :=
  s.event fun s =>
    let s := s.passTick
    let s := s.onInputs fun i => { i with pins := { i.pins with wakeIn := wakeIn, tamperIn := tamperIn } }
    s.tickWork.settle

/-- MAX_SLEEP_EXPIRY: the ticks up to the max-sleep timer's compare value pass, each with its work; the last of them
brings the wake reason (R151). -/
def execMaxSleepExpiry (s : State) : Answer :=
  s.event fun s =>
    if s.sleepTimersRun then (s.passTicks (1000 * s.sleep.settings.maxSleep - s.sleep.maxCount)).settle else s

/-- WAKE_TIMER_EXPIRY: the ticks up to the wake timer's compare value pass, each with its work; at the last of them the
patrol falls due (R151). -/
def execWakeTimerExpiry (s : State) : Answer :=
  s.event fun s =>
    if s.sleepTimersRun then (s.passTicks (1000 * s.sleep.settings.interval - s.sleep.wakeCount)).settle else s

/-- TAMPER_IN_EDGE: an assertion edge of TAMPER_IN (R153). -/
def execTamperInEdge (s : State) : Answer :=
  s.event fun s =>
    ((s.onInputs fun i => { i with pins := { i.pins with tamperIn := true } }).tamperEdge).settle

end Sys2Proof.Machine
end

