-- ==== Sys2Proof/Machine/StoreRows.lean ====
section
/-! DEFINITION. The Profile Store's rows (R164 to R172). -/

namespace Sys2Proof.Machine

open Sys2Proof

/-- TAMPER_EVENT_AT_PROFILE (R172). -/
def execTamperEventAtProfile (s : State) : Answer := s.event State.tamperAtStore

/-- The erase has ended (R164). -/
def State.eraseEnded (s : State) (succeeded : Bool) : State :=
  if succeeded then
    (s.onStore fun p => { p with session := .receiving, nextOffset := 0 }).completeStoreOrder .ok
      (packDetail [(1, bankCode s.store.targetBank)])
  else
    ((s.onStore ProfileStore.invalidate).completeStoreOrder .writeFailed 0).raise .updateRejected
      (s.store.rejectedPayload 5 0)

/-- ERASE_COMPLETE (R164). -/
def execEraseComplete (succeeded : Bool) (s : State) : Answer :=
  s.event fun s =>
    match s.store.slot with
    | some (.erase _) => s.eraseEnded succeeded
    | _ => s

/-- The programming has ended (R165). -/
def State.programEnded (s : State) (offset : Nat) (bytes : List Byte) (succeeded : Bool) : State :=
  if succeeded then
    let next := offset + bytes.length
    (s.onStore fun p =>
      { p.setTarget { p.target with image := p.target.image.take offset ++ bytes } with
        nextOffset := next }).completeStoreOrder .ok (BitVec.ofNat 32 next)
  else
    ((s.onStore fun p => { p.invalidate with session := .idle }).completeStoreOrder .writeFailed 0).raise
      .updateRejected (s.store.rejectedPayload 5 offset)

/-- PROGRAM_COMPLETE (R165). -/
def execProgramComplete (succeeded : Bool) (s : State) : Answer :=
  s.event fun s =>
    match s.store.slot with
    | some (.program _ offset bytes) => s.programEnded offset bytes succeeded
    | _ => s

/-- VERIFY_COMPLETE (R166, R167). -/
def execVerifyComplete (s : State) : Answer :=
  s.event fun s =>
    match s.store.slot with
    | some (.verify _) => s.verified
    | _ => s

/-- ACTIVATION_CONDITION_REPORT (R168). -/
def execActivationConditionReport (s : State) : Answer :=
  s.event fun s =>
    let s := s.onTransit fun t => { t with activation := t.activation - 1 }
    if s.store.session = .activationPending ∧ s.activationReady then s.activate.settle else s

/-- The activation wait has run out: the condition that did not hold is named, the contactors 0 or the sampler 1. With
neither holding the contactors are named; with both holding, their report not yet taken, the sampler: R168 speaks of
neither case (DESIGN CHOICE, log entry 45). -/
def State.activationTimedOut (s : State) : State :=
  if s.store.session = .activationPending then
    (s.onStore fun p => { p with session := .verified, waitTimer := none }).completeStoreOrder .timeout
      (packDetail [(1, boolCode s.contactorsSettled)])
  else s

/-- ACTIVATION_WAIT_TIMEOUT (R168). -/
def execActivationWaitTimeout (s : State) : Answer :=
  s.event fun s => s.onExpiry s.store.waitTimer State.activationTimedOut

end Sys2Proof.Machine
end

