-- ==== Sys2Proof/Machine/Dispatch.lean ====
section
/-! DEFINITION. Which meaning each command has: one arm per constructor of `Instr`. -/

namespace Sys2Proof.Machine

open Sys2Proof

def exec (i : Instr) (s : State) : Host.Outcome State Fault Refusal :=
  match i with
  | .powerOnReset pins => Sys2Proof.Machine.execPowerOnReset pins s
  | .resetNAssertion levels => Sys2Proof.Machine.execResetNAssertion levels s
  | .resetNRelease pins => Sys2Proof.Machine.execResetNRelease pins s
  | .spiVoidTransaction command => Sys2Proof.Machine.execSpiVoidTransaction command s
  | .spiTransactionEnd => Sys2Proof.Machine.execSpiTransactionEnd s
  | .registerWrite register value => Sys2Proof.Machine.execRegisterWrite register value s
  | .attnWrite value => Sys2Proof.Machine.execAttnWrite value s
  | .attnMaskWrite value => Sys2Proof.Machine.execAttnMaskWrite value s
  | .selectWrite value => Sys2Proof.Machine.execSelectWrite value s
  | .dataRead => Sys2Proof.Machine.execDataRead s
  | .dataWrite value => Sys2Proof.Machine.execDataWrite value s
  | .allocate argument => Sys2Proof.Machine.execAllocate argument s
  | .submit argument => Sys2Proof.Machine.execSubmit argument s
  | .takeResult argument => Sys2Proof.Machine.execTakeResult argument s
  | .takeAlert argument => Sys2Proof.Machine.execTakeAlert argument s
  | .release argument => Sys2Proof.Machine.execRelease argument s
  | .illegalCommand code argument => Sys2Proof.Machine.execIllegalCommand code argument s
  | .allocationComplete => Sys2Proof.Machine.execAllocationComplete s
  | .releaseComplete => Sys2Proof.Machine.execReleaseComplete s
  | .orderHeadExamine wakeIn tamperIn => Sys2Proof.Machine.execOrderHeadExamine wakeIn tamperIn s
  | .enumerateChain => Sys2Proof.Machine.execEnumerateChain s
  | .readChainStatus => Sys2Proof.Machine.execReadChainStatus s
  | .writeNode => Sys2Proof.Machine.execWriteNode s
  | .readNode => Sys2Proof.Machine.execReadNode s
  | .startSampling => Sys2Proof.Machine.execStartSampling s
  | .stopSampling => Sys2Proof.Machine.execStopSampling s
  | .singleFrame => Sys2Proof.Machine.execSingleFrame s
  | .selectList => Sys2Proof.Machine.execSelectList s
  | .snapshotHistory => Sys2Proof.Machine.execSnapshotHistory s
  | .clearTrips tamperIn => Sys2Proof.Machine.execClearTrips tamperIn s
  | .closePack => Sys2Proof.Machine.execClosePack s
  | .openPack => Sys2Proof.Machine.execOpenPack s
  | .enterSleep wakeIn => Sys2Proof.Machine.execEnterSleep wakeIn s
  | .updateBegin => Sys2Proof.Machine.execUpdateBegin s
  | .updateChunk => Sys2Proof.Machine.execUpdateChunk s
  | .updateFinish => Sys2Proof.Machine.execUpdateFinish s
  | .updateAbort => Sys2Proof.Machine.execUpdateAbort s
  | .activateProfile => Sys2Proof.Machine.execActivateProfile s
  | .readProfileInfo => Sys2Proof.Machine.execReadProfileInfo s
  | .transmissionEnd => Sys2Proof.Machine.execTransmissionEnd s
  | .replyReceived port frame => Sys2Proof.Machine.execReplyReceived port frame s
  | .chainBytePause port => Sys2Proof.Machine.execChainBytePause port s
  | .replyTimeout => Sys2Proof.Machine.execReplyTimeout s
  | .ringWatchExpiry => Sys2Proof.Machine.execRingWatchExpiry s
  | .ringFrameReturn frame => Sys2Proof.Machine.execRingFrameReturn frame s
  | .keepaliveIdleExpiry => Sys2Proof.Machine.execKeepaliveIdleExpiry s
  | .wakeToneQuietExpiry port => Sys2Proof.Machine.execWakeToneQuietExpiry port s
  | .chainOrderWaitTimeout => Sys2Proof.Machine.execChainOrderWaitTimeout s
  | .frameTimerExpiry => Sys2Proof.Machine.execFrameTimerExpiry s
  | .waitExpiry => Sys2Proof.Machine.execWaitExpiry s
  | .holdUntilExpiry => Sys2Proof.Machine.execHoldUntilExpiry s
  | .repollDelayExpiry => Sys2Proof.Machine.execRepollDelayExpiry s
  | .sampleTimerExpiry sample => Sys2Proof.Machine.execSampleTimerExpiry sample s
  | .historyEntryAtProtection => Sys2Proof.Machine.execHistoryEntryAtProtection s
  | .historyEntryAtContactor => Sys2Proof.Machine.execHistoryEntryAtContactor s
  | .burstRequest sample => Sys2Proof.Machine.execBurstRequest sample s
  | .burstSample sample => Sys2Proof.Machine.execBurstSample sample s
  | .stalenessTimerExpiry => Sys2Proof.Machine.execStalenessTimerExpiry s
  | .contactorStateReport => Sys2Proof.Machine.execContactorStateReport s
  | .nodeLostReport => Sys2Proof.Machine.execNodeLostReport s
  | .safeOpenAssertion => Sys2Proof.Machine.execSafeOpenAssertion s
  | .safeOpenDeassertion => Sys2Proof.Machine.execSafeOpenDeassertion s
  | .tamperEventAtProtection => Sys2Proof.Machine.execTamperEventAtProtection s
  | .killGateAssertion => Sys2Proof.Machine.execKillGateAssertion s
  | .killGateDeassertion => Sys2Proof.Machine.execKillGateDeassertion s
  | .orderlyOpenDemand => Sys2Proof.Machine.execOrderlyOpenDemand s
  | .auxInputEdge contactor closed => Sys2Proof.Machine.execAuxInputEdge contactor closed s
  | .auxLevelTaken contactor => Sys2Proof.Machine.execAuxLevelTaken contactor s
  | .stepTimerExpiry => Sys2Proof.Machine.execStepTimerExpiry s
  | .prechargeTimerExpiry => Sys2Proof.Machine.execPrechargeTimerExpiry s
  | .auxWatchExpiry contactor => Sys2Proof.Machine.execAuxWatchExpiry contactor s
  | .alertArrival => Sys2Proof.Machine.execAlertArrival s
  | .alertRecordWritten => Sys2Proof.Machine.execAlertRecordWritten s
  | .lowPowerTick wakeIn tamperIn => Sys2Proof.Machine.execLowPowerTick wakeIn tamperIn s
  | .maxSleepExpiry => Sys2Proof.Machine.execMaxSleepExpiry s
  | .wakeTimerExpiry => Sys2Proof.Machine.execWakeTimerExpiry s
  | .tamperInEdge => Sys2Proof.Machine.execTamperInEdge s
  | .tamperEventAtProfile => Sys2Proof.Machine.execTamperEventAtProfile s
  | .eraseComplete succeeded => Sys2Proof.Machine.execEraseComplete succeeded s
  | .programComplete succeeded => Sys2Proof.Machine.execProgramComplete succeeded s
  | .verifyComplete => Sys2Proof.Machine.execVerifyComplete s
  | .activationConditionReport => Sys2Proof.Machine.execActivationConditionReport s
  | .activationWaitTimeout => Sys2Proof.Machine.execActivationWaitTimeout s
  | .firstReplyByte port => Sys2Proof.Machine.execFirstReplyByte port s

end Sys2Proof.Machine
end

