-- ==== Sys2Proof/Machine/Due.lean ====
section
/-! DEFINITION. What the part does of its own accord when no command waits: the event that is due, or one microsecond of
time (log entry 7). -/

namespace Sys2Proof.Machine

open Sys2Proof

def dueIf (c : Bool) (i : Instr) : Option Instr := if c then some i else none

/-- A timer has run out. -/
def Timer.due (t : Timer) : Bool := t == some 0

def stampedDue (t : Option StampedTimer) : Bool := (t.map (·.remaining)) == some 0

/-- Events on their way between blocks, in a fixed order. -/
def State.transitDue (s : State) : Option Instr :=
  let t := s.transit
  (t.killEdges.head?.map fun e => if e then Instr.killGateAssertion else .killGateDeassertion) <|>
  dueIf (t.demands != 0) .orderlyOpenDemand <|>
  dueIf (!t.openReports.isEmpty) .contactorStateReport <|>
  dueIf (!t.nodeLosses.isEmpty) .nodeLostReport <|>
  dueIf (!t.toProtection.isEmpty) .historyEntryAtProtection <|>
  dueIf (!t.toContactors.isEmpty) .historyEntryAtContactor <|>
  dueIf (!t.alerts.isEmpty) .alertArrival <|>
  dueIf t.burst (.burstRequest s.inputs.sense) <|>
  dueIf (t.activation != 0) .activationConditionReport

/-- The Chain Controller's timers. -/
def State.chainDue (s : State) : Option Instr :=
  let c := s.chain
  dueIf c.txTimer.due .transmissionEnd <|>
  dueIf c.replyTimer.due .replyTimeout <|>
  dueIf c.watchTimer.due .ringWatchExpiry <|>
  dueIf c.quietA.due (.wakeToneQuietExpiry .a) <|>
  dueIf c.quietB.due (.wakeToneQuietExpiry .b) <|>
  dueIf c.waitTimer.due .chainOrderWaitTimeout <|>
  dueIf (c.idleTimer.due && s.keepaliveFree) .keepaliveIdleExpiry

/-- The other blocks' timers. -/
def State.blockDue (s : State) : Option Instr :=
  dueIf s.seq.frameTimer.due .frameTimerExpiry <|>
  dueIf (s.seq.elementTimer.due && s.listIn .waiting) .waitExpiry <|>
  dueIf (s.seq.elementTimer.due && s.listIn .holding) .holdUntilExpiry <|>
  dueIf s.seq.repollTimer.due .repollDelayExpiry <|>
  dueIf s.sensing.sampleTimer.due (.sampleTimerExpiry s.inputs.sense) <|>
  dueIf s.sensing.burstTimer.due (.burstSample s.inputs.sense) <|>
  dueIf s.prot.stalenessTimer.due .stalenessTimerExpiry <|>
  dueIf (stampedDue s.cont.holds.pos) (.auxLevelTaken .pos) <|>
  dueIf (stampedDue s.cont.holds.neg) (.auxLevelTaken .neg) <|>
  dueIf (stampedDue s.cont.holds.pre) (.auxLevelTaken .pre) <|>
  dueIf s.cont.stepTimer.due .stepTimerExpiry <|>
  dueIf s.cont.prechargeTimer.due .prechargeTimerExpiry <|>
  dueIf (stampedDue s.cont.watches.pos) (.auxWatchExpiry .pos) <|>
  dueIf (stampedDue s.cont.watches.neg) (.auxWatchExpiry .neg) <|>
  dueIf (stampedDue s.cont.watches.pre) (.auxWatchExpiry .pre) <|>
  dueIf s.store.waitTimer.due .activationWaitTimeout <|>
  dueIf (s.clock.tick == 0) (.lowPowerTick s.inputs.pins.wakeIn s.inputs.pins.tamperIn)

/-- The head of the Order Queue can be taken (R139). -/
def State.headDue (s : State) : Bool :=
  s.activeNow && match s.headOrder with
    | none => false
    | some (_, none) => true
    | some (_, some k) => s.slotFree k

/-- The event that is due with no time passing. -/
def State.dueEvent (s : State) : Option Instr :=
  if s.inputs.inReset then none
  else s.transitDue <|>
    dueIf s.headDue (.orderHeadExamine s.inputs.pins.wakeIn s.inputs.pins.tamperIn) <|>
    s.chainDue <|> s.blockDue

end Sys2Proof.Machine
end

