-- ==== Sys2Proof/Machine/Step.lean ====
section
/-! DEFINITION. One step of the part: the command at the front of the queue, or, with none waiting, what the part does of
its own accord. -/

namespace Sys2Proof.Machine

open Sys2Proof

/-- With no command waiting: the event that is due, or one microsecond (log entry 7). -/
def State.idle (s : State) : Host.Outcome State Fault Refusal :=
  match s.dueEvent with
  | some c => exec c s
  | none => .next (s.elapse 1)

/-- The command at the front runs with the queue's rest. -/
def step (s : State) : Host.Outcome State Fault Refusal :=
  match s.pending with
  | c :: rest => exec c { s with pending := rest }
  | [] => s.idle

/-- The command a table word spells is put at the front of the queue; a word that spells none changes nothing (log
entry 9). -/
def State.withFetchWord (s : State) (nbits w : Nat) : State :=
  match decodeTableWord nbits w with
  | some c => { s with pending := c :: s.pending }
  | none => s

end Sys2Proof.Machine
end

