-- ==== Sys2Proof/Safety.lean ====
section
/-! DEFINITION. The terms that claims use: what counts as a safe state of the 7140, when a command is taken, and which
blocks of the state two states share. -/

namespace Sys2Proof.Machine

open Sys2Proof

/-! ## Which blocks two states share -/

/-- The blocks of the state, one for each field of `State`. -/
inductive BlockName where
  | clock | inputs | link | pool | alerts | chain | seq | sensing | table | prot | cont | sleep | store | transit
  | pending
deriving DecidableEq, Repr

/-- Two states agree on a block. -/
def SameBlock (s t : State) : BlockName → Prop
  | .clock => t.clock = s.clock
  | .inputs => t.inputs = s.inputs
  | .link => t.link = s.link
  | .pool => t.pool = s.pool
  | .alerts => t.alerts = s.alerts
  | .chain => t.chain = s.chain
  | .seq => t.seq = s.seq
  | .sensing => t.sensing = s.sensing
  | .table => t.table = s.table
  | .prot => t.prot = s.prot
  | .cont => t.cont = s.cont
  | .sleep => t.sleep = s.sleep
  | .store => t.store = s.store
  | .transit => t.transit = s.transit
  | .pending => t.pending = s.pending

/-- The frame of a command: every block but those named is unchanged. -/
def SameExcept (changed : List BlockName) (s t : State) : Prop := ∀ b, b ∉ changed → SameBlock s t b

/-- The pool is unchanged but for the update count, which `publish` may raise (R145). -/
abbrev SamePoolButCount (s t : State) : Prop := t.pool = { s.pool with updateCount := t.pool.updateCount }

/-! ## When a command is taken -/

/-- RESET_N is not asserted. -/
abbrev State.taking (s : State) : Prop := s.inputs.inReset = false

/-- The Link Port is powered, no DATA write transaction is open and no write-behind byte is held (R133, R136). -/
abbrev State.linkSettled (s : State) : Prop :=
  s.taking ∧ s.linkPowered = true ∧ s.link.transaction ≠ .dataWrite ∧ s.link.writeBehind = none

/-- A command written to COMMAND is handed to the Buffer Manager (R126, R134). -/
abbrev State.commandReady (s : State) : Prop := s.linkSettled ∧ s.sleep.power = .active

/-- What COMMAND shows after a command (R126). -/
abbrev State.shows (s : State) (code : Byte) (argument : Half) (outcome : CommandOutcome) : Prop :=
  s.link.command = ⟨code, argument, outcome⟩

/-- No element of a list waits to run and no frame waits to end, so nothing follows an event but grants. -/
abbrev State.listIdle (s : State) : Prop :=
  ∀ f ∈ s.seq.frame, f.phase ≠ .start ∧ ¬ (f.phase = .ended ∧ f.result ≠ .asked)

/-- Where the write-behind byte goes when it is stored: a slot's byte always, a buffer's byte while the buffer is HELD
without its release mark (R136). -/
def State.storeAddress (s : State) (w : WriteBehind) : Option Nat :=
  if w.number = 0 then some w.offset
  else if (s.pool.entry w.number).hostHeld then (s.pool.entry w.number).address w.offset
  else none

/-- No request waits for the transaction engine (R8). -/
abbrev Chain.noRequest (c : Chain) : Prop :=
  c.location = none ∧ c.seqRequest = none ∧ c.sleepRequest = none ∧ c.slot = none

/-- Nothing follows an event at once: no list is ready, and no request waits that the engine could serve. -/
abbrev State.workIdle (s : State) : Prop := s.listIdle ∧ (s.chain.engine.isSome = true ∨ s.chain.noRequest)

/-- No list is ready and, besides the order in the slot, no request waits for the engine. -/
abbrev State.onlyOrderWaits (s : State) : Prop :=
  s.listIdle ∧ s.chain.location = none ∧ s.chain.seqRequest = none ∧ s.chain.sleepRequest = none

/-- Every page of a page list is a pool page (R118). -/
abbrev Pool.pagesOk (p : Pool) : Prop := ∀ e ∈ p.table.toList, ∀ page ∈ e.pages, 4 ≤ page ∧ page < 96

/-- A write-behind byte for the Fixed Area lies in a Sequence List slot (R136). -/
abbrev Link.targetOk (l : Link) : Prop := ∀ w ∈ l.writeBehind, w.number = 0 → w.offset < 24576

/-- Exchange memory is in its canonical form, and nothing that the state holds can write outside it (R117, R118, R136). -/
abbrev State.memoryOk (s : State) : Prop := Memory.wf s.pool.memory = true ∧ s.pool.pagesOk ∧ s.link.targetOk

/-- A buffer whose bytes are memory of its own: it has pages, none of them twice (R118). -/
abbrev Pool.sound (p : Pool) (n : Nat) : Prop := (p.entry n).pages ≠ [] ∧ (p.entry n).pages.Nodup

/-- Buffer `n` at the head of the Order Queue holds an order of kind `k` that passes the header checks, and orders are
taken: the owner takes it (R139, R140). -/
abbrev State.orderTaken (s : State) (n : Nat) (k : OrderKind) : Prop :=
  s.activeNow = true ∧ s.pool.orderQueue.head? = some n ∧ (1 ≤ n ∧ n ≤ 40) ∧
  orderKindOf (s.orderByte n 0) = some k ∧ s.slotFree k = true ∧ s.headerCheck n k = 0

/-- The order kinds in the order of their codes 1 to 19, each with the shortest and the longest body it may have (R176). -/
def orderTable : List (OrderKind × Nat × Nat) :=
  [(.enumerateChain, 0, 0), (.readChainStatus, 4, 4), (.writeNode, 4, 4), (.readNode, 4, 4), (.startSampling, 8, 8),
    (.stopSampling, 0, 0), (.singleFrame, 4, 4), (.selectList, 4, 4), (.snapshotHistory, 4, 4), (.clearTrips, 4, 4),
    (.closePack, 0, 0), (.openPack, 4, 4), (.enterSleep, 12, 12), (.updateBegin, 8, 8), (.updateChunk, 5, 1028),
    (.updateFinish, 0, 0), (.updateAbort, 0, 0), (.activateProfile, 0, 0), (.readProfileInfo, 0, 0)]

/-- The row of the table for an order kind, with the lines as they stand. -/
def State.orderRow (s : State) : OrderKind → Instr
  | .enumerateChain => .enumerateChain
  | .readChainStatus => .readChainStatus
  | .writeNode => .writeNode
  | .readNode => .readNode
  | .startSampling => .startSampling
  | .stopSampling => .stopSampling
  | .singleFrame => .singleFrame
  | .selectList => .selectList
  | .snapshotHistory => .snapshotHistory
  | .clearTrips => .clearTrips s.inputs.pins.tamperIn
  | .closePack => .closePack
  | .openPack => .openPack
  | .enterSleep => .enterSleep s.inputs.pins.wakeIn
  | .updateBegin => .updateBegin
  | .updateChunk => .updateChunk
  | .updateFinish => .updateFinish
  | .updateAbort => .updateAbort
  | .activateProfile => .activateProfile
  | .readProfileInfo => .readProfileInfo

/-- The order of buffer `n` has completed (R141): code, flags and detail stand in its header, the time is the present pack
time, the kind to the body length are as the host wrote them, and the buffer is on the Result Queue's tail; with QUIET
set and the code OK its release has begun instead. -/
abbrev Completed (s t : State) (n : Nat) (code : Completion) (detail : Word) (flags : Nat) : Prop :=
  t.orderByte n 6 = completionCode code ∧ t.orderByte n 7 = flags ∧
  t.orderWord n 8 = t.now.toNat ∧ t.orderWord n 12 = detail.toNat ∧
  (∀ i, i < 6 → t.orderByte n i = s.orderByte n i) ∧
  if s.quiet n = true ∧ code = .ok then
    (t.pool.entry n).state = .held ∧ (t.pool.entry n).marked = true ∧
    t.pool.releaseList = s.pool.releaseList ++ [n] ∧ t.pool.resultQueue = s.pool.resultQueue
  else (t.pool.entry n).state = .resultQueued ∧ t.pool.resultQueue = s.pool.resultQueue ++ [n] ∧
    t.pool.releaseList = s.pool.releaseList

/-- The order of buffer `n` is in service, off the queue, with its bytes unchanged (R139, R141). -/
abbrev InService (s t : State) (n : Nat) : Prop :=
  (t.pool.entry n).state = .inService ∧ t.pool.orderQueue = s.pool.orderQueue.tail ∧
  t.pool.memory = s.pool.memory ∧ t.pool.resultQueue = s.pool.resultQueue

/-- A node's entry after a failed attempt, `crc` for a bad reply, else no reply: counted up to 15 (R7). -/
def NodeEntry.attempted (e : NodeEntry) (crc : Bool) : NodeEntry :=
  if crc then { e with crcCount := min 15 (e.crcCount + 1), lastError := .crc }
  else { e with timeoutCount := min 15 (e.timeoutCount + 1), lastError := .timeout }

/-- The NODE_COUNTER_FULL alert of a failed attempt of node `n`, where its count reaches 15 (R7). -/
def NodeEntry.fullAlert (e : NodeEntry) (n : Nat) (crc : Bool) : List (AlertKind × List Byte) :=
  if (if crc then e.crcCount else e.timeoutCount) = 14 then
    [(.nodeCounterFull, [BitVec.ofNat 8 n, if crc then 0 else 1])] else []

/-- The command `c` ends the last attempt of the transaction `e` as a failure, `crc` for a bad reply or a byte pause, else
no reply; `u` is the state once the time of the expiry has passed (R5, R6). -/
def State.lastAttemptFails (s : State) (e : Engine) (c : Instr) (u : State) (crc : Bool) : Prop :=
  e.attemptsLeft = 0 ∧
  ((∃ bytes, c = .replyReceived e.port bytes ∧ (e.phase = .awaiting ∨ e.phase = .receiving) ∧
      judgeReply e.frame bytes = none ∧ u = s ∧ crc = true) ∨
    (c = .chainBytePause e.port ∧ e.phase = .receiving ∧ u = s ∧ crc = true) ∨
    ∃ r, c = .replyTimeout ∧ e.phase = .awaiting ∧ s.chain.replyTimer = some r ∧ u = s.elapse r ∧ crc = false)

/-- An attempt of a transaction with node `n` has failed and its frame is sent again: `crc` for a bad reply, else no reply;
the failure is counted against the node, with the alert when a count reaches 15 (R6, R7). -/
def State.resent (u t : State) (e : Engine) (n : Nat) (crc : Bool) : Prop :=
  t.chain.engine = some { e with phase := .sending, attemptsLeft := e.attemptsLeft - 1 } ∧
  t.chain.txTimer = some e.frame.duration ∧ t.chain.replyTimer = none ∧
  t.chain.node n = (u.chain.node n).attempted crc ∧ (∀ m, m ≠ n → t.chain.node m = u.chain.node m) ∧
  t.transit.alerts = u.transit.alerts ++ (u.chain.node n).fullAlert n crc ∧
  SameExcept [.chain, .transit] u t

/-- The kill gate follows the SAFE_OPEN line and the latches, and a change of it is on its way to the Contactor Sequencer
(R85). -/
def State.gateFollows (s t : State) : Prop :=
  (t.killGate = true ↔ t.inputs.pins.safeOpen = true ∨ ∃ k, t.prot.latch k = some .immediateOpen) ∧
  t.transit.killEdges = s.transit.killEdges ++ (if s.killGate = t.killGate then [] else [t.killGate])

/-- Kind `k` has tripped with the report `r` (R83, R90): a clear latch holds the action that applies now, the alert is on
its way, an ORDERLY_OPEN demand is made and the kill gate follows; a latch that was set makes the trip have no effect. -/
def State.tripped (s t : State) (k : TripKind) (r : TripReport) : Prop :=
  (∀ j, t.prot.latch j = if j = k then some ((s.prot.latch k).getD (s.profile.actionOf k)) else s.prot.latch j) ∧
  (s.prot.latch k ≠ none → t.transit.alerts = s.transit.alerts ∧ t.transit.demands = s.transit.demands) ∧
  (s.prot.latch k = none →
    t.transit.alerts = s.transit.alerts ++ [(.trip, tripPayload k (s.profile.actionOf k) r)] ∧
    t.transit.demands = s.transit.demands + (if s.profile.actionOf k = .orderlyOpen then 1 else 0)) ∧
  s.gateFollows t

/-- Of each kind newly latched from `s` to `t`, and of no other, the TRIP alert with its report is on its way, in any
order; each whose action is ORDERLY_OPEN has made its demand, and the kill gate follows (R83, R85, R90). -/
def State.tripsShown (s t : State) (report : TripKind → TripReport) : Prop :=
  let new := allTripKinds.filter fun k => s.prot.latch k == none && t.prot.latch k != none
  (∃ added : List (AlertKind × List Byte), t.transit.alerts = s.transit.alerts ++ added ∧
    added.Perm (new.map fun k => (.trip, tripPayload k (s.profile.actionOf k) (report k)))) ∧
  t.transit.demands = s.transit.demands + (new.filter fun k => s.profile.actionOf k == .orderlyOpen).length ∧
  s.gateFollows t

/-- The OPENED_UNDER_CURRENT alert of an opening that leaves the state `left` for a cause: where the newest delivered entry
is saturated or above the interrupt limit, its current and tag, the limit, the state and the cause (R105). -/
def State.currentAlert (s : State) (left : ContactorState) (cause : Option OpenCause) :
    List (AlertKind × List Byte) :=
  match s.cont.entry with
  | none => []
  | some e =>
    if e.iSat = true ∨ s.profile.interrupt < e.current.natAbs then
      [(.openedUnderCurrent, leSigned 4 e.current ++ leBytes 4 e.tag.toNat ++ leBytes 4 s.profile.interrupt ++
        [BitVec.ofNat 8 (contactorStateCode left), BitVec.ofNat 8 ((cause.map openCauseCode).getD 0)])]
    else []

/-- The same for a close in progress, which has switched POS on in POS_CLOSING and PRE_RELEASING alone (R95, R105). -/
def State.closingAlert (s : State) (cause : OpenCause) : List (AlertKind × List Byte) :=
  if s.cont.state.posOn then s.currentAlert s.cont.state (some cause) else []

/-- The CLOSE_PACK of the close that `s` abandons has completed ABORTED in `t`, with the cause and the state in which it
was abandoned in its detail word (R103). -/
def State.closeAborted (s t : State) (cause : OpenCause) : Prop :=
  t.cont.closeSlot = none ∧
  ∀ m, s.cont.closeSlot = some m → s.cont.openSlot = none → s.memoryOk → s.pool.sound m →
    Completed s t m .aborted (BitVec.ofNat 32 (openCauseCode cause + 256 * contactorStateCode s.cont.state)) 0

/-- The level that the table of R97 expects of a contactor's aux in the present state: none where it is awaited or not
watched, and none for a contactor that the fault record names under any sub-kind. -/
def Contactors.tableLevel (c : Contactors) (k : Contactor) : Option Bool :=
  let row : Triple (Option Bool) := match c.state with
    | .opened => ⟨some false, some false, some false⟩
    | .negClosing => ⟨some false, none, some false⟩
    | .precharging => ⟨some false, some true, if c.stepTimer = none then some true else none⟩
    | .posClosing => ⟨none, some true, some true⟩
    | .preReleasing => ⟨some true, some true, none⟩
    | .closed | .holdoff => ⟨some true, some true, some false⟩
    | .posOpening => ⟨none, if c.commands.neg = true then some true else none, some false⟩
    | .weldCheck => ⟨some false, some true, some false⟩
    | .negOpening => ⟨some false, none, none⟩
    | .faulted => ⟨none, none, none⟩
  let place : Nat := match k with | .pos => 0 | .neg => 1 | .pre => 2
  if ∃ subKind : Fin 4, c.faults.getLsbD (3 * subKind.val + place) = true then none else row.get k

/-- The watch of contactor `k` runs, with the timer `w` where it ran before, else with a fresh one for the feedback window,
where its aux level differs from the table's, and is stopped elsewhere (R97). -/
def State.watchOf (t : State) (k : Contactor) (w : Option StampedTimer) : Option StampedTimer :=
  if t.cont.tableLevel k = some (!t.cont.aux.get k) then some (w.getD ⟨1000 * t.profile.window, t.clock.packTime⟩)
  else none

/-- Every watch stands afresh against the present state's table, as after a change of state (R97). -/
def State.watchesAfresh (t : State) : Prop := ∀ k, t.cont.watches.get k = t.watchOf k none

/-- Of what is on its way between blocks, besides alerts: a change of state into or out of OPEN is reported to the
Protection Monitor (R95), and any change of state to an activation that waits (R168); the rest is as it was. -/
def State.moveReported (s t : State) : Prop :=
  t.transit = { s.transit with
    alerts := t.transit.alerts
    openReports := s.transit.openReports ++
      (if s.cont.state = .opened ∧ t.cont.state ≠ .opened then [true] else []) ++
      if s.cont.state ≠ .opened ∧ t.cont.state = .opened then [false] else []
    activation := s.transit.activation +
      if s.store.session = .activationPending ∧ t.cont.state ≠ s.cont.state then 1 else 0 }

/-- The detail word of an OPEN_PACK that ends with its path: end state, cause, and the fault record with the mark (R176). -/
def State.openingDetail (t : State) : Word :=
  BitVec.ofNat 32 (contactorStateCode t.cont.state + 256 * (t.cont.cause.map openCauseCode).getD 0 +
    65536 * (t.cont.faults.toNat + if t.cont.weldUnchecked then 4096 else 0))

/-- The sequencer has gone from `u` to the state `st` of the open path, POS and PRE off and NEG as said: a close has
left its slot and its precharge timer has stopped (R103), every watch has restarted (R97), the rest is as in `u`; and
where no order completes the pool is as it was. -/
def State.onPath (u t : State) (st : ContactorState) (negOn : Bool) (timer : Timer) (unchecked : Bool) : Prop :=
  t.cont = { u.cont with
    state := st
    commands := ⟨false, negOn, false⟩
    stepTimer := timer
    stepStart := t.cont.stepStart
    weldUnchecked := unchecked
    openSlot := t.cont.openSlot
    watches := t.cont.watches
    prechargeTimer := if u.cont.state.closing then none else u.cont.prechargeTimer
    closeSlot := if u.cont.state.closing then none else u.cont.closeSlot } ∧ t.watchesAfresh ∧
  ((u.cont.state.closing = true → u.cont.closeSlot = none) → t.cont.openSlot = u.cont.openSlot → SamePoolButCount u t)

/-- The path ends (R109): OPEN with an empty fault record, else FAULTED, and the OPEN_PACK in its slot completes. -/
def State.pathEnds (u t : State) (unchecked : Bool) : Prop :=
  u.onPath t (if u.cont.faults = 0 then .opened else .faulted) false none unchecked ∧ t.cont.openSlot = none ∧
  ∀ n, u.cont.openSlot = some n → (u.cont.state.closing = true → u.cont.closeSlot = none) → u.memoryOk →
    u.pool.sound n → Completed u t n .ok t.openingDetail 0

/-- A wait of the path begins, for a time in ms. -/
def State.pathWaits (u t : State) (st : ContactorState) (negOn : Bool) (ms : Nat) (unchecked : Bool) : Prop :=
  u.onPath t st negOn (some (1000 * ms)) unchecked ∧ t.cont.stepStart = u.clock.packTime ∧
  t.cont.openSlot = u.cont.openSlot

/-- NEG_OPENING is entered with every command off; with NEG and PRE already OPEN the path ends in that event (R108). -/
def State.negOpens (u t : State) (unchecked : Bool) : Prop :=
  if u.cont.aux.neg = true ∨ u.cont.aux.pre = true then
    u.pathWaits t .negOpening false u.profile.window unchecked
  else u.pathEnds t unchecked

/-- The wait for POS is over: WELD_CHECK with NEG on; else the weld-unchecked mark and NEG_OPENING (R106). -/
def State.posWaitEnds (u t : State) (negOn : Bool) : Prop :=
  if negOn then u.pathWaits t .weldCheck true u.profile.weldWindow u.cont.weldUnchecked else u.negOpens t true

/-- POS_OPENING is entered, after a kill with NEG off too; with POS already OPEN its wait is over at once (R106). -/
def State.posOpens (u t : State) (killed : Bool) : Prop :=
  if u.cont.aux.pos = true then
    u.pathWaits t .posOpening (!killed) u.profile.window u.cont.weldUnchecked
  else u.posWaitEnds t (!killed)

/-- An abandoned close begins the open path: at POS_OPENING from POS_CLOSING and PRE_RELEASING, at NEG_OPENING from
NEG_CLOSING and PRECHARGING (R103). -/
def State.closeOpens (u t : State) (killed : Bool) : Prop :=
  if u.cont.state = .posClosing ∨ u.cont.state = .preReleasing then u.posOpens t killed
  else u.negOpens t u.cont.weldUnchecked

/-- The state with its path record as it is when the open path begins. -/
abbrev State.withRecord (s : State) (cause : Option OpenCause) (faults : BitVec 12) (unchecked : Bool) : State :=
  { s with cont := { s.cont with cause := cause, faults := faults, weldUnchecked := unchecked } }

/-- The sequencer has taken an assertion of the kill gate (R112): nothing changes in OPEN, FAULTED and NEG_OPENING; a
close is abandoned; CLOSED and HOLDOFF go to POS_OPENING with the path record cleared; POS_OPENING goes on with NEG off
and no longer watched; WELD_CHECK ends unchecked. POS switched off under current raises its alert (R105). -/
def State.killTaken (s t : State) : Prop :=
  match s.cont.state with
  | .opened | .faulted | .negOpening => t.cont = s.cont ∧ t.transit.alerts = s.transit.alerts ∧ SamePoolButCount s t
  | .negClosing | .precharging | .posClosing | .preReleasing =>
    (s.withRecord (some .kill) s.cont.faults s.cont.weldUnchecked).closeOpens t true ∧ s.closeAborted t .kill ∧
    t.transit.alerts = s.transit.alerts ++ s.closingAlert .kill
  | .closed | .holdoff => (s.withRecord (some .kill) 0 false).posOpens t true ∧
    t.transit.alerts = s.transit.alerts ++ s.currentAlert s.cont.state (some .kill)
  | .posOpening => t.cont = { s.cont with commands := ⟨false, false, false⟩, watches := s.cont.watches.set .neg none } ∧
    t.transit.alerts = s.transit.alerts ∧ SamePoolButCount s t
  | .weldCheck => s.negOpens t true ∧ t.transit.alerts = s.transit.alerts

/-- The time since the last evaluation in ms, rounded down, or FFFFFFFFh where there was none (R90, R99); the difference of
two 32-bit pack times, so modulo 2^32 µs (log entry 37). -/
def State.evaluationAge (s : State) : Nat :=
  match s.prot.lastEvaluation with
  | none => 0xFFFFFFFF
  | some t => (s.clock.packTime - t).toNat / 1000

/-- The column 'cause present while' of R76's table. -/
def State.causeStands (s : State) (tamperIn : Bool) : TripKind → Prop
  | .supervisionLoss => s.prot.stale = true ∨
      s.profile.openOnLoss = true ∧ ∃ n, 1 ≤ n ∧ n ≤ 20 ∧ (s.chain.node n).state = .lost
  | .safeLine => s.inputs.pins.safeOpen = true
  | .tamper => tamperIn = true
  | .cellOv => s.prot.counters[0] ≠ 0
  | .cellUv => s.prot.counters[1] ≠ 0
  | .cellUvAbs => s.prot.counters[2] ≠ 0
  | .tempHigh => s.prot.counters[3] ≠ 0
  | .tempLow => s.prot.counters[4] ≠ 0
  | .plausibility => s.prot.counters[5] ≠ 0
  | .currentDischarge => s.prot.counters[6] ≠ 0
  | .currentCharge => s.prot.counters[7] ≠ 0

/-- Three levels or commands in the bits of one byte: POS 1, NEG 2, PRE 4 (log entry 58). -/
def tripleByte (c : Triple Bool) : Byte :=
  (if c.pos then 1 else 0) + (if c.neg then 2 else 0) + if c.pre then 4 else 0

/-- The CONTACTOR_FAULT alert of a fault found in the state `s` stands in, byte by byte (R114, R179): sub-kind, contactor,
sequencer state, aux levels and commands, the voltages of the newest entry for WELD and PRECHARGE_TIMEOUT, the time the
wait started, and the contactor's four newest edges. The sub-kinds' numbers are the model's (log entry 59). -/
def State.faultAlert (s : State) (f : FaultKind) (k : Contactor) (since : Word) : AlertKind × List Byte :=
  let subKind : Byte := match f with | .feedback => 0 | .dropout => 1 | .weld => 2 | .prechargeTimeout => 3
  let contactor : Byte := match k with | .pos => 0 | .neg => 1 | .pre => 2
  let voltages := match s.cont.entry with
    | some e => if f = .weld ∨ f = .prechargeTimeout then leBytes 4 e.packMv ++ leBytes 4 e.linkMv
      else [0, 0, 0, 0, 0, 0, 0, 0]
    | none => [0, 0, 0, 0, 0, 0, 0, 0]
  let edge (i : Nat) : List Byte := match (s.cont.logs.get k)[i]? with
    | some e => leBytes 4 e.time.toNat ++ [if e.closed then 1 else 0, 1, 0, 0]
    | none => [0, 0, 0, 0, 0, 0, 0, 0]
  (.contactorFault, [subKind, contactor, BitVec.ofNat 8 (contactorStateCode s.cont.state), tripleByte s.cont.aux,
    tripleByte s.cont.commands, 0, 0, 0] ++ voltages ++ leBytes 4 since.toNat ++ edge 0 ++ edge 1 ++ edge 2 ++ edge 3)

/-- The UPDATE_REJECTED alert, byte by byte (R164 to R166): reason, bank, two bytes of padding, the declared version and
the offset of a failed chunk, packed as log entry 18 reads R174; the offset 0 of a failed erase or verification, which no
rule lists, is the model's choice (log entry 63). -/
def State.rejectedAlert (s : State) (reason offset : Nat) : AlertKind × List Byte :=
  (.updateRejected, [BitVec.ofNat 8 reason, if s.store.targetBank = .bankA then 0 else 1, 0, 0] ++
    leBytes 4 s.store.declVersion.toNat ++ leBytes 2 offset)

/-- The buffers that the release step of sleep entry releases, ascending: RESULT_QUEUED, and HELD without the mark
(R131). -/
def State.releaseNumbers (s : State) : List Nat :=
  (List.range' 1 40).filter fun n => (s.pool.entry n).state == .resultQueued || (s.pool.entry n).hostHeld

/-- The release step of sleep entry has begun (R131, R149): its numbers stand marked on the release list, the Result
Queue is empty, the discarded count has risen by theirs, and a wake completion among them has released WAKE_OUT (R159).
-/
def State.releaseBegun (s t : State) : Prop :=
  let found := s.releaseNumbers.contains s.sleep.wakeCompletion
  t.sleep.phase = .entryRelease ∧ t.sleep.wakeOut = (if found then false else s.sleep.wakeOut) ∧
  t.sleep.wakeCompletion = (if found then 0 else s.sleep.wakeCompletion) ∧
  t.pool.resultQueue = [] ∧ t.pool.releaseList = s.pool.releaseList ++ s.releaseNumbers ∧
  t.pool.discarded = min 65535 (s.pool.discarded + s.releaseNumbers.length) ∧
  (∀ n, 1 ≤ n → n ≤ 40 → t.pool.entry n = if n ∈ s.releaseNumbers then
    { s.pool.entry n with state := .held, marked := true } else s.pool.entry n) ∧
  t.pool.memory = s.pool.memory ∧ t.pool.alertQueue = s.pool.alertQueue

/-- The TRIP alert of a tamper event, where the TAMPER latch is clear (R83, R89). -/
def State.tamperTrip (s : State) : List (AlertKind × List Byte) :=
  if s.prot.latch .tamper = none then [(.trip, tripPayload .tamper (s.profile.actionOf .tamper) .plain)] else []

/-- The alerts of a tamper latch taken in the state `s` (R153, R172): the lock where the session is not LOCKED, the trip in
ACTIVE, and TAMPER with the power state, the latch's pack time, its edge count and the level of the line. -/
def State.tamperAlerts (s : State) (time : Word) (edges : Nat) (level : Bool) : List (AlertKind × List Byte) :=
  (if s.store.session = .locked then [] else [(.updateLocked, [1])]) ++
  (if s.sleep.power = .active then s.tamperTrip else []) ++
  [(.tamper, [BitVec.ofNat 8 (powerCode s.sleep.power), 0, 0, 0] ++ leBytes 4 time.toNat ++
    [BitVec.ofNat 8 edges, if level then 1 else 0])]

/-- The wake has begun (R157, R158): WAKE_OUT is asserted, the timers have stopped, and the reason, the duration in s and
the time are written. -/
abbrev State.wakeBegun (t : State) (r : WakeReason) (duration : Nat) : Prop :=
  t.sleep.power = .waking ∧ t.sleep.wakeOut = true ∧ t.sleep.timersRunning = false ∧ t.sleep.lastReason = r ∧
  t.sleep.duration = duration ∧ t.sleep.page.lastReason = r ∧ t.sleep.page.duration = duration ∧
  t.sleep.page.wakeTime = t.clock.packTime ∧ t.link.command = ⟨0, 0, .ok⟩ ∧ t.link.number = 0 ∧ t.link.offset = 0

/-- An enumeration's comparison with the profile has been made from the state `u`, after the alerts `before` (R18): the
order `o` has completed OK with the detail word of found count, D, ring state with the mismatch flag, and lowest
mismatching address; the status is NEEDED where the profile changed meanwhile, else MATCHED or MISMATCHED with the
alert. The differences are MISSING 0, EXTRA 1, IDENTITY 2 and COUNT 3 (log entry 17). -/
def State.compared (u t : State) (o : ChainOrder) (before : List (AlertKind × List Byte)) : Prop :=
  let found := t.chain.found
  let declared := u.profile.declared
  let detail (a flags : Nat) : Word := BitVec.ofNat 8 a ++ BitVec.ofNat 8 (ringStateCode t.chain.ringState + flags) ++
    BitVec.ofNat 8 declared ++ BitVec.ofNat 8 found
  let differs (m kind : Nat) : Prop := 1 ≤ m ∧ m ≤ 20 ∧
    (kind = 0 ∧ m ≤ declared ∧ found < m ∨ kind = 1 ∧ declared < m ∧ m ≤ found ∨
      kind = 2 ∧ m ≤ declared ∧ m ≤ found ∧ m ∈ o.badIdentity ∨
      kind = 3 ∧ m ≤ declared ∧ m ≤ found ∧ m ∉ o.badIdentity ∧
        ((t.chain.node m).cells ≠ u.profile.cellCount m ∨ (t.chain.node m).temps ≠ u.profile.tempCount m))
  let completed (d : Word) : Prop := u.memoryOk → u.pool.sound o.buffer → Completed u t o.buffer .ok d 0
  t.chain.slot = none ∧ t.chain.waitTimer = none ∧ t.chain.engine = none ∧
  (o.chainChanged = true → t.chain.enumStatus = .needed ∧ completed (detail 0 0) ∧ t.transit.alerts = before) ∧
  (o.chainChanged = false → (∀ m kind, ¬ differs m kind) →
    t.chain.enumStatus = .matched ∧ completed (detail 0 0) ∧ t.transit.alerts = before) ∧
  ∀ m kind, o.chainChanged = false → differs m kind → (∀ j k, j < m → ¬ differs j k) →
    t.chain.enumStatus = .mismatched ∧ completed (detail m 128) ∧ t.transit.alerts = before ++
      [(.chainMismatch, [BitVec.ofNat 8 declared, BitVec.ofNat 8 found, BitVec.ofNat 8 m, BitVec.ofNat 8 kind])]

/-- What a chain order's next transaction is: requester, frame, port and the further attempts behind the first. -/
abbrev State.granted (t : State) : Option (ChainRequester × ChainFrame × Port × Nat) :=
  t.chain.engine.map fun e => (e.requester, e.frame, e.port, e.attemptsLeft)

/-- The order of buffer `n` is held for its one transaction with a node (R9, R20): with the engine free, no frame
running and the port of the node's path out of its quiet time it is sent at once, with the retry limit, or once alone
for a LOST node; else it waits, for at most 2 s. -/
def State.chainOrderHeld (s t : State) (n : Nat) (job : ChainJob) (frame : ChainFrame) (x : NodeEntry) : Prop :=
  let port : Port := if x.path = .pathA then .a else .b
  let quiet := if x.path = .pathA then s.chain.quietA else s.chain.quietB
  let free : Prop := s.chain.engine = none ∧ s.seq.sampler ≠ .running ∧ quiet = none
  let held : Chain := { s.chain with slot := some ⟨n, job, s.chain.ringState, [], false⟩ }
  (free → t.chain = { held with
    engine := some ⟨.order, frame, port, .sending, if x.state = .lost then 0 else s.profile.retryLimit,
      s.profile.replyTimeout, 0, 0, .noError⟩
    txTimer := some (5 * frame.bytes.length), replyTimer := none, watchTimer := none, idleTimer := none
    waitTimer := none }) ∧
  (¬ free → t.chain = { held with waitTimer := some 2000000 })

/-- Address assignment has ended (R18): in ring mode a KEEPALIVE is sent to be watched for, else the comparison is made. -/
def State.assignmentOver (u t : State) (o : ChainOrder) (before : List (AlertKind × List Byte)) : Prop :=
  if u.chain.ringMode = true then
    t.chain.slot = some { o with job := .ringTest } ∧ t.granted = some (.order, .keepalive, .a, 0) ∧
    t.chain.enumStatus = u.chain.enumStatus ∧ t.transit.alerts = before ∧ t.pool = u.pool
  else u.compared t o before

/-- Node `n` has been dealt with (R17): the next address is assigned, or, after address 20, the assignment has ended. -/
def State.assignmentFollows (u t : State) (o : ChainOrder) (n : Nat) (before : List (AlertKind × List Byte)) : Prop :=
  if n < 20 then
    t.chain.slot = some { o with job := .assign (n + 1) } ∧
    t.granted = some (.order, .enumerate (n + 1), .a, u.profile.retryLimit) ∧
    t.chain.enumStatus = u.chain.enumStatus ∧ t.transit.alerts = before ∧ t.pool = u.pool
  else u.assignmentOver t o before

/-- Break location goes on behind a probe (R12), with the results `k` and `j`, from the address `start` on: the next
node on A that is not ABSENT is probed; with none left, and `k` short of the found count F, the probes turn to B, from F
down to `k` + 1; with none left there the location ends: paths, hop counts and break position are written and
CHAIN_BREAK is raised. With `k` = F it ends on A with nothing written but the break position. -/
def State.locationFollows (u t : State) (onB : Bool) (start k j : Nat) : Prop :=
  let absent (m : Nat) : Prop := (u.chain.node m).state = .absent
  let found := u.chain.found
  let probes (m : Nat) (port : Port) : Prop := t.chain = { u.chain with
    location := some ⟨port == .b, m, k, j⟩
    engine := some ⟨.breakLocation, .read m .status 1, port, .sending, u.profile.retryLimit, u.profile.replyTimeout, 0, 0,
      .noError⟩
    txTimer := some 30
    replyTimer := none
    watchTimer := none
    idleTimer := none } ∧ t.transit = u.transit
  let freed : Chain := { u.chain with
    engine := none, txTimer := none, replyTimer := none, watchTimer := none, idleTimer := some 50000, location := none
    breakPos := k }
  let noneOnA : Prop := ∀ i, start ≤ i → i ≤ found → absent i
  let top := if onB then start else found
  (∀ m, onB = false → start ≤ m → m ≤ found → ¬ absent m → (∀ i, start ≤ i → i < m → absent i) → probes m .a) ∧
  (onB = false → noneOnA → k = found → t.chain = freed ∧ t.transit = u.transit) ∧
  (onB = true ∨ noneOnA ∧ k ≠ found →
    (∀ m, k < m → m ≤ top → ¬ absent m → (∀ i, m < i → i ≤ top → absent i) → probes m .b) ∧
    ((∀ i, k < i → i ≤ top → absent i) → t.chain = { freed with nodes := t.chain.nodes } ∧
      (∀ m, 1 ≤ m → m ≤ 20 → t.chain.node m =
        if (u.chain.node m).state = .absent then u.chain.node m
        else if m ≤ k then { u.chain.node m with path := .pathA, hops := m }
        else if found < m then u.chain.node m
        else if m < j then { u.chain.node m with path := .noPath }
        else { u.chain.node m with path := .pathB, hops := found - m + 1 }) ∧
      t.transit = { u.transit with alerts := u.transit.alerts ++ [(.chainBreak, [1, BitVec.ofNat 8 k])] }))

/-! ## Replies on the chain (R3, R5, R182) -/

/-- The CRC register after one more bit: the polynomial is x^16 + x^12 + x^5 + 1 (R3). -/
def crcStep (r : BitVec 16) (bit : Bool) : BitVec 16 := if r.msb != bit then (r <<< 1) ^^^ 0x1021#16 else r <<< 1

/-- The CRC over bytes, each most significant bit first, from FFFFh, with no final inversion (R3). -/
def crcOf (bs : List Byte) : BitVec 16 :=
  (bs.flatMap fun b => (List.range 8).map fun i => b.getMsbD i).foldl crcStep 0xFFFF#16

/-- A received frame is a good reply to the frame sent, with its content (R5, R182): complete with its CRC, high byte first,
the node field that of the frame, the form one that fits it, and of DATA as many words as its count says. -/
def GoodReply (sent : ChainFrame) (bytes : List Byte) (x : Reply) : Prop :=
  ∃ body : List Byte, bytes = body ++ [(crcOf body).extractLsb' 8 8, (crcOf body).extractLsb' 0 8] ∧
    sent.node < 256 ∧
    (let node := BitVec.ofNat 8 sent.node
     let reads : Prop := ∃ n b k, sent = .read n b k
     let writes : Prop := ∃ n b v, sent = .write n b v
     match x with
     | .data tag busy words => reads ∧ words.length < 256 ∧
       body = [0x21, node, tag, if busy then 1 else 0, BitVec.ofNat 8 words.length] ++
         words.flatMap fun w => [w.extractLsb' 8 8, w.extractLsb' 0 8]
     | .ack => (writes ∨ ∃ n, sent = .enumerate n) ∧ body = [0x22, node]
     | .nack badValue => (reads ∨ writes) ∧ body = [0x23, node, if badValue then 2 else 1])

/-! ## Elements and frame results, by the offsets of their bytes (R28, R31, R178, R180) -/

/-- The trap reason of an element, by its eight bytes, in the order of R28's table: CHECK 1, UNKNOWN_KIND 2, FIELD 3, and 0
for a legal element. -/
def elementTrap (b : List Byte) : Nat :=
  let kind := u8 b 0
  let first := u8 b 2
  let last := u8 b 3
  if u8 b 7 ≠ (u8 b 0 + u8 b 1 + u8 b 2 + u8 b 3 + u8 b 4 + u8 b 5 + u8 b 6) % 256 then 1
  else if kind = 0 ∨ 9 < kind then 2
  else if (u8 b 1 ≠ 0 ∧ ¬ (kind = 2 ∧ u8 b 1 = 1)) ∨
      ((kind = 1 ∨ kind = 2) ∧ (u8 b 4 = 0 ∨ 3 < u8 b 4)) ∨ (kind = 3 ∧ 3 < u8 b 4) ∨
      ((kind = 2 ∨ kind = 3) ∧ (first = 0 ∨ 20 < first ∨ last = 0 ∨ 20 < last ∨ last < first)) ∨
      ((kind = 7 ∨ kind = 8) ∧ (u16 b 5 = 0 ∨ 31 < u16 b 5)) then 3
  else 0

/-- The elements of a range, in eight bytes each. -/
def State.rangeBytes (s : State) (slot : Slot) (first last : Nat) : List (List Byte) :=
  (List.range' first (last + 1 - first)).map (s.elementBytes slot)

/-- The stop-code area of a range: a byte for each MARK and HALT, rounded up to a multiple of 4 (R31). -/
def stopAreaBytes (range : List (List Byte)) : Nat :=
  ((range.filter fun b => u8 b 0 == 7 || u8 b 0 == 8).length + 3) / 4 * 4

/-- The node records of a range: each address that a GATHER names and that is not ABSENT, with its cells where one of them
has group CELLS or BOTH and its temperatures where one has TEMPS or BOTH (R31). -/
def State.sizedNodes (s : State) (range : List (List Byte)) : List ResultNode :=
  (List.range' 1 20).filterMap fun n =>
    let naming := range.filter fun b => u8 b 0 == 2 && decide (u8 b 2 ≤ n ∧ n ≤ u8 b 3)
    if naming = [] ∨ (s.chain.node n).state = .absent then none
    else some {
      node := n
      cells := if naming.any fun b => u8 b 4 == 1 || u8 b 4 == 3 then (s.chain.node n).cells else 0
      temps := if naming.any fun b => u8 b 4 == 2 || u8 b 4 == 3 then (s.chain.node n).temps else 0 }

/-- The bytes of a node record: 8, 4 for each cell and 2 for each temperature, rounded up to a multiple of 4 (R31). -/
def recordSize (r : ResultNode) : Nat := (8 + 4 * r.cells + 2 * r.temps + 3) / 4 * 4

/-- The frame start from `s` to `t` has sized its result by the range and the Node Table, and asks for its pages as the
SAMPLER: in progress at once where no allocation is, else waiting (R31, R118, R122). -/
def State.frameSized (s t : State) (slot : Slot) (first last : Nat) : Prop :=
  let range := s.rangeBytes slot first last
  let nodes := s.sizedNodes range
  let pages := (64 + stopAreaBytes range + (nodes.map recordSize).sum + 255) / 256
  t.seq.frame.map (fun f => (f.result, f.stopArea, f.resultNodes)) = some (.asked, stopAreaBytes range, nodes) ∧
  (s.pool.inProgress = none → s.pool.waitingAlert = false →
    t.pool.inProgress = some (.sampler, pages) ∧ t.pool.waitingSampler = none) ∧
  (s.pool.inProgress ≠ none → t.pool.inProgress = s.pool.inProgress ∧ t.pool.waitingSampler = some pages)

/-- The layout of a frame result, offset for offset (R74, R178): the header with its aggregate part, whose fields are 0
where a part is absent, the stop-code area, and the node records in the order of their addresses. -/
def State.resultLaidOut (s : State) (f : Frame) (b : List Byte) : Prop :=
  let a := s.table.aggregate
  let cells := a.bind (·.cells)
  let temps := a.bind (·.temps)
  let three (i v : Nat) : Prop := u16 b i + 65536 * u8 b (i + 2) = v % 2 ^ 24
  let flag (g : Aggregate → Bool) (weight : Nat) : Nat := if (a.map g).getD false then weight else 0
  let extreme (i : Nat) : Option Extreme → Prop
    | some x => u16 b i = (x.value % 65536).toNat ∧ u8 b (i + 2) = x.node % 256 ∧ u8 b (i + 3) = x.channel % 256
    | none => u32 b i = 0
  (f.stopCodes.length ≤ f.stopArea →
    b.length = 64 + f.stopArea + (f.resultNodes.map recordSize).sum) ∧
  u16 b 0 = s.seq.frameNumber.toNat ∧
  u8 b 2 = (if f.late then 1 else 0) + (if f.trapped then 2 else 0) + (if f.halted then 4 else 0) +
    (if s.table.evalCount = 0 then 8 else 0) + (if f.slot = .slotB then 128 else 0) ∧
  u8 b 3 = f.first % 256 ∧ u8 b 4 = f.last % 256 ∧ u8 b 5 = f.trapIndex % 256 ∧ u8 b 6 = f.stopCodes.length % 256 ∧
  u8 b 7 = s.table.evalCount % 256 ∧ u16 b 8 = s.seq.period % 65536 ∧
  u8 b 10 = (if cells.isSome then 1 else 0) + (if temps.isSome then 2 else 0) + flag (·.packAhead) 4 +
    flag (·.packAged) 8 + (if s.table.issueA.isSome then 16 else 0) + (if s.table.issueB.isSome then 32 else 0) ∧
  [PlausOutcome.notEvaluated, .pass, .violation][u8 b 11 % 16]? = some ((a.map (·.outcome)).getD .notEvaluated) ∧
  [PlausReason.noReason, .patrol, .incomplete, .noIssue, .noHistory, .vSat][u8 b 11 / 16]? =
    some ((a.map (·.reason)).getD .noReason) ∧
  u32 b 12 = s.seq.frameStart.toNat ∧ u32 b 16 = (s.table.issueA.getD 0).toNat ∧
  u32 b 20 = (s.table.issueB.getD 0).toNat ∧ u16 b 24 = (a.map (·.validCells)).getD 0 % 65536 ∧
  u16 b 26 = (cells.map (·.meanVcomp)).getD 0 % 65536 ∧ extreme 28 (cells.map (·.minVcomp)) ∧
  extreme 32 (cells.map (·.maxVcomp)) ∧ extreme 36 (cells.map (·.minVc)) ∧ extreme 40 (cells.map (·.maxVc)) ∧
  u32 b 44 = (cells.map (·.sumVc)).getD 0 % 2 ^ 32 ∧ u16 b 48 = (cells.map (·.imbalance)).getD 0 % 65536 ∧
  extreme 50 (temps.map (·.minTemp)) ∧ extreme 54 (temps.map (·.maxTemp)) ∧
  three 58 ((a.map (·.packMv)).getD 0) ∧ three 61 ((a.map (·.cellMv)).getD 0) ∧
  (f.stopCodes.length ≤ f.stopArea →
    (∀ i, i < f.stopArea → u8 b (64 + i) = (f.stopCodes[i]?).getD 0 % 256) ∧
    ∀ before r after, f.resultNodes = before ++ r :: after →
      (let x := s.table.slot r.node
       let base := 64 + f.stopArea + (before.map recordSize).sum
       let values := base + 8 + 4 * r.cells
       u8 b base = (r.node + if x.capture.map (·.path) = some .pathB then 128 else 0) % 256 ∧
       [Mark.notGathered, .good, .stale, .failed][u8 b (base + 1) % 4]? = some x.cellMark ∧
       [Mark.notGathered, .good, .stale, .failed][u8 b (base + 1) / 4]? = some x.tempMark ∧
       u8 b (base + 2) = ([x.flags.currentAhead, x.flags.currentAged, x.flags.noCurrent, x.flags.currentSat,
         x.flags.notTimed, x.flags.vcSat, x.flags.vcompSat, x.flags.unaligned].foldr
           (fun bit rest => (if bit then 1 else 0) + 2 * rest) 0) ∧
       three (base + 3) (x.current % 2 ^ 24).toNat ∧ u16 b (base + 6) = (x.ts.getD 0).toNat % 65536 ∧
       (∀ i, i < r.cells → u16 b (base + 8 + 4 * i) = (x.vc[i]?).getD 0 % 65536 ∧
         u16 b (base + 10 + 4 * i) = (x.vcomp[i]?).getD 0 % 65536) ∧
       (∀ i, i < r.temps → u16 b (values + 2 * i) = ((x.temps[i]?).getD 0).toNat) ∧
       ∀ i, values + 2 * r.temps ≤ i → i < base + recordSize r → u8 b i = 0))

/-! ## The activation of a profile (R18, R45, R169) -/

/-- The detail word of an ACTIVATE_PROFILE that completes OK (R176): the low 16 bits of the activation sequence, the new
ACTIVE bank, and the chain-change mark. -/
def State.activationDetail (s : State) (changed : Bool) : Word :=
  BitVec.ofNat 32 ((s.store.active.sequence + 1).toNat % 65536 +
    65536 * (if s.store.targetBank = .bankA then 0 else 1) + 2 ^ 24 * if changed then 1 else 0)

/-- The activation has been made (R169): the target bank ACTIVE with the next sequence, the old one STALE, the floor, the
profile in use, the session IDLE, the persistence counters 0. One that changes CHAIN leaves the enumeration NEEDED, or marks
one that is RUNNING (R18, R19), and stops a WAITING or HALTED sampler with a pending switch (R43, R45). -/
def State.activated (s t : State) (changed : Bool) : Prop :=
  t.store = { s.store with
    bankA := t.store.bankA
    bankB := t.store.bankB
    floor := s.store.target.version
    inUse := profileOf s.store.target.image
    session := .idle
    slot := none
    waitTimer := none
    chainChange := false } ∧
  t.store.bank s.store.targetBank = { s.store.target with state := .active, sequence := s.store.active.sequence + 1 } ∧
  t.store.bank s.store.activeBank = { s.store.active with state := .stale } ∧
  t.prot = { s.prot with counters := Vector.replicate 8 0 } ∧
  (changed = false → t.chain = s.chain ∧ t.seq = s.seq) ∧
  (changed = true →
    t.chain = (if s.chain.enumStatus = .running then
        { s.chain with slot := s.chain.slot.map fun o => { o with chainChanged := true } }
      else { s.chain with enumStatus := .needed }) ∧
    t.seq = if s.seq.sampler = .waiting ∨ s.seq.sampler = .halted then { s.seq with
        sampler := .stopped
        frameTimer := none
        startDue := false
        activeSlot := none
        pendingSwitch := none
        slot := match s.seq.slot with | some (.select _) => none | x => x }
      else s.seq)

/-! ## Safe states -/

/-- The coil commands POS, NEG and PRE that a sequencer state fixes (R95); in POS_OPENING NEG is on, or off after a
kill. -/
def ContactorState.commandsOk (st : ContactorState) (c : Triple Bool) : Bool :=
  match st with
  | .opened | .negOpening | .faulted => c == ⟨false, false, false⟩
  | .negClosing | .weldCheck => c == ⟨false, true, false⟩
  | .precharging => c == ⟨false, true, true⟩
  | .posClosing => c == ⟨true, true, true⟩
  | .preReleasing | .closed | .holdoff => c == ⟨true, true, false⟩
  | .posOpening => !c.pos && !c.pre

/-- The coil commands are those of the sequencer's state (R95). -/
abbrev State.commandsMatch (s : State) : Prop := s.cont.state.commandsOk s.cont.commands = true

/-- The Current History holds at most 128 entries (R50). -/
abbrev State.historyBounded (s : State) : Prop := s.sensing.history.length ≤ 128

/-- A burst runs, or waits to begin, in PATROL alone (R54, R55). -/
abbrev State.burstInPatrol (s : State) : Prop :=
  s.sensing.burstTimer ≠ none ∨ s.transit.burst = true → s.sleep.power = .patrol

/-- A session has an image to work on, from the start of its erase to its activation (R164 to R169). -/
def State.inSession (s : State) : Prop :=
  s.store.session = .receiving ∨ s.store.session = .verifying ∨ s.store.session = .verified ∨
  s.store.session = .activationPending ∨ ∃ n, s.store.slot = some (.erase n)

/-- The image that a session works on is newer than the floor and bears the declared version, and a verification runs in
VERIFYING alone (R161, R164, R166). -/
def State.sessionSound (s : State) : Prop :=
  (s.inSession → s.store.floor.toNat < s.store.target.version.toNat ∧
    s.store.target.version = s.store.declVersion) ∧
  ∀ n, s.store.slot = some (.verify n) → s.store.session = .verifying

/-- What the kill gate has cut stays off (R85, R112): with the gate deasserted no assertion waits for the sequencer; with
it asserted and its assertion taken, and in a reset, every coil command is off. -/
def State.gateOk (s : State) : Prop :=
  (s.killGate = false → true ∉ s.transit.killEdges) ∧
  (s.killGate = true → true ∉ s.transit.killEdges → s.cont.commands = ⟨false, false, false⟩) ∧
  (s.inputs.inReset = true → s.cont.commands = ⟨false, false, false⟩)

/-! ## Frames, evaluations and wakes -/

/-- The element at an index of a slot. -/
abbrev State.element (s : State) (slot : Slot) (index : Nat) : Element := elementOf (s.elementBytes slot index)

/-- The frame `f` stands in a WAIT, `r` µs before its end, and nothing else wants the engine: what follows the expiry is
the next element or the end of the list. -/
abbrev State.waits (s : State) (f : Frame) (r : Nat) : Prop :=
  s.taking ∧ s.seq.frame = some f ∧ f.phase = .waiting ∧ s.seq.elementTimer = some r ∧ s.table.align = .idle ∧
  (s.chain.engine.isSome = true ∨ s.chain.noRequest ∧ s.chain.breakDue = false)

/-- The slot and range of the next frame start: those of a pending switch, else the active ones (R30). The order that a
switch completes has a buffer of its own outside the slots. -/
abbrev State.runsNext (s : State) (slot : Slot) (first last : Nat) : Prop :=
  s.seq.pendingSwitch = some ⟨slot, first, last⟩ ∧ s.memoryOk ∨
  s.seq.pendingSwitch = none ∧ s.seq.activeSlot = some slot ∧ s.seq.first = first ∧ s.seq.last = last

/-- The frame start from `u` to `t`, of the frame after those of `s`, runs a slot and range; a switch that was pending has
taken effect, and its SELECT_LIST has completed OK with the new frame's number (R30, R43). -/
def State.switched (s u t : State) (slot : Slot) (first last : Nat) : Prop :=
  t.seq.activeSlot = some slot ∧ t.seq.first = first ∧ t.seq.last = last ∧ t.seq.pendingSwitch = none ∧
  (s.seq.pendingSwitch = none → t.seq.slot = s.seq.slot) ∧
  ∀ n, s.seq.pendingSwitch ≠ none → s.seq.slot = some (.select n) → s.pool.sound n →
    t.seq.slot = none ∧ Completed u t n .ok (BitVec.ofNat 32 (s.seq.frameNumber + 1).toNat) 0

/-- The state with a frame's result buffer, where it has one, on the Result Queue: what the queue is before an order that
the frame's end completes joins it (R38). -/
def State.resultJoined (s : State) (r : ResultBuffer) : State :=
  match r with
  | .granted n => { s with pool := { s.pool with resultQueue := s.pool.resultQueue ++ [n] } }
  | .notAsked | .asked | .dropped => s

/-- The frame `f` holds no result buffer, or one with room for its result and with pages of its own beside buffer `m`. -/
abbrev State.resultApart (s : State) (f : Frame) (m : Nat) : Prop :=
  ∀ n, f.result = .granted n → n ≠ m ∧ s.pool.sound n ∧ (s.resultBytes f).length ≤ (s.pool.entry n).capacity ∧
    ∀ page ∈ (s.pool.entry m).pages, page ∉ (s.pool.entry n).pages

/-- The result of the frame `f` stands in its buffer, which is RESULT_QUEUED (R38, R74). -/
def State.resultWritten (s t : State) (f : Frame) : Prop :=
  ∀ n, f.result = .granted n → s.pool.sound n → (s.resultBytes f).length ≤ (s.pool.entry n).capacity →
    t.pool.entry n = { s.pool.entry n with state := .resultQueued } ∧
    ∀ i, i < (s.resultBytes f).length → t.pool.readBuffer n i = ((s.resultBytes f)[i]?).getD 0

/-- The alerts of a frame's end that takes the nodes from `s` to `t` (R15): for each node that became LOST, and each that
left LOST, the address, the count of failed frames, the last error and the last good frame number. -/
def State.nodeAlerts (s t : State) : List (AlertKind × List Byte) :=
  (List.range' 1 20).filterMap fun n =>
    let e := t.chain.node n
    let payload := [BitVec.ofNat 8 n, BitVec.ofNat 8 e.failedFrames, BitVec.ofNat 8 (lastErrorCode e.lastError), 0] ++
      leBytes 2 e.lastGood.toNat
    if (s.chain.node n).state ≠ .lost ∧ e.state = .lost then some (.nodeLost, payload)
    else if (s.chain.node n).state = .lost ∧ e.state = .present then some (.nodeRecovered, payload)
    else none

/-- Sleep entry has begun with the ENTER_SLEEP of buffer `n` (R148, R149): ENTERING with the settings of the order, clamped,
the sample timer stopped and a LINK allocation withdrawn (R126). The order in the chain's slot, where there is one, has
completed ABORTED, an enumeration leaving the status NEEDED; its transaction under way goes on with its result discarded
(R24); that the order completes here and not at that transaction's end is the model's choice (log entry 61). SLEEP is
requested, and is sent at once where the engine is free. -/
def State.sleepEntered (s t : State) (n : Nat) (slot : Slot) (first last : Nat) : Prop :=
  ((∀ o, s.chain.slot = some o → o.buffer ≠ n) → (t.pool.entry n).state = .inService) ∧
  t.pool.orderQueue = s.pool.orderQueue.tail ∧ t.sleep.power = .entering ∧ t.sleep.phase = .entrySleep ∧
  t.sleep.slot.map (·.buffer) = some n ∧
  t.sleep.settings = ⟨min 86400 (max 1 (s.body32 n 0)), min 2592000 (max 60 (s.body32 n 4)), slot, first, last⟩ ∧
  t.sleep.slot.map (·.clamped) = some (decide (s.body32 n 0 < 1 ∨ 86400 < s.body32 n 0 ∨
    s.body32 n 4 < 60 ∨ 2592000 < s.body32 n 4)) ∧
  t.sleep.pendingReason = none ∧ t.sleep.nodesAsleep = false ∧ t.sleep.failedSet = 0 ∧
  t.sleep.wakeCompletion = s.sleep.wakeCompletion ∧ t.sensing.sampleTimer = none ∧ t.chain.nodes = s.chain.nodes ∧
  (s.pool.hasRequest .link = true → t.pool.hasRequest .link = false ∧ t.pool.allocNumber = 0 ∧
    t.pool.allocReason = .abandoned ∧ t.link.allocDone = true) ∧
  (s.chain.slot = none → InService s t n ∧ t.chain.slot = none ∧ t.chain.enumStatus = s.chain.enumStatus ∧
    (s.chain.engine.isSome = true → t.chain.engine = s.chain.engine ∧ t.chain.sleepRequest = some .sleep)) ∧
  (∀ o, s.chain.slot = some o →
    t.chain.slot = none ∧ t.chain.waitTimer = none ∧
    t.chain.enumStatus = (if s.chain.enumStatus = .running then .needed else s.chain.enumStatus) ∧
    (∀ e, s.chain.engine = some e → t.chain.sleepRequest = some .sleep ∧
      t.chain.engine = some (if e.requester = .order then { e with requester := .discarded } else e)) ∧
    (s.pool.sound o.buffer → o.buffer ≠ n →
      (∀ page ∈ (s.pool.entry o.buffer).pages, page ∉ (s.pool.entry n).pages) → Completed s t o.buffer .aborted 0 0)) ∧
  (s.chain.engine = none → s.chain.quietA = none →
    t.chain.engine.map (fun e => (e.requester, e.frame, e.port)) = some (.sleepController, .sleep, .a)) ∧
  SameExcept [.inputs, .link, .pool, .chain, .sensing, .cont, .sleep, .transit] s t

/-- A kind is VIOLATING on an evaluation record (R79, R80). -/
def Profile.violates (p : Profile) (a : Aggregate) : TripKind → Prop
  | .cellOv => ∃ c, a.cells = some c ∧ (p.cellOv : Int) < c.maxVc.value
  | .cellUv => ∃ c, a.cells = some c ∧ c.minVcomp.value < (p.cellUv : Int)
  | .cellUvAbs => ∃ c, a.cells = some c ∧ c.minVc.value < (p.cellUvAbs : Int)
  | .tempHigh => ∃ x, a.temps = some x ∧ p.tempHigh < x.maxTemp.value
  | .tempLow => ∃ x, a.temps = some x ∧ x.minTemp.value < p.tempLow
  | .plausibility => a.outcome = .violation
  | .currentDischarge | .currentCharge | .supervisionLoss | .safeLine | .tamper => False

/-- A kind is UNJUDGED on an evaluation record, or is not judged on one at all (R78 to R80). -/
def Aggregate.unjudged (a : Aggregate) : TripKind → Prop
  | .cellOv | .cellUv | .cellUvAbs => a.cells = none
  | .tempHigh | .tempLow => a.temps = none
  | .plausibility => a.outcome = .notEvaluated
  | .currentDischarge | .currentCharge | .supervisionLoss | .safeLine | .tamper => True

/-- What a TRIP alert of a kind judged on an evaluation record reports: the figure with its place and its limit, or for
PLAUSIBILITY the difference of P and C; the counter, and the frame number (R90). -/
def Aggregate.report (a : Aggregate) (p : Profile) (counter : Nat) (k : TripKind) : TripReport :=
  let judged : Option (Extreme × Int) := match k with
    | .cellOv => a.cells.map fun c => (c.maxVc, (p.cellOv : Int))
    | .cellUv => a.cells.map fun c => (c.minVcomp, (p.cellUv : Int))
    | .cellUvAbs => a.cells.map fun c => (c.minVc, (p.cellUvAbs : Int))
    | .tempHigh => a.temps.map fun x => (x.maxTemp, p.tempHigh)
    | .tempLow => a.temps.map fun x => (x.minTemp, p.tempLow)
    | .plausibility | .currentDischarge | .currentCharge | .supervisionLoss | .safeLine | .tamper => none
  match judged with
  | some (x, limit) => ⟨0, counter, x.node, x.channel, x.value, limit, a.frameNumber.toNat⟩
  | none => ⟨0, counter, 0, 0, ((a.packMv : Int) - a.cellMv).natAbs, p.plausibility, a.frameNumber.toNat⟩

/-- `x` is the first of the lowest in a list (R69): what stands before it is higher, what stands behind it is not lower. -/
def FirstLowest (l : List Extreme) (x : Extreme) : Prop :=
  ∃ before after, l = before ++ x :: after ∧ (∀ y ∈ before, x.value < y.value) ∧ ∀ y ∈ after, x.value ≤ y.value

/-- `x` is the first of the highest in a list (R69). -/
def FirstHighest (l : List Extreme) (x : Extreme) : Prop :=
  ∃ before after, l = before ++ x :: after ∧ (∀ y ∈ before, y.value < x.value) ∧ ∀ y ∈ after, y.value ≤ x.value

/-! ## Profile images, by the offsets of their bytes (R162, R181) -/

/-- Where a section of an image begins: behind the header and the sections before it. -/
def imageSection (b : List Byte) (k : Nat) : Nat :=
  24 + ((List.range k).map fun j => u16 b (8 + 2 * j)).sum

/-- The STRUCTURE check of R166 holds of an image with a declared length. -/
def ImageShape (b : List Byte) (length : Nat) : Prop :=
  let d := u8 b 24
  let len (k : Nat) : Nat := u16 b (8 + 2 * k)
  u16 b 0 = 1 ∧ u16 b 2 = length ∧ imageSection b 6 + 16 = length ∧ 1 ≤ d ∧ d ≤ 20 ∧ len 0 = 8 + 2 * d ∧
  len 1 = 4 + 4 * d + 2 * ((List.range d).map fun i => u8 b (32 + 2 * i)).sum ∧
  len 2 = 44 ∧ len 3 = 16 ∧ len 4 = 12 ∧ len 5 = 4

/-- The VERSION check of R166 holds of an image. -/
def ImageVersion (b : List Byte) (declared floor : Word) : Prop :=
  u32 b 4 = declared.toNat ∧ floor.toNat < u32 b 4

/-- The RANGE check of R166 holds of an image: each field of CHAIN, LIMITS, CONTACTOR, SLEEP and FRAME lies in its range;
those of CALIB, and a field of two bytes whose range is 0 to 65,535, may hold any value. -/
def ImageRanges (b : List Byte) : Prop :=
  let limits := imageSection b 2
  let contactor := imageSection b 3
  let sleep := imageSection b 4
  (∀ i, i < u8 b 24 → (1 ≤ u8 b (32 + 2 * i) ∧ u8 b (32 + 2 * i) ≤ 16) ∧ u8 b (33 + 2 * i) ≤ 4) ∧
  (1 ≤ u8 b 25 ∧ u8 b 25 ≤ 15) ∧ (20 ≤ u16 b 26 ∧ u16 b 26 ≤ 500) ∧ u8 b 28 ≤ 7 ∧ (1 ≤ u8 b 29 ∧ u8 b 29 ≤ 15) ∧
  (-550 ≤ s16 b (limits + 6) ∧ s16 b (limits + 6) ≤ 1500) ∧ (-550 ≤ s16 b (limits + 8) ∧ s16 b (limits + 8) ≤ 1500) ∧
  (100 ≤ u16 b (limits + 10) ∧ u16 b (limits + 10) ≤ 5000) ∧ u32 b (limits + 12) ≤ 2000000 ∧
  u32 b (limits + 16) ≤ 2000000 ∧ u16 b (limits + 20) ≤ 50000 ∧ u8 b (limits + 22) ≤ 16 ∧ u8 b (limits + 23) ≤ 1 ∧
  (∀ i, i < 8 → 1 ≤ u8 b (limits + 24 + i) ∧ u8 b (limits + 24 + i) ≤ 15) ∧
  (∀ i, i < 10 → 1 ≤ u8 b (limits + 32 + i) ∧ u8 b (limits + 32 + i) ≤ 3) ∧
  (5 ≤ u16 b contactor ∧ u16 b contactor ≤ 200) ∧ (50 ≤ u16 b (contactor + 2) ∧ u16 b (contactor + 2) ≤ 5000) ∧
  u16 b (contactor + 4) ≤ 2000 ∧ (10 ≤ u16 b (contactor + 6) ∧ u16 b (contactor + 6) ≤ 500) ∧
  u32 b (contactor + 8) ≤ 2000000 ∧ (80 ≤ u8 b (contactor + 12) ∧ u8 b (contactor + 12) ≤ 99) ∧
  (10 ≤ u8 b (contactor + 13) ∧ u8 b (contactor + 13) ≤ 90) ∧
  (-550 ≤ s16 b (sleep + 4) ∧ s16 b (sleep + 4) ≤ 1500) ∧ u32 b (sleep + 8) ≤ 2000000 ∧
  (10 ≤ u16 b (imageSection b 5) ∧ u16 b (imageSection b 5) ≤ 1000)

/-- The wake that the state `u` is in has completed (R158): ACTIVE with the history empty, the sampler STOPPED, the aux
inputs, SAFE_OPEN and a held tamper event taken, and the ENTER_SLEEP order completed with the reason and the duration. -/
def State.awake (u t : State) : Prop :=
  t.sleep.power = .active ∧ t.sleep.phase = .idle ∧ t.sleep.slot = none ∧ t.sleep.patrol = none ∧
  t.sleep.pendingReason = none ∧ t.sleep.nodesAsleep = false ∧ t.sensing.history = [] ∧
  t.sensing.sampleTimer = some 250 ∧ t.sensing.burstTimer = none ∧ t.seq.sampler = .stopped ∧
  t.seq.frameTimer = none ∧ t.seq.startDue = false ∧ t.seq.activeSlot = none ∧
  t.seq.frameNumber = u.seq.frameNumber ∧ t.seq.overruns = u.seq.overruns ∧
  t.seq.droppedFrames = u.seq.droppedFrames ∧ t.cont.state = u.cont.state ∧ t.cont.commands = u.cont.commands ∧
  t.cont.aux = PinLevels.aux u.inputs.pins ∧ t.cont.holds = ⟨none, none, none⟩ ∧ t.cont.entry = none ∧
  t.transit.toContactors = [] ∧ t.prot.tamperHeld = false ∧ t.store = u.store ∧
  (∀ k, t.prot.latch k =
    if k = .safeLine ∧ u.inputs.pins.safeOpen = true then some ((u.prot.latch .safeLine).getD .immediateOpen)
    else if k = .tamper ∧ u.prot.tamperHeld = true then
      some ((u.prot.latch .tamper).getD (u.profile.actionOf .tamper))
    else u.prot.latch k) ∧
  ∀ o, u.sleep.slot = some o → t.sleep.wakeCompletion = o.buffer ∧
    (u.memoryOk → u.pool.sound o.buffer → u.quiet o.buffer = false →
      t.orderByte o.buffer 6 = completionCode .ok ∧ t.orderByte o.buffer 7 = boolCode o.clamped ∧
      t.orderWord o.buffer 8 = t.now.toNat ∧
      t.orderWord o.buffer 12 = t.sleep.duration % 2 ^ 24 + 2 ^ 24 * wakeReasonCode t.sleep.lastReason ∧
      (t.pool.entry o.buffer).state = .resultQueued ∧ t.pool.resultQueue = u.pool.resultQueue ++ [o.buffer])

/-- Steps 3 to 6 of sleep entry have been made from `u` (R131, R149): ASLEEP with both timers from 0 and a fresh Sleep Page,
the pages of the buffers kept, the history empty, and the Link Port without power (R138). -/
def State.fellAsleep (u t : State) : Prop :=
  t.sleep = { u.sleep with
    power := .asleep, phase := .idle, timersRunning := true, wakeCount := 0, maxCount := 0
    page := { u.sleep.page with
      settings := u.sleep.settings, trap := none, patrolCount := 0, failed := 0, entryTime := u.clock.packTime
      ringCount := 0, newest := 0, ring := Vector.replicate 8 .reset } } ∧
  (∃ kept, t.pool.retained = some kept ∧ ∀ page, page ∈ kept ↔ ∃ m, 1 ≤ m ∧ m ≤ 40 ∧
    page ∈ (t.pool.entry m).pages ∧ ((t.pool.entry m).state = .alertQueued ∨
      (t.pool.entry m).state = .filling ∧ (t.pool.entry m).requester = .alert ∨
      u.sleep.slot.map (·.buffer) = some m)) ∧
  t.sensing = { u.sensing with history := [], burstCount := 0, burstSum := 0, burstSat := false } ∧
  t.cont = { u.cont with entry := none } ∧ t.link = { Link.reset u.link.resetCause with sdo := 0xFF }

/-- The Link Port's registers at a wake (R138): those of a reset, ALERT_LOST by the count, and a fresh read-ahead of
offset 0 of the Status Block, which has captured the low byte of the update count before the event raises it (log entry
44). The capture and the argument at 0, and SDO, are the model's (log entries 32 and 60). -/
def State.linkPoweredUp (s t : State) : Prop :=
  t.link = { Link.reset s.link.resetCause with
    alertLost := decide (0 < s.alerts.lostCount)
    readAhead := .captured (BitVec.ofNat 8 s.pool.updateCount.toNat)
    sdo := s.link.sdo }

end Sys2Proof.Machine
end

