-- ==== Sys2Proof/WellFormed.lean ====
section
/-! DEFINITION. Which commands are well formed: an operand that the row's own words shut out is refused here. -/

namespace Sys2Proof

/-- The current converter's range, in mA (R48). -/
def RawSample.wellFormed (r : RawSample) : Bool :=
  decide (-2200000 ≤ r.current ∧ r.current ≤ 2200000)

/-- A command is well formed when its operands are those of its own row: an illegal command's code names none of the
five commands (R175), and a raw current lies in the converter's range (R48). -/
def Instr.wellFormed : Instr → Bool
  | .illegalCommand code _ => code == 0#8 || decide (6 ≤ code.toNat)
  | .sampleTimerExpiry r => r.wellFormed
  | .burstRequest r => r.wellFormed
  | .burstSample r => r.wellFormed
  | _ => true

end Sys2Proof
end

