-- ==== Sys2Proof/Certificates/Slice0/Obligations.lean ====
section
/-! DEFINITION. The statements for the provers, family by family in the order of the table of operations. -/

open Sys2Proof Sys2Proof.Machine

/-! ## The machine as a whole -/

/-- A step takes the command at the front of the queue and runs it with the queue's rest. With no command waiting, it
runs the event that is due, or lets one microsecond pass; the queue of waiting commands (log entry 9) and the idle step
(log entry 7) are the model's choice. -/
def Obligations.StepRunsFrontCommandOrDueEvent : Prop :=
  (∀ (c : Instr) (rest : List Instr) (s : State),
    step { s with pending := c :: rest } = exec c { s with pending := rest }) ∧
  ∀ s : State, s.pending = [] →
    step s = match s.dueEvent with
      | some c => exec c s
      | none => .next (s.elapse 1)

/-- No command touches the queue of waiting commands. The queue is the model's own device (log entry 9), not the part's
Order Queue: no rule of the spec gives it. -/
def Obligations.CommandsLeaveTheQueueAlone : Prop :=
  ∀ (c : Instr) (s t : State), exec c s = .next t → t.pending = s.pending

/-- R95's table: the coil commands are those that the sequencer state fixes, and every step keeps them so. What the kill
gate has cut stays off: with the gate asserted and its assertion taken every command is off, and a step that deasserts
the gate leaves every command and every coil output off (R85, R112). That an assertion which still waits is taken before
the deassertion, and the gate's edge at the end of a reset, are read by inference (DEDUCED, log entry 46). -/
def Obligations.EveryStepKeepsCoilCommandsOfTheState : Prop :=
  ∀ s t : State, s.commandsMatch → step s = .next t → t.commandsMatch ∧
    (s.gateOk → t.gateOk ∧ (s.killGate = true → t.killGate = false →
      t.cont.commands = ⟨false, false, false⟩ ∧ ∀ k, t.coilOutput k = false))

/-- R95: the POS coil output is energised only while the NEG coil output is energised, and no coil output is energised
with the kill gate asserted, outside ACTIVE, or in a reset (R85, R116). -/
def Obligations.PosOutputNeedsNegOutput : Prop :=
  ∀ s : State, s.commandsMatch →
    (s.coilOutput .pos = true → s.coilOutput .neg = true) ∧
    (s.coilOutput .pre = true → s.coilOutput .neg = true) ∧
    ∀ k, s.coilOutput k = true →
      s.cont.commands.get k = true ∧ s.killGate = false ∧ s.sleep.power = .active ∧ s.inputs.inReset = false

/-- Every step keeps exchange memory in its canonical form, inside its 24,576 bytes (R117, R118, R136). -/
def Obligations.EveryStepKeepsMemoryCanonical : Prop :=
  ∀ s t : State, s.memoryOk → step s = .next t → t.memoryOk

/-- The Current History never holds more than 128 entries (R50), and a burst runs, or waits to begin, in PATROL alone: a
step that leaves PATROL ends it (R54, R55). -/
def Obligations.EveryStepKeepsHistoryBounded : Prop :=
  ∀ s t : State, step s = .next t →
    (s.historyBounded → t.historyBounded) ∧ (s.burstInPatrol → t.burstInPatrol)

/-- The version floor never decreases, and a session's image stays newer than it and bears the declared version, with a
verification in VERIFYING alone (R161, R164, R166, R173). -/
def Obligations.VersionFloorNeverDecreases : Prop :=
  ∀ s t : State, s.sessionSound → step s = .next t →
    t.sessionSound ∧ s.store.floor.toNat ≤ t.store.floor.toNat

/-- The reset state meets every invariant above. That the lines are deasserted there, and the vendor default's version
0, are the model's choice (log entries 3 and 4). -/
def Obligations.ResetStateMeetsInvariants : Prop :=
  State.reset.commandsMatch ∧ State.reset.memoryOk ∧ State.reset.historyBounded ∧ State.reset.burstInPatrol ∧
  State.reset.sessionSound ∧
  State.reset.gateOk ∧ State.reset.taking ∧ State.reset.commandReady

/-- A command that is well formed never stops the machine, and any command byte is taken (R133); ILLEGAL_COMMAND is
refused exactly when its code names another row's command (R175). That SPI_VOID_TRANSACTION stands for every command byte
is the model's choice (log entry 32). -/
def Obligations.OnlyIllFormedCommandsAreRefused : Prop :=
  ∀ (c : Instr) (s : State),
    (c.wellFormed = true → ∃ t, exec c s = .next t) ∧
    (∀ b, c = .spiVoidTransaction b → ∃ t, exec c s = .next t) ∧
    (∀ b a, c = .illegalCommand b a → 1 ≤ b.toNat → b.toNat ≤ 5 → exec c s = .refused .illFormed)

/-! ## Resets (R14, R27, R53, R94, R95, R134, R145, R147, R173) -/

/-- POWER_ON_RESET leaves every block at its reset values, field for field, with RING_EN, the aux inputs, SAFE_OPEN and
TAMPER_IN sampled, the watch of every closed contact started (R97) and the tone of R147 leaving port A; the banks, the
floor and the profile in use stand as `ResetChoosesOneActiveBank` says (R173). The model's choice are: the read-ahead
byte fetched at power-on (log entry 4: R134 gives the fetch at the end of RESET_N, R138 at a wake), after the one raise
of the update count (log entry 44); an event of TAMPER_IN sampled at the reset's end (log entry 8); the TRIP of
SAFE_LINE before that of TAMPER (log entry 36); what was on its way between blocks dropped (log entry 62); the code of
UPDATE_LOCKED's cause (log entry 17); the zeros of the two TRIP payloads (log entry 25); SDO and the capture at 0 (log
entry 32); ALLOC_RESULT's taken requester LINK and page count 0 with COMMAND's argument 0 (log entry 60); and port A
first for the tone in ring mode (log entry 47). That a gate asserted at the reset's end is an event for the Contactor
Sequencer is read by inference (DEDUCED, log entry 46). -/
def Obligations.PowerOnResetSetsEveryBlock : Prop :=
  ∀ (pins : PinLevels) (s : State), ∃ t, exec (.powerOnReset pins) s = .next t ∧
    t.clock = ⟨0, 1000⟩ ∧ t.inputs = { s.inputs with pins := pins, inReset := false } ∧
    t.link = { Link.reset .powerOn with readAhead := .captured 1 } ∧
    t.pool = { Pool.reset with updateCount := 1 } ∧ t.alerts = AlertWriter.reset ∧
    t.chain = { Chain.reset pins.ringEn with
      engine := some ⟨.sleepController, .wakeTone, .a, .sending, 0, t.profile.replyTimeout, 0, 0, .noError⟩
      txTimer := some 500
      idleTimer := none } ∧
    t.seq = Sequencer.reset t.store.inUse.defaultPeriod ∧
    t.sensing = { Sensing.reset with sampleTimer := some 250 } ∧ t.table = FrameTable.reset ∧
    t.prot = { Protection.reset with latches := t.prot.latches } ∧
    (∀ k, t.prot.latch k =
      if k = .safeLine ∧ pins.safeOpen = true then some .immediateOpen
      else if k = .tamper ∧ pins.tamperIn = true then some (t.profile.actionOf .tamper) else none) ∧
    t.cont = { Contactors.reset with aux := PinLevels.aux pins, watches := t.cont.watches } ∧
    (∀ k, t.cont.watches.get k =
      if (PinLevels.aux pins).get k = true then some ⟨1000 * t.profile.window, 0⟩ else none) ∧
    t.sleep = Sleep.reset ∧
    t.store = { t.store with
      packKey := s.store.packKey, rejected := 0, session := if pins.tamperIn then .locked else .idle, declVersion := 0
      declLength := 0, nextOffset := 0, chainChange := false, slot := none, waitTimer := none } ∧
    t.transit = { Transit.empty with
      killEdges := if pins.safeOpen = true ∨ pins.tamperIn = true ∧ t.profile.actionOf .tamper = .immediateOpen
        then [true] else []
      demands := if pins.tamperIn = true ∧ t.profile.actionOf .tamper = .orderlyOpen then 1 else 0
      alerts := (if pins.tamperIn then [(.updateLocked, [1])] else []) ++
        (if pins.safeOpen then [(.trip, tripPayload .safeLine .immediateOpen .plain)] else []) ++
        if pins.tamperIn then [(.trip, tripPayload .tamper (t.profile.actionOf .tamper) .plain)] else [] } ∧
    t.pending = s.pending

/-- RESET_N: at the assertion every block takes its reset values, pack time is 0, every coil output goes off, and the
Profile Store samples TAMPER_IN: the session is LOCKED when it was or the line is asserted, with an UPDATE_LOCKED alert
in the second case alone (R173); the code 1 of its cause TAMPER is the model's choice (log entry 17). The release samples
the aux inputs, SAFE_OPEN and TAMPER_IN for the sequencer and the Protection Monitor, where each may set its latch (R88,
R89, R96), leaves the session as it stands, and starts the sample timer (R46). That the levels sampled are those that the
two commands give, that the release keeps RING_EN and does not lock the session (log entry 8), the fetch after the one
raise of the update count (log entry 44), SDO and the capture at 0 (log entry 32), ALLOC_RESULT's taken requester LINK and
page count 0 with COMMAND's argument 0 (log entry 60), and port A first for the tone in ring mode (log entry 47) are the
model's choice, as are what was on its way between blocks dropped at the assertion (log entry 62) and the TRIP of SAFE_LINE
before that of TAMPER at the release (log entry 36); the gate's edge at the reset's end is read by inference (DEDUCED, log
entry 46). -/
def Obligations.ResetLineResetsAndReleases : Prop :=
  (∀ (l : ResetLevels) (s : State), ∃ u, exec (.resetNAssertion l) s = .next u ∧ u.inputs.inReset = true ∧
    u.inputs.pins = { s.inputs.pins with ringEn := l.ringEn, tamperIn := l.tamperIn } ∧
    u.clock = { s.clock with packTime := 0 } ∧ (∀ k, u.coilOutput k = false) ∧ u.link = Link.reset .resetLine ∧
    u.chain = Chain.reset l.ringEn ∧ u.pool = Pool.reset ∧ u.sensing = Sensing.reset ∧
    u.seq = Sequencer.reset u.store.inUse.defaultPeriod ∧ u.table = FrameTable.reset ∧ u.prot = Protection.reset ∧
    u.cont = Contactors.reset ∧ u.sleep = Sleep.reset ∧ u.alerts = AlertWriter.reset ∧
    u.store.rejected = s.store.rejected ∧
    u.store.session = (if s.store.session = .locked ∨ l.tamperIn = true then .locked else .idle) ∧
    u.transit = { Transit.empty with alerts :=
      if l.tamperIn = true ∧ s.store.session ≠ .locked then [(.updateLocked, [1])] else [] } ∧
    ∀ pins, ∃ t, exec (.resetNRelease pins) u = .next t ∧
      t.link = { Link.reset .resetLine with readAhead := .captured 1 } ∧ t.pool = { Pool.reset with updateCount := 1 } ∧
      t.sensing = { Sensing.reset with sampleTimer := some 250 } ∧ t.sleep = Sleep.reset ∧ t.seq = u.seq) ∧
  ∀ (pins : PinLevels) (s : State),
    (s.taking → exec (.resetNRelease pins) s = .next s) ∧
    (s.inputs.inReset = true → s.seq.frame = none → s.chain.engine = none → s.chain.location = none →
      s.chain.seqRequest = none → s.chain.quietA = none → s.sleep.power ≠ .asleep →
      ∃ t, exec (.resetNRelease pins) s = .next t ∧ t.taking ∧
        t.inputs.pins = { pins with ringEn := s.inputs.pins.ringEn } ∧ t.clock = s.clock ∧ t.pool.updateCount = 1 ∧
        t.sensing = { s.sensing with sampleTimer := some 250 } ∧ t.cont.state = s.cont.state ∧
        t.cont.commands = s.cont.commands ∧ t.cont.aux = PinLevels.aux pins ∧ t.cont.logs = s.cont.logs ∧
        t.chain.engine.map (fun e => (e.requester, e.frame, e.port)) = some (.sleepController, .wakeTone, .a) ∧
        t.store = s.store ∧ t.sleep = s.sleep ∧
        (∀ k, t.prot.latch k =
          if k = .safeLine ∧ pins.safeOpen = true then some ((s.prot.latch .safeLine).getD .immediateOpen)
          else if k = .tamper ∧ pins.tamperIn = true then
            some ((s.prot.latch .tamper).getD (s.profile.actionOf .tamper))
          else s.prot.latch k) ∧
        t.watchesAfresh ∧ t.transit.killEdges = (if t.killGate then [true] else []) ∧
        t.transit.alerts = s.transit.alerts ++
          (if pins.safeOpen = true ∧ s.prot.latch .safeLine = none then
            [(.trip, tripPayload .safeLine .immediateOpen .plain)] else []) ++
          (if pins.tamperIn then s.tamperTrip else []) ∧
        SameExcept [.inputs, .link, .pool, .chain, .sensing, .prot, .cont, .transit] s t)

/-- The choice of the ACTIVE bank at both resets (R173): exactly one bank is ACTIVE, the floor is raised to its version
where it was below it, the profile in use is the bank's, the other bank and the session fields are cleared, and the next
store holds what the choice gives, with the session LOCKED by TAMPER_IN, or by a lock that RESET_N keeps. That RESET_N
samples TAMPER_IN as an operand of its assertion is the model's choice (log entry 8). -/
def Obligations.ResetChoosesOneActiveBank : Prop :=
  (∀ (pins : PinLevels) (s : State), ∃ t, exec (.powerOnReset pins) s = .next t ∧
    t.store = { s.store.choose with rejected := 0, session := if pins.tamperIn then .locked else .idle }) ∧
  (∀ (l : ResetLevels) (s : State), ∃ t, exec (.resetNAssertion l) s = .next t ∧
    t.store = { s.store.choose with
      session := if s.store.session = .locked ∨ l.tamperIn = true then .locked else .idle }) ∧
  ∀ p : ProfileStore, (p.bankA.state = .active ∨ p.bankB.state = .active) →
    (let q := p.choose
     (q.bankA.state = .active ∧ q.bankB.state ≠ .active ∨ q.bankA.state ≠ .active ∧ q.bankB.state = .active) ∧
     q.floor = (if p.floor.toNat < q.active.version.toNat then q.active.version else p.floor) ∧
     (p.floor.toNat ≤ q.active.version.toNat → q.floor = q.active.version) ∧
     q.inUse = profileOf q.active.image ∧ q.packKey = p.packKey ∧ q.rejected = p.rejected ∧
     q.declVersion = 0 ∧ q.declLength = 0 ∧ q.nextOffset = 0 ∧ q.chainChange = false ∧ q.slot = none ∧
     q.waitTimer = none ∧
     (p.bankA.state = .active → p.bankB.state ≠ .active → q.bankA = p.bankA ∧ q.bankB = { p.bankB with state :=
       if p.bankB.state = .empty ∨ p.bankB.state = .stale then p.bankB.state else .invalid }) ∧
     (p.bankB.state = .active → p.bankA.state ≠ .active → q.bankB = p.bankB ∧ q.bankA = { p.bankA with state :=
       if p.bankA.state = .empty ∨ p.bankA.state = .stale then p.bankA.state else .invalid }) ∧
     (p.bankA.state = .active → p.bankB.state = .active → p.bankB.sequence.toNat < p.bankA.sequence.toNat →
       q.bankA = p.bankA ∧ q.bankB = { p.bankB with state := .stale }) ∧
     (p.bankA.state = .active → p.bankB.state = .active → p.bankA.sequence.toNat < p.bankB.sequence.toNat →
       q.bankB = p.bankB ∧ q.bankA = { p.bankA with state := .stale }))

/-- While RESET_N is asserted nothing but the resets and the SAFE_OPEN and aux lines changes the state (the model's
choice, log entry 8); while the Link Port is unpowered no transaction is taken and SDO reads as all ones (R133), SDO's
byte being a field of the model (log entry 32). -/
def Obligations.ResetAndUnpoweredLinkTakeNothing : Prop :=
  (∀ (c : Instr) (s : State), s.inputs.inReset = true → c.wellFormed = true →
    (∀ pins, c ≠ .powerOnReset pins) → (∀ l, c ≠ .resetNAssertion l) → (∀ pins, c ≠ .resetNRelease pins) →
    c ≠ .safeOpenAssertion → c ≠ .safeOpenDeassertion → (∀ k b, c ≠ .auxInputEdge k b) → exec c s = .next s) ∧
  ∀ s : State, s.taking → (s.sleep.power = .asleep ∨ s.sleep.power = .patrol) →
    (∀ c, (c = .spiTransactionEnd ∨ c = .dataRead ∨ (∃ v, c = .dataWrite v) ∨ (∃ v, c = .selectWrite v) ∨
        (∃ v, c = .attnMaskWrite v) ∨ (∃ r v, c = .registerWrite r v) ∨ (∃ v, c = .attnWrite v) ∨
        (∃ b, c = .spiVoidTransaction b)) →
      exec c s = .next { s with link := { s.link with sdo := 0xFF } }) ∧
    (∀ a, exec (.allocate a) s = .next s ∧ exec (.submit a) s = .next s ∧ exec (.takeResult a) s = .next s ∧
      exec (.takeAlert a) s = .next s ∧ exec (.release a) s = .next s) ∧
    ∀ b a, (b = 0 ∨ 6 ≤ b.toNat) → exec (.illegalCommand b a) s = .next s

/-! ## The link and the window (R133 to R137) -/

/-- A command byte begins a transaction: void with one of bits 3 to 6 set, else a read that captures its register whole,
and what SDO then carries: 00h under the command byte, FFh in a void transaction, the four bytes of the capture and 00h
after them (R133, R175). That SPI_VOID_TRANSACTION's operand may be any command byte, and that a row of a register write
begins its transaction itself, are the model's choice (log entries 32 and 22). A write of a read-only register, the
mask, and the end of a transaction with no write-behind byte change the Link Port alone (R133, R134). A write-1 to ATTN
clears a latched flag, and for ALERT_LOST the alerts-lost record goes with it (R137, R144). -/
def Obligations.RegisterWritesChangeTheirOwnFields : Prop :=
  (∀ s : State, s.linkSettled →
    (∀ b, b &&& 0x78#8 ≠ 0#8 → exec (.spiVoidTransaction b) s =
      .next { s with link := { s.link with transaction := .void, sdo := 0xFF } }) ∧
    (∀ b, b &&& 0x78#8 = 0#8 → b.getLsbD 7 = true → b.toNat % 8 ≠ 4 → ∃ t, exec (.spiVoidTransaction b) s = .next t ∧
      t = { s with link := { s.link with transaction := .registerRead, capture := s.readRegister (b.toNat % 8) } } ∧
      t.sdoByte 0 = some 0 ∧
      (∀ i, i < 4 → t.sdoByte (i + 1) = some ((s.readRegister (b.toNat % 8)).extractLsb' (8 * i) 8)) ∧
      ∀ i, 4 < i → t.sdoByte i = some 0) ∧
    (∀ b, b &&& 0x78#8 = 0#8 → b.getLsbD 7 = false → b.toNat % 8 ≠ 4 → exec (.spiVoidTransaction b) s =
      .next { s with link := { s.link with transaction := .registerWrite } }) ∧
    exec (.spiVoidTransaction 0x84) s = .next { s with link := { s.link with transaction := .dataRead } } ∧
    exec (.spiVoidTransaction 0x04) s =
      .next { s with link := { s.link with transaction := .dataWrite, readAhead := .discarded } } ∧
    (∀ r v, exec (.registerWrite r v) s = .next { s with link := { s.link with transaction := .registerWrite } }) ∧
    (∀ v : Word, exec (.attnMaskWrite v) s =
      .next { s with link := { s.link with transaction := .registerWrite, mask := v.setWidth 6 } }) ∧
    exec .spiTransactionEnd s = .next { s with link := { s.link with transaction := .idle } }) ∧
  ∀ (v : Word) (s : State), s.linkSettled → ∃ t, exec (.attnWrite v) s = .next t ∧
    t.link.allocDone = (s.link.allocDone && !v.getLsbD 3) ∧
    t.link.accessFault = (s.link.accessFault && !v.getLsbD 4) ∧
    t.link.alertLost = (s.link.alertLost && !v.getLsbD 5) ∧
    t.alerts = (if v.getLsbD 5 then { s.alerts with lostCount := 0, firstLost := none } else s.alerts) ∧
    t.link.mask = s.link.mask ∧ t.link.command = s.link.command ∧ t.link.readAhead = s.link.readAhead ∧
    SamePoolButCount s t ∧ SameExcept [.link, .alerts, .pool] s t

/-- The attention flags and ATTN_N (R137), and the registers that show them and the pointer (R134, R175); QUEUE_STATE
shows the heads and counts of the queues, 0 for the head of an empty one (R121); ALLOC_RESULT and COMMAND show their fields
by R175's codes. -/
def Obligations.AttentionAndQueueStateFollowTheQueues : Prop :=
  (∀ s : State,
    (s.attention.getLsbD 0 = true ↔ s.pool.alertQueue ≠ []) ∧ (s.attention.getLsbD 1 = true ↔ s.pool.resultQueue ≠ []) ∧
    (s.attention.getLsbD 2 = true ↔
      s.pool.orderQueue = [] ∧ ∀ n, 1 ≤ n → n ≤ 40 → (s.pool.entry n).state ≠ .inService) ∧
    s.attention.getLsbD 3 = s.link.allocDone ∧ s.attention.getLsbD 4 = s.link.accessFault ∧
    s.attention.getLsbD 5 = s.link.alertLost ∧
    (s.attnAsserted = true ↔
      s.linkPowered = true ∧ ∃ i, i < 6 ∧ s.attention.getLsbD i = true ∧ s.link.mask.getLsbD i = false) ∧
    s.readRegister 1 = s.attention.setWidth 32 ∧ s.readRegister 2 = s.link.mask.setWidth 32 ∧
    (s.readRegister 0).setWidth 16 = 0x7140#16 ∧
    (s.readRegister 0).extractLsb' 24 8 = (if s.link.resetCause = .powerOn then 0#8 else 1#8) ∧
    (s.readRegister 3).extractLsb' 0 8 = s.link.number ∧ (s.readRegister 3).extractLsb' 16 16 = s.link.offset ∧
    (s.readRegister 5).extractLsb' 0 8 = s.link.command.code ∧
    (s.readRegister 5).extractLsb' 16 16 = s.link.command.argument ∧ s.readRegister 7 = s.readQueueState) ∧
  (∀ s : State, s.pool.resultQueue.headD 0 < 64 → s.pool.resultQueue.length < 64 → s.pool.alertQueue.headD 0 < 64 →
    s.pool.alertQueue.length < 64 → s.pool.orderQueue.length < 64 →
    (s.readQueueState.extractLsb' 0 6).toNat = s.pool.resultQueue.headD 0 ∧
    (s.readQueueState.extractLsb' 6 6).toNat = s.pool.resultQueue.length ∧
    (s.readQueueState.extractLsb' 12 6).toNat = s.pool.alertQueue.headD 0 ∧
    (s.readQueueState.extractLsb' 18 6).toNat = s.pool.alertQueue.length ∧
    (s.readQueueState.extractLsb' 24 6).toNat = s.pool.orderQueue.length) ∧
  ∀ s : State, s.pool.allocNumber < 256 → s.pool.takenNumber < 256 → s.pool.takenPages < 16 →
    ((s.readRegister 6).extractLsb' 0 8).toNat = s.pool.allocNumber ∧
    [AllocReason.noReason, .pending, .noPages, .noNumber, .abandoned][((s.readRegister 6).extractLsb' 8 8).toNat]? =
      some s.pool.allocReason ∧
    ((s.readRegister 6).extractLsb' 16 8).toNat = s.pool.takenNumber ∧
    [Requester.link, .sampler, .alert][((s.readRegister 6).extractLsb' 24 4).toNat]? = some s.pool.takenRequester ∧
    ((s.readRegister 6).extractLsb' 28 4).toNat = s.pool.takenPages ∧
    [CommandOutcome.ok, .pending, .refusedBusy, .refusedState, .refusedEmpty, .range,
      .illegal][((s.readRegister 5).extractLsb' 8 8).toNat]? = some s.link.command.outcome

/-- The Status Block (R145, R180): the update count and each owner's field at its offset, in page 0 of exchange memory,
with 00h from byte 64 on. Every event but a reset raises the update count by 1 exactly where one of bytes 2 to 63
changes, or where a patrol begins at once in the event that ended another, which writes the power state and leaves it as
it was (DEDUCED, log entry 11). That the page is a view of its owners' fields is read by inference too (DEDUCED, log
entry 31). -/
def Obligations.StatusBlockShowsItsFieldsAndCountsUpdates : Prop :=
  (∀ s : State,
    (let b (i : Nat) : Nat := (s.exchangeByte i).toNat
     let half (i : Nat) : Nat := b i + 256 * b (i + 1)
     let word (i : Nat) : Nat := half i + 65536 * half (i + 2)
     let triple (i : Nat) (x : Triple Bool) : Prop := b i =
       (if x.pos then 1 else 0) + (if x.neg then 2 else 0) + if x.pre then 4 else 0
     let record (i : Nat) (x : BankContent) : Prop :=
       [BankState.empty, .writing, .written, .valid, .active, .invalid, .stale][b i]? = some x.state ∧ b (i + 1) = 0 ∧
       half (i + 2) = x.length % 65536 ∧ word (i + 4) = x.version.toNat ∧ word (i + 8) = x.sequence.toNat
     half 0 = s.pool.updateCount.toNat ∧ [ResetCause.powerOn, .resetLine][b 2]? = some s.link.resetCause ∧
     [PowerState.active, .entering, .asleep, .patrol, .waking][b 3]? = some s.sleep.power ∧
     [WakeReason.noReason, .wakeLine, .tamper, .maxSleep, .patrolBreach, .drain, .supervision][b 4]? =
       some s.sleep.lastReason ∧
     [SamplerState.stopped, .waiting, .running, .halted][b 5]? = some s.seq.sampler ∧
     half 6 = s.seq.frameNumber.toNat ∧ half 8 = s.seq.overruns % 65536 ∧ half 10 = s.seq.droppedFrames % 65536 ∧
     b 12 = ((List.range' 4 92).filter fun page =>
       (List.range' 1 40).all fun n => !(s.pool.entry n).pages.contains page).length ∧
     b 13 = ((List.range' 1 40).filter fun n => (s.pool.entry n).state == .free).length ∧
     b 14 = s.profile.alertReserve % 256 ∧
     [none, some AlertKind.trip, some .contactorFault, some .openedUnderCurrent, some .nodeLost, some .nodeRecovered,
       some .nodeCounterFull, some .chainBreak, some .chainMismatch, some .sequenceTrap, some .updateRejected,
       some .updateLocked, some .tamper][b 15]? = some s.alerts.firstLost ∧
     half 16 = s.pool.discarded % 65536 ∧ half 18 = s.alerts.lostCount % 65536 ∧
     half 20 = s.alerts.lastSequence.toNat ∧ b 22 = (if s.killGate then 1 else 0) ∧
     [ContactorState.opened, .negClosing, .precharging, .posClosing, .preReleasing, .closed, .holdoff, .posOpening,
       .weldCheck, .negOpening, .faulted][b 23]? = some s.cont.state ∧
     triple 24 s.cont.commands ∧ triple 25 s.cont.aux ∧
     half 26 = s.cont.faults.toNat + (if s.cont.weldUnchecked then 4096 else 0) ∧
     (∀ i k, [TripKind.cellOv, .cellUv, .cellUvAbs, .tempHigh, .tempLow, .plausibility, .currentDischarge,
         .currentCharge, .supervisionLoss, .safeLine, .tamper][i]? = some k →
       [none, some TripAction.alertOnly, some .orderlyOpen, some .immediateOpen][b (28 + i)]? =
         some (s.prot.latch k)) ∧
     [SessionState.idle, .receiving, .verifying, .verified, .activationPending, .locked][b 39]? =
       some s.store.session ∧
     record 40 s.store.bankA ∧ record 52 s.store.bankB ∧ ∀ i, 64 ≤ i → i < 256 → b i = 0)) ∧
  ∀ (c : Instr) (s t : State), s.taking → (∀ pins, c ≠ .powerOnReset pins) → (∀ l, c ≠ .resetNAssertion l) →
    exec c s = .next t →
    (let written : Prop := (∃ i, 2 ≤ i ∧ i < 64 ∧ t.exchangeByte i ≠ s.exchangeByte i) ∨
       t.sleep.power = .patrol ∧ t.sleep.phase = .patrolTone ∧ s.sleep.phase ≠ .patrolTone
     (written → t.pool.updateCount = s.pool.updateCount + 1) ∧
     (¬ written → t.pool.updateCount = s.pool.updateCount))

/-- How a fetch judges its target; SELECT loads the pointer and starts a fetch there; a DATA read returns the read-ahead
byte, or 00h with ACCESS_FAULT, advances the offset modulo 65,536 and fetches again (R135). That SDO's byte is a field, and
that a row may come without its command byte, are the model's choice (log entries 32 and 22). -/
def Obligations.SelectAndDataReadFetchAhead : Prop :=
  (∀ (s : State) (number offset : Nat),
    s.fetchAt number offset =
      if number = 0 ∧ offset < 1024 then .captured (s.exchangeByte offset)
      else if 1 ≤ number ∧ number ≤ 40 ∧ offset < (s.pool.entry number).capacity ∧
          ((s.pool.entry number).state = .held ∧ (s.pool.entry number).marked = false ∨
            (s.pool.entry number).state = .orderQueued ∨ (s.pool.entry number).state = .inService ∨
            (s.pool.entry number).state = .resultQueued ∨ (s.pool.entry number).state = .alertQueued) then
        .captured (s.pool.readBuffer number offset)
      else .refused) ∧
  ∀ s : State, s.linkSettled →
    (∀ v : Word, ∃ t, exec (.selectWrite v) s = .next t ∧ t.link.number = v.setWidth 8 ∧
      t.link.offset = (v >>> 16).setWidth 16 ∧
      t.link.readAhead = s.fetchAt (v.setWidth 8 : Byte).toNat ((v >>> 16).setWidth 16 : Half).toNat ∧
      t.link.accessFault = s.link.accessFault ∧ t.link.mask = s.link.mask ∧ t.link.command = s.link.command ∧
      t.link.writeBehind = none ∧ SameExcept [.link] s t) ∧
    (s.link.readAhead ≠ .discarded → ∃ t, exec .dataRead s = .next t ∧
      t.link.offset = s.link.offset + 1 ∧ t.link.number = s.link.number ∧
      t.link.readAhead = s.fetchAt s.link.number.toNat (s.link.offset + 1).toNat ∧
      (∀ b, s.link.readAhead = .captured b → t.link.sdo = b ∧ t.link.accessFault = s.link.accessFault) ∧
      (s.link.readAhead = .refused → t.link.sdo = 0 ∧ t.link.accessFault = true) ∧
      t.link.mask = s.link.mask ∧ t.link.command = s.link.command ∧ SameExcept [.link] s t)

/-- Which DATA write bytes are accepted, and what an accepted and a refused byte do where no byte is held, as for the
first byte after its command byte (R136, R29); a byte that follows another in the same transaction has the one before it
stored at its target, and nowhere else, or lost with ACCESS_FAULT (R136). That DATA bytes that follow one another belong to
one transaction, begun by the first, is the model's choice (log entry 22). The write-behind byte is stored at the end of
the transaction: at its target, and nowhere else; a buffer that is no longer the host's loses it with ACCESS_FAULT (R136).
Any command and any SELECT sees every byte written before it (R127, R134); that such a row ends an open DATA write itself
is the model's choice (log entry 22). -/
def Obligations.DataWritesAreTestedAndStored : Prop :=
  (∀ (v : Byte) (s : State), s.taking → s.linkPowered = true → s.link.writeBehind = none →
     ∃ t, exec (.dataWrite v) s = .next t ∧ t.link.transaction = .dataWrite ∧
     (s.writable s.link.number.toNat s.link.offset.toNat = true ↔
       (s.link.number.toNat = 0 ∧ (256 ≤ s.link.offset.toNat ∧ s.link.offset.toNat < 512 ∧ .slotA ∉ s.activeSet ∨
           512 ≤ s.link.offset.toNat ∧ s.link.offset.toNat < 768 ∧ .slotB ∉ s.activeSet) ∨
         1 ≤ s.link.number.toNat ∧ s.link.number.toNat ≤ 40 ∧
           (s.pool.entry s.link.number.toNat).state = .held ∧ (s.pool.entry s.link.number.toNat).marked = false ∧
           s.link.offset.toNat < (s.pool.entry s.link.number.toNat).capacity)) ∧
     (s.writable s.link.number.toNat s.link.offset.toNat = true →
       t.link.writeBehind = some ⟨s.link.number.toNat, s.link.offset.toNat, v⟩ ∧
       t.link.accessFault = s.link.accessFault) ∧
     (s.writable s.link.number.toNat s.link.offset.toNat = false →
       t.link.writeBehind = none ∧ t.link.accessFault = true) ∧
     t.link.offset = s.link.offset + 1 ∧ t.link.number = s.link.number ∧ t.link.readAhead = .discarded ∧
     t.link.mask = s.link.mask ∧ t.link.command = s.link.command ∧ SameExcept [.link] s t) ∧
  (∀ (v : Byte) (w : WriteBehind) (s : State), s.taking → s.linkPowered = true → s.memoryOk →
    s.link.transaction = .dataWrite → s.link.writeBehind = some w → ∃ t, exec (.dataWrite v) s = .next t ∧
      (∀ a, s.storeAddress w = some a → memRead t.pool.memory a = w.value ∧
        ∀ b, b ≠ a → memRead t.pool.memory b = memRead s.pool.memory b) ∧
      (s.storeAddress w = none → ∀ b, memRead t.pool.memory b = memRead s.pool.memory b) ∧
      (let accepted := s.writable s.link.number.toNat s.link.offset.toNat
       t.link.writeBehind = (if accepted then some ⟨s.link.number.toNat, s.link.offset.toNat, v⟩ else none) ∧
       t.link.accessFault = (s.link.accessFault ||
         decide (w.number ≠ 0 ∧ (s.pool.entry w.number).hostHeld = false) || !accepted)) ∧
      t.link.offset = s.link.offset + 1 ∧ t.link.number = s.link.number ∧ t.link.transaction = .dataWrite ∧
      t.link.readAhead = .discarded ∧ t.link.mask = s.link.mask ∧ t.link.command = s.link.command ∧
      t.pool.table = s.pool.table ∧ t.pool.orderQueue = s.pool.orderQueue ∧ t.pool.resultQueue = s.pool.resultQueue ∧
      t.pool.alertQueue = s.pool.alertQueue ∧ SameExcept [.link, .pool] s t) ∧
  (∀ (w : WriteBehind) (s : State), s.taking → s.linkPowered = true → s.memoryOk → s.link.writeBehind = some w →
    ∃ t, exec .spiTransactionEnd s = .next t ∧ t.link.writeBehind = none ∧
      (∀ a, s.storeAddress w = some a →
        memRead t.pool.memory a = w.value ∧
        ∀ b, b ≠ a → memRead t.pool.memory b = memRead s.pool.memory b) ∧
      (s.storeAddress w = none → ∀ b, memRead t.pool.memory b = memRead s.pool.memory b) ∧
      (w.number ≠ 0 → (s.pool.entry w.number).hostHeld = false → t.link.accessFault = true) ∧
      t.pool.table = s.pool.table ∧ t.pool.orderQueue = s.pool.orderQueue ∧ t.pool.resultQueue = s.pool.resultQueue ∧
      t.pool.alertQueue = s.pool.alertQueue ∧ SameExcept [.link, .pool] s t) ∧
  ∀ (a : Half) (s u : State), s.taking → s.linkPowered = true → exec .spiTransactionEnd s = .next u →
    exec (.allocate a) s = exec (.allocate a) u ∧
    exec (.takeResult a) s = exec (.takeResult a) u ∧ exec (.takeAlert a) s = exec (.takeAlert a) u ∧
    exec (.release a) s = exec (.release a) u ∧ ∀ v, exec (.selectWrite v) s = exec (.selectWrite v) u

/-! ## Immediate commands (R126 to R130) -/

/-- ALLOCATE: a count out of range, a LINK request that stands, or a new request (R126). A code that names no command is
refused ILLEGAL and changes only COMMAND; outside ACTIVE, with the link powered, every command is refused REFUSED_STATE
(R126, R175), an illegal code too (the model's choice, log entry 43). That the row begins its transaction itself is the
model's choice (log entry 22). -/
def Obligations.AllocateRequestsPagesAndRefusalsChangeOnlyTheirRecord : Prop :=
  (∀ (a : Half) (s : State), s.commandReady → ∃ t, exec (.allocate a) s = .next t ∧ SameExcept [.link, .pool] s t ∧
     (if a.toNat = 0 ∨ 2048 < a.toNat then t.shows 1 a .range ∧ t.pool = s.pool ∧ t.link.allocDone = s.link.allocDone
      else if s.pool.hasRequest .link then
        t.shows 1 a .refusedBusy ∧ t.pool = s.pool ∧ t.link.allocDone = s.link.allocDone
      else t.shows 1 a .pending ∧ t.link.allocDone = false ∧ t.pool.allocNumber = 0 ∧ t.pool.allocReason = .pending ∧
        t.pool.hasRequest .link = true ∧
        (t.pool.waitingLink = some ((a.toNat + 255) / 256) ∨
          t.pool.inProgress = some (.link, (a.toNat + 255) / 256)) ∧
        (s.pool.inProgress = none → s.pool.waitingAlert = false → s.pool.waitingSampler = none →
          t.pool.inProgress = some (.link, (a.toNat + 255) / 256)) ∧
        t.pool.table = s.pool.table ∧ t.pool.memory = s.pool.memory ∧ t.pool.orderQueue = s.pool.orderQueue ∧
        t.pool.resultQueue = s.pool.resultQueue ∧ t.pool.alertQueue = s.pool.alertQueue)) ∧
  (∀ (b : Byte) (a : Half) (s : State), s.commandReady → (b = 0 ∨ 6 ≤ b.toNat) →
    exec (.illegalCommand b a) s = .next { s with
      link := { s.link with transaction := .registerWrite, command := ⟨b, a, .illegal⟩ } }) ∧
  ∀ (a : Half) (s : State), s.linkSettled → s.sleep.power ≠ .active →
    ∀ code c, (code, c) ∈ [((1 : Byte), Instr.allocate a), (2, .submit a), (3, .takeResult a), (4, .takeAlert a),
        (5, .release a)] ∨ (code = 0 ∨ 6 ≤ code.toNat) ∧ c = .illegalCommand code a →
      exec c s = .next { s with
        link := { s.link with transaction := .registerWrite, command := ⟨code, a, .refusedState⟩ } }

/-- SUBMIT (R127), which takes every byte written before it: the write-behind byte is stored first (R136). That a SUBMIT
which comes while another transaction is open ends that transaction itself, with its store and its fresh read-ahead fetch,
and so answers as after SPI_TRANSACTION_END, is the model's choice (log entry 22); the first clause leaves out an open DATA
write, which the second covers. -/
def Obligations.SubmitQueuesAHeldBuffer : Prop :=
  (∀ (a : Half) (s : State), s.commandReady → ∃ t, exec (.submit a) s = .next t ∧ SameExcept [.link, .pool] s t ∧
    (if a.toNat = 0 ∨ 40 < a.toNat then t.shows 2 a .range ∧ t.pool = s.pool
     else if (s.pool.entry a.toNat).state ≠ .held ∨ (s.pool.entry a.toNat).marked = true then
       t.shows 2 a .refusedState ∧ t.pool = s.pool
     else t.shows 2 a .ok ∧ t.pool.orderQueue = s.pool.orderQueue ++ [a.toNat] ∧
       t.pool.entry a.toNat = { s.pool.entry a.toNat with state := .orderQueued, requester := .link } ∧
       (∀ n, n ≠ a.toNat → t.pool.entry n = s.pool.entry n) ∧ t.pool.memory = s.pool.memory ∧
       t.pool.resultQueue = s.pool.resultQueue ∧ t.pool.alertQueue = s.pool.alertQueue)) ∧
  ∀ (a : Half) (s u : State), s.taking → s.linkPowered = true → exec .spiTransactionEnd s = .next u →
    exec (.submit a) s = exec (.submit a) u

/-- TAKE_RESULT and TAKE_ALERT (R128), each against its own queue, with the outcome COMMAND shows (R175); that RANGE is
tested before REFUSED_EMPTY is read by inference (DEDUCED, log entry 23). WAKE_OUT is released by the TAKE_RESULT that
takes the wake completion; a TAKE_ALERT, a refused take and the take of another result leave the Sleep Controller as it
was (R159). -/
def Obligations.TakeCommandsRemoveTheHead : Prop :=
  (∀ (a : Half) (alert : Bool) (s : State), s.commandReady →
    (let code : Byte := if alert then 4 else 3
     let queue := if alert then s.pool.alertQueue else s.pool.resultQueue
     let c := if alert then Instr.takeAlert a else Instr.takeResult a
     ∃ t, exec c s = .next t ∧ SameExcept [.link, .pool, .sleep] s t ∧ (alert = true → t.sleep = s.sleep) ∧
       (if 2 ≤ a.toNat then t.shows code a .range ∧ t.pool = s.pool ∧ t.sleep = s.sleep
        else if queue = [] then t.shows code a .refusedEmpty ∧ t.pool = s.pool ∧ t.sleep = s.sleep
        else if a.toNat = 1 ∧ s.pool.hostRelease ≠ none then
          t.shows code a .refusedBusy ∧ t.pool = s.pool ∧ t.sleep = s.sleep
        else ∃ n rest, queue = n :: rest ∧
          (if alert then t.pool.alertQueue = rest ∧ t.pool.resultQueue = s.pool.resultQueue
           else t.pool.resultQueue = rest ∧ t.pool.alertQueue = s.pool.alertQueue) ∧
          t.pool.takenNumber = n ∧ t.pool.takenRequester = (s.pool.entry n).requester ∧
          t.pool.takenPages = (s.pool.entry n).pages.length ∧ t.pool.memory = s.pool.memory ∧
          (∀ m, m ≠ n → t.pool.entry m = s.pool.entry m) ∧
          (a.toNat = 0 → t.shows code a .ok ∧ t.pool.releaseList = s.pool.releaseList ∧
            (1 ≤ n → n ≤ 40 → t.pool.entry n = { s.pool.entry n with state := .held })) ∧
          (a.toNat = 1 → t.shows code a .pending ∧ t.pool.releaseList = s.pool.releaseList ++ [n] ∧
            t.pool.hostRelease = some n ∧
            (1 ≤ n → n ≤ 40 → t.pool.entry n = { s.pool.entry n with state := .held, marked := true }))))) ∧
  ∀ (a : Half) (n : Nat) (rest : List Nat) (s : State), s.commandReady → s.pool.resultQueue = n :: rest →
    a.toNat < 2 → (a.toNat = 1 → s.pool.hostRelease = none) →
    ∃ t, exec (.takeResult a) s = .next t ∧
      (n ≠ 0 → s.sleep.wakeCompletion = n → t.sleep = { s.sleep with wakeOut := false, wakeCompletion := 0 }) ∧
      (s.sleep.wakeCompletion ≠ n → t.sleep = s.sleep)

/-- RELEASE (R130): its four tests in order, and OK when the release completes. -/
def Obligations.ReleaseBeginsAHostRelease : Prop :=
  ∀ (a : Half) (s : State), s.commandReady → ∃ t, exec (.release a) s = .next t ∧ SameExcept [.link, .pool] s t ∧
    (if a.toNat = 0 ∨ 40 < a.toNat then t.shows 5 a .range ∧ t.pool = s.pool
     else if s.pool.hostRelease ≠ none then t.shows 5 a .refusedBusy ∧ t.pool = s.pool
     else if (s.pool.entry a.toNat).state ≠ .held ∨ (s.pool.entry a.toNat).marked = true then
       t.shows 5 a .refusedState ∧ t.pool = s.pool
     else t.shows 5 a .pending ∧ t.pool.releaseList = s.pool.releaseList ++ [a.toNat] ∧
       t.pool.hostRelease = some a.toNat ∧
       t.pool.entry a.toNat = { s.pool.entry a.toNat with state := .held, marked := true } ∧
       (∀ n, n ≠ a.toNat → t.pool.entry n = s.pool.entry n) ∧ t.pool.memory = s.pool.memory ∧
       t.pool.orderQueue = s.pool.orderQueue ∧ t.pool.resultQueue = s.pool.resultQueue ∧
       t.pool.alertQueue = s.pool.alertQueue ∧
       (s.pool.releaseList = [] → s.sleep.phase ≠ .entryRelease → ∃ u, exec .releaseComplete t = .next u ∧
         u.shows 5 a .ok ∧ (u.pool.entry a.toNat).state = .free ∧ u.pool.hostRelease = none))

/-- The completion of an allocation (R123): the tests in order, then the lowest free number and the lowest free pages,
zeroed; the outcome goes to the requester: ALLOC_RESULT and ALLOC_DONE for LINK (R126), the frame's result buffer or the
count of dropped frames for SAMPLER (R31), the record to write or the loss of the oldest alert for ALERT (R142, R144).
The arbiter then grants the next request by the rank ALERT, SAMPLER, LINK, the others waiting on (R122), and COMMAND
goes from PENDING to OK where ALLOCATE is still the last command (R126). A SAMPLER completion is shown while the list
still runs; `FramesEndWithTheirResult` shows it at an ended list (R38). That the Alert Writer's next request after a
failed allocation of its own takes part in the grant is the model's choice (log entry 49). The completion of the oldest
release (R124), with the host release mark cleared and COMMAND going from PENDING to OK where the release was its
command's (R125, R126). -/
def Obligations.AllocationsAndReleasesComplete : Prop :=
  (∀ (r : Requester) (n : Nat) (s : State), s.taking → s.workIdle → s.memoryOk →
    s.pool.inProgress = some (r, n) →
    (r = .sampler → ∀ f, s.seq.frame = some f → f.phase ≠ .ended) →
    ∃ t, exec .allocationComplete s = .next t ∧ SameExcept [.pool, .link, .seq, .alerts] s t ∧
      (let failure := s.pool.allocFailure r n s.profile.alertReserve
       (failure = if s.pool.freeNumberCount < (if r = .alert then 1 else 5) then some .noNumber
         else if s.pool.freePageCount < (if r = .alert then 1 else n + s.profile.alertReserve) then some .noPages
         else none) ∧
       (∀ reason, failure = some reason →
         t.pool.table = s.pool.table ∧ t.pool.memory = s.pool.memory ∧
         (r = .link → t.pool.allocNumber = 0 ∧ t.pool.allocReason = reason ∧ t.link.allocDone = true) ∧
         (r = .sampler → t.seq = { s.seq with
           droppedFrames := min 65535 (s.seq.droppedFrames + 1)
           frame := s.seq.frame.map fun f => { f with result := .dropped } }) ∧
         (r = .alert → ∀ x rest, s.alerts.pending = x :: rest → t.link.alertLost = true ∧ t.alerts = { s.alerts with
           pending := rest, lostCount := min 65535 (s.alerts.lostCount + 1)
           firstLost := if s.alerts.lostCount = 0 then some x.kind else s.alerts.firstLost })) ∧
       (failure = none → ∃ number, s.pool.freeNumbers.head? = some number ∧
         t.pool.entry number =
           ⟨if r = .link then .held else .filling, s.pool.freePages.take n, r, false⟩ ∧
         (∀ m, m ≠ number → t.pool.entry m = s.pool.entry m) ∧
         (∀ a, a / 256 ∈ s.pool.freePages.take n → memRead t.pool.memory a = 0) ∧
         (∀ a, a / 256 ∉ s.pool.freePages.take n → memRead t.pool.memory a = memRead s.pool.memory a) ∧
         (r = .link → t.pool.allocNumber = number ∧ t.pool.allocReason = .noReason ∧ t.link.allocDone = true) ∧
         (r = .sampler → t.seq = { s.seq with
           frame := s.seq.frame.map fun f => { f with result := .granted number } }) ∧
         (r = .alert → ∀ x rest, s.alerts.pending = x :: rest →
           t.alerts = { s.alerts with pending := rest, writing := some (number, x) } ∧ t.link = s.link)) ∧
       (let next : Prop := s.pool.waitingAlert = true ∨
          r = .alert ∧ failure ≠ none ∧ s.alerts.writing = none ∧ 2 ≤ s.alerts.pending.length
        t.pool.waitingAlert = false ∧
        (next → t.pool.inProgress = some (.alert, 1) ∧ t.pool.waitingSampler = s.pool.waitingSampler ∧
          t.pool.waitingLink = s.pool.waitingLink) ∧
        (¬ next → ∀ k, s.pool.waitingSampler = some k → t.pool.inProgress = some (.sampler, k) ∧
          t.pool.waitingSampler = none ∧ t.pool.waitingLink = s.pool.waitingLink) ∧
        (¬ next → s.pool.waitingSampler = none → t.pool.inProgress = s.pool.waitingLink.map (Requester.link, ·) ∧
          t.pool.waitingSampler = none ∧ t.pool.waitingLink = none)) ∧
       (r = .link → t.link = { s.link with
         allocDone := true
         command := if s.link.command.code = 1 ∧ s.link.command.outcome = .pending then
           { s.link.command with outcome := .ok } else s.link.command }) ∧
       (r ≠ .sampler → t.seq = s.seq) ∧ (r ≠ .alert → t.alerts = s.alerts) ∧ (r = .sampler → t.link = s.link))) ∧
  ∀ (n : Nat) (rest : List Nat) (s : State), s.taking → s.pool.releaseList = n :: rest →
    s.sleep.phase ≠ .entryRelease → (1 ≤ n ∧ n ≤ 40) →
    ∃ t, exec .releaseComplete s = .next t ∧ t.pool.releaseList = rest ∧
      t.pool.entry n = { s.pool.entry n with state := .free, pages := [], marked := false } ∧
      (∀ m, m ≠ n → t.pool.entry m = s.pool.entry m) ∧ t.pool.memory = s.pool.memory ∧
      t.pool.hostRelease = (if s.pool.hostRelease = some n then none else s.pool.hostRelease) ∧
      t.link = (if s.pool.hostRelease = some n ∧ s.link.command.code ∈ [(3 : Byte), 4, 5] ∧
          s.link.command.outcome = .pending then
        { s.link with command := { s.link.command with outcome := .ok } } else s.link) ∧
      t.pool.inProgress = s.pool.inProgress ∧ t.pool.waitingAlert = s.pool.waitingAlert ∧
      t.pool.waitingSampler = s.pool.waitingSampler ∧ t.pool.waitingLink = s.pool.waitingLink ∧
      t.pool.orderQueue = s.pool.orderQueue ∧ t.pool.resultQueue = s.pool.resultQueue ∧
      t.pool.alertQueue = s.pool.alertQueue ∧ SameExcept [.pool, .link] s t

/-! ## Orders (R139 to R141 and the owners' rules) -/

/-- R139 and R140 at the examination: an unknown kind completes ILLEGAL_ORDER, a header that fails its check completes
MALFORMED, and a known kind whose slot is occupied stays at the head. The kinds have the codes 1 to 19 and the body
lengths of R176, and the header checks come in their order. Each order row is the examination that finds an order of its
kind at the head; with a head of another kind the row does nothing (the model's choice, log entry 10). -/
def Obligations.ExaminationJudgesTheHead : Prop :=
  (∀ (k : OrderKind) (s : State), s.taking → s.workIdle →
    (s.headOrder.map Prod.snd = some (some k) →
      exec (s.orderRow k) s = exec (.orderHeadExamine s.inputs.pins.wakeIn s.inputs.pins.tamperIn) s) ∧
    (s.headOrder.map Prod.snd ≠ some (some k) → exec (s.orderRow k) s = .next s)) ∧
  (∀ (w d : Bool) (n : Nat) (s : State), s.activeNow = true → s.pool.orderQueue.head? = some n → (1 ≤ n ∧ n ≤ 40) →
    s.workIdle → s.memoryOk → s.pool.sound n →
    (orderKindOf (s.orderByte n 0) = none → ∃ t, exec (.orderHeadExamine w d) s = .next t ∧
      Completed s t n .illegalOrder (BitVec.ofNat 32 (s.orderByte n 0)) 0 ∧
      t.pool.orderQueue = s.pool.orderQueue.tail ∧ SameExcept [.inputs, .pool] s t) ∧
    ∀ k, orderKindOf (s.orderByte n 0) = some k →
      (s.slotFree k = false → ∃ t, exec (.orderHeadExamine w d) s = .next t ∧ SameExcept [.inputs] s t) ∧
      (s.slotFree k = true → s.headerCheck n k ≠ 0 → ∃ t, exec (.orderHeadExamine w d) s = .next t ∧
        Completed s t n .malformed (BitVec.ofNat 32 (s.headerCheck n k + 65536 * s.orderHalf n 4)) 0 ∧
        t.pool.orderQueue = s.pool.orderQueue.tail ∧ SameExcept [.inputs, .pool] s t)) ∧
  (∀ (code : Nat) (k : OrderKind),
    (orderKindOf code = some k ↔ 1 ≤ code ∧ (orderTable[code - 1]?).map Prod.fst = some k) ∧
    ∀ least most length, orderTable[code - 1]? = some (k, least, most) →
      (bodyLengthOk k length = true ↔ least ≤ length ∧ length ≤ most)) ∧
  ∀ (s : State) (n : Nat) (k : OrderKind),
    (s.headerCheck n k = 1 ↔ 2 ≤ s.orderByte n 1) ∧
    (s.headerCheck n k = 2 ↔ s.orderByte n 1 < 2 ∧ bodyLengthOk k (s.orderHalf n 4) = false) ∧
    (s.headerCheck n k = 3 ↔ s.orderByte n 1 < 2 ∧ bodyLengthOk k (s.orderHalf n 4) = true ∧
      (s.pool.entry n).capacity < 16 + s.orderHalf n 4) ∧
    (s.headerCheck n k = 0 ↔ s.orderByte n 1 < 2 ∧ bodyLengthOk k (s.orderHalf n 4) = true ∧
      16 + s.orderHalf n 4 ≤ (s.pool.entry n).capacity)

/-- ENUMERATE_CHAIN (R16): with the sampler stopped the table is reset and the status RUNNING, and a FORGET leaves port
A at once, or the order waits for the engine or for the port; else REFUSED_STATE. An ENUMERATE answered by ACK sets the
found count, counts the attempts held against the node that answered, and reads its identity at once; an accepted
identity makes the entry of a declared node, and one not accepted or not read marks its node; then the next address
follows, and after address 20 the end of the assignment, as after an ENUMERATE that fails (R7, R17). In ring mode that
end sends the KEEPALIVE whose return or watch gives the ring state, with CHAIN_BREAK where it differs from the one
before; then, and in open-ended mode at once, the chain is compared with the profile: MATCHED, MISMATCHED with its
alert, or NEEDED where the profile changed meanwhile (R18). The time of an expiry, the kind numbers, the packing of
payload and detail, the bad replies that R182 leaves open, the value of an offset that its byte cannot hold, and an
identity of other than four words are the model's (log entries 5, 6, 17, 18, 39 and 42); that held attempts count at the
node's answer is read by inference (DEDUCED, log entry 20). -/
def Obligations.EnumerateChainResetsTheTable : Prop :=
  (∀ (n : Nat) (s : State), s.orderTaken n .enumerateChain → s.memoryOk → s.pool.sound n →
    ((s.seq.sampler = .stopped ∨ s.seq.sampler = .halted) → s.onlyOrderWaits →
      ∃ t, exec .enumerateChain s = .next t ∧ InService s t n ∧ SameExcept [.pool, .chain] s t ∧
        (let taken : Chain := { s.chain with
           nodes := Vector.replicate 20 .reset, found := 0, enumStatus := .running
           slot := some ⟨n, .forget .a, s.chain.ringState, [], false⟩ }
         (s.chain.engine = none → s.chain.quietA = none → t.chain = { taken with
           engine := some ⟨.order, .forget, .a, .sending, 0, s.profile.replyTimeout, 0, 0, .noError⟩
           txTimer := some 15, replyTimer := none, watchTimer := none, idleTimer := none, waitTimer := none }) ∧
         (s.chain.engine ≠ none ∨ s.chain.quietA ≠ none →
           t.chain = { taken with waitTimer := some 2000000 }))) ∧
    ((s.seq.sampler = .waiting ∨ s.seq.sampler = .running) → s.workIdle →
      ∃ t, exec .enumerateChain s = .next t ∧ Completed s t n .refusedState 0 0 ∧ SameExcept [.pool] s t)) ∧
  ∀ (n : Nat) (e : Engine) (o : ChainOrder) (s : State), s.taking → s.onlyOrderWaits → s.chain.engine = some e →
      e.requester = .order → s.chain.slot = some o →
      (let grants : Prop := s.seq.sampler ≠ .running ∧ s.sleep.power ≠ .asleep ∧ s.chain.quietA = none
       let awaits : Prop := e.phase = .awaiting ∨ e.phase = .receiving
       let others (u t : State) : Prop := ∀ m, m ≠ n → t.chain.node m = u.chain.node m
       let kept (t : State) : Prop := t.chain.found = s.chain.found ∧ t.chain.ringMode = s.chain.ringMode
       (∀ bytes, e.frame = .enumerate n → o.job = .assign n → (1 ≤ n ∧ n ≤ 20) → grants → awaits →
         judgeReply e.frame bytes = some .ack →
         (let x := s.chain.node n
          ∃ t, exec (.replyReceived e.port bytes) s = .next t ∧ t.chain.found = n ∧
           t.chain.slot = some { o with job := .identity n } ∧
           t.granted = some (.order, .read n .identity 4, .a, s.profile.retryLimit) ∧
           t.chain.node n = { x with
             crcCount := min 15 (x.crcCount + e.crcHeld), timeoutCount := min 15 (x.timeoutCount + e.timeoutHeld)
             lastError := if e.lastHeld = .noError then x.lastError else e.lastHeld } ∧ others s t ∧
           t.transit.alerts = s.transit.alerts ++
             (if x.crcCount < 15 ∧ 15 ≤ x.crcCount + e.crcHeld then
               [(.nodeCounterFull, [BitVec.ofNat 8 n, 0])] else []) ++
             (if x.timeoutCount < 15 ∧ 15 ≤ x.timeoutCount + e.timeoutHeld then
               [(.nodeCounterFull, [BitVec.ofNat 8 n, 1])] else []) ∧
           t.chain.enumStatus = s.chain.enumStatus ∧ t.chain.ringState = s.chain.ringState ∧
           SameExcept [.chain, .transit] s t)) ∧
       (e.frame = .read n .identity 4 → o.job = .identity n → (1 ≤ n ∧ n ≤ 20) → grants →
         (let marked : ChainOrder := { o with badIdentity := o.badIdentity ++ [n] }
          (∀ bytes tag busy, ∀ w cells temps offset : Half, awaits →
            judgeReply e.frame bytes = some (.data tag busy [w, cells, temps, offset]) →
            (1 ≤ cells.toNat ∧ cells.toNat ≤ 16) → temps.toNat ≤ 4 →
            ∃ t, exec (.replyReceived e.port bytes) s = .next t ∧
              (n ≤ s.profile.declared → t.chain.node n = { s.chain.node n with
                state := .present, path := .pathA, hops := n, cells := cells.toNat, temps := temps.toNat,
                offset := (t.chain.node n).offset, lastGood := s.seq.frameNumber }) ∧
              (n ≤ s.profile.declared → offset.toNat ≤ 255 → (t.chain.node n).offset = offset.toNat) ∧
              (s.profile.declared < n → t.chain.node n = s.chain.node n) ∧ others s t ∧ kept t ∧
              s.assignmentFollows t o n s.transit.alerts ∧ (n < 20 → SameExcept [.chain] s t) ∧
              SameExcept [.pool, .chain, .transit] s t) ∧
          (∀ bytes tag busy words, awaits → judgeReply e.frame bytes = some (.data tag busy words) →
            (words.length ≠ 4 ∨ ∃ w cells temps offset : Half, words = [w, cells, temps, offset] ∧
              (cells.toNat = 0 ∨ 16 < cells.toNat ∨ 4 < temps.toNat)) →
            ∃ t, exec (.replyReceived e.port bytes) s = .next t ∧ t.chain.nodes = s.chain.nodes ∧ kept t ∧
              s.assignmentFollows t marked n s.transit.alerts ∧ (n < 20 → SameExcept [.chain] s t) ∧
              SameExcept [.pool, .chain, .transit] s t) ∧
          (∀ bytes badValue, awaits → judgeReply e.frame bytes = some (.nack badValue) →
            ∃ t, exec (.replyReceived e.port bytes) s = .next t ∧ t.chain.node n = { s.chain.node n with
                lastError := if badValue then .nackBadValue else .nackBadBlock } ∧ others s t ∧ kept t ∧
              s.assignmentFollows t marked n s.transit.alerts ∧ SameExcept [.pool, .chain, .transit] s t) ∧
          ∀ c u crc, s.lastAttemptFails e c u crc → ∃ t, exec c s = .next t ∧
            t.chain.node n = (u.chain.node n).attempted crc ∧ others u t ∧ kept t ∧
            u.assignmentFollows t marked n (u.transit.alerts ++ (u.chain.node n).fullAlert n crc) ∧
            SameExcept [.pool, .chain, .transit] u t)) ∧
       (e.frame = .enumerate n → o.job = .assign n → (s.chain.ringMode = true → grants) →
         ∀ c u crc, s.lastAttemptFails e c u crc → ∃ t, exec c s = .next t ∧ t.chain.nodes = s.chain.nodes ∧
           kept t ∧ t.chain.ringState = s.chain.ringState ∧ t.chain.breakPos = s.chain.breakPos ∧
           u.assignmentOver t o s.transit.alerts ∧ SameExcept [.pool, .chain, .transit] u t) ∧
       ∀ r, e.frame = .keepalive → e.phase = .watching → o.job = .ringTest → s.chain.watchTimer = some r →
         (∃ t, exec (.ringFrameReturn e.frame.bytes) s = .next t ∧ t.chain.ringState = .closed ∧
           t.chain.breakPos = 0 ∧ t.chain.nodes = s.chain.nodes ∧ kept t ∧
           s.compared t o (s.transit.alerts ++
             if o.ringBefore = .closed then [] else [(.chainBreak, [0, 0])]) ∧
           SameExcept [.pool, .chain, .transit] s t) ∧
         ∃ t, exec .ringWatchExpiry s = .next t ∧ t.chain.ringState = .opened ∧ t.chain.breakPos = s.chain.found ∧
           t.chain.nodes = s.chain.nodes ∧ kept t ∧
           (s.elapse r).compared t o (s.transit.alerts ++ if o.ringBefore = .opened then []
             else [(.chainBreak, [1, BitVec.ofNat 8 s.chain.found])]) ∧
           SameExcept [.pool, .chain, .transit] (s.elapse r) t)

/-- READ_CHAIN_STATUS: the header and as many whole entries of the Node Table as the room holds, TRUNCATED when an entry
is left out, then the clear, which leaves the rest of the chain (R23, R177). SNAPSHOT_HISTORY: RANGE, or the selected
entries, as many whole ones as fit, oldest first, each field of an entry at its offset in 16 bytes (R57, R58, R177). -/
def Obligations.AnsweringOrdersFillTheirRoom : Prop :=
  (∀ (n : Nat) (s : State), s.orderTaken n .readChainStatus → s.memoryOk → s.pool.sound n → s.workIdle →
     ∃ t, exec .readChainStatus s = .next t ∧
       Completed s t n .ok 0 (if (s.answerRoom n - 8) / 12 < 20 then 2 else 0) ∧
       t.orderByte n 16 = (if s.chain.ringMode then 0 else 1) ∧ t.orderByte n 17 = ringStateCode s.chain.ringState ∧
       t.orderByte n 18 = s.chain.breakPos % 256 ∧ t.orderByte n 19 = s.chain.found % 256 ∧
       t.orderByte n 20 = enumStatusCode s.chain.enumStatus ∧
       (∀ i, 21 ≤ i → i < 24 → t.orderByte n i = 0) ∧
       (∀ m, 1 ≤ m → m ≤ 20 → 8 + 12 * m ≤ s.answerRoom n →
         (let e := s.chain.node m
          let base := 24 + 12 * (m - 1)
          t.orderByte n base = nodeStateCode e.state ∧ t.orderByte n (base + 1) = pathCode e.path ∧
          t.orderByte n (base + 2) = e.hops % 256 ∧ t.orderByte n (base + 3) = e.cells % 256 ∧
          t.orderByte n (base + 4) = e.temps % 256 ∧ t.orderByte n (base + 5) = e.offset % 256 ∧
          t.orderByte n (base + 6) = e.failedFrames % 256 ∧ t.orderByte n (base + 7) = e.crcCount % 256 ∧
          t.orderByte n (base + 8) = e.timeoutCount % 256 ∧ t.orderByte n (base + 9) = lastErrorCode e.lastError ∧
          t.orderHalf n (base + 10) = e.lastGood.toNat)) ∧
       (s.body8 n 0 % 2 = 0 → t.chain = s.chain) ∧
       (s.body8 n 0 % 2 = 1 → t.chain = { s.chain with nodes := t.chain.nodes } ∧
         ∀ m, t.chain.node m = { s.chain.node m with crcCount := 0, timeoutCount := 0 }) ∧
       SameExcept [.pool, .chain] s t) ∧
  (∀ e : HistoryEntry, -2 ^ 31 ≤ e.current → e.current < 2 ^ 31 → e.packMv < 2 ^ 24 → e.linkMv < 2 ^ 24 →
    (let b := e.bytes
     b.length = 16 ∧ u32 b 0 = e.tag.toNat ∧ ofLeSigned (slice b 4 4) = e.current ∧
     u16 b 8 + 65536 * u8 b 10 = e.packMv ∧ u8 b 11 = (if e.iSat then 1 else 0) + (if e.vSat then 2 else 0) ∧
     u16 b 12 + 65536 * u8 b 14 = e.linkMv ∧ u8 b 15 = 0)) ∧
  ∀ (n : Nat) (s : State), s.orderTaken n .snapshotHistory → s.memoryOk → s.pool.sound n →
    s.workIdle → s.historyBounded →
    ∃ t, exec .snapshotHistory s = .next t ∧ SameExcept [.pool] s t ∧
      (if 128 < s.body16 n 0 then Completed s t n .range 0 0
       else
        let selected := if s.body16 n 0 = 0 then s.sensing.history
          else s.sensing.history.drop (s.sensing.history.length - s.body16 n 0)
        let written := selected.take ((s.answerRoom n - 8) / 16)
        let answer := leBytes 4 s.clock.packTime.toNat ++ [BitVec.ofNat 8 s.sensing.history.length,
          BitVec.ofNat 8 selected.length, BitVec.ofNat 8 written.length, 0] ++
          (written.map HistoryEntry.bytes).flatten
        Completed s t n .ok (BitVec.ofNat 32 (selected.length + 65536 * written.length))
          (if written.length < selected.length then 2 else 0) ∧
        ∀ i, i < answer.length → t.pool.readBuffer n (16 + i) = (answer[i]?).getD 0)

/-- READ_NODE and WRITE_NODE (R20 to R22): the tests in order; a request that passes waits in the slot for its one
transaction, which is granted at once with the engine free, and then leaves on the port of the node's path, with the
retry limit, or with one attempt alone for a LOST node (R9); a node with path NONE, when the request is granted at once,
completes it TIMEOUT with NO_REPLY without a frame being sent. The detail code 2 of NO_REPLY is the model's (log entry
17), and so is the wait for a port in its quiet time (DEDUCED, log entry 16). -/
def Obligations.NodeOrdersAreTestedThenWait : Prop :=
  ∀ (n : Nat) (s : State), s.memoryOk → s.pool.sound n → s.onlyOrderWaits →
    (s.orderTaken n .readNode → ∃ t, exec .readNode s = .next t ∧
      (let a := s.body8 n 0
       let x := s.chain.node a
       if a = 0 ∨ 20 < a ∨ 4 ≤ s.body8 n 1 ∨ s.body8 n 2 = 0 ∨ 16 < s.body8 n 2 then
        Completed s t n .range 0 0 ∧ SameExcept [.pool] s t
      else if x.state = .absent then Completed s t n .refusedState 0 0 ∧ SameExcept [.pool] s t
      else if x.path = .noPath ∧ s.chain.engine = none ∧ s.seq.sampler ≠ .running then
        Completed s t n .timeout 2 0 ∧ t.chain = { s.chain with slot := none, waitTimer := none } ∧
        SameExcept [.pool, .chain] s t
      else ∃ b, blockOf (s.body8 n 1) = some b ∧ InService s t n ∧ SameExcept [.pool, .chain] s t ∧
        s.chainOrderHeld t n (.readNode a b (s.body8 n 2)) (.read a b (s.body8 n 2)) x)) ∧
    (s.orderTaken n .writeNode → ∃ t, exec .writeNode s = .next t ∧
      (let a := s.body8 n 0
       let x := s.chain.node a
       if a = 0 ∨ 20 < a ∨ 4 ≤ s.body8 n 1 then
        Completed s t n .range 0 0 ∧ SameExcept [.pool] s t
      else if x.state = .absent then Completed s t n .refusedState 0 0 ∧ SameExcept [.pool] s t
      else if x.path = .noPath ∧ s.chain.engine = none ∧ s.seq.sampler ≠ .running then
        Completed s t n .timeout 2 0 ∧ t.chain = { s.chain with slot := none, waitTimer := none } ∧
        SameExcept [.pool, .chain] s t
      else ∃ b, blockOf (s.body8 n 1) = some b ∧ InService s t n ∧ SameExcept [.pool, .chain] s t ∧
        s.chainOrderHeld t n (.writeNode a b (BitVec.ofNat 16 (s.body16 n 2)))
          (.write a b (BitVec.ofNat 16 (s.body16 n 2))) x))

/-- START_SAMPLING and SINGLE_FRAME start a frame at once (R30, R40, R42); shown where the list's first element is a
legal CONVERT and the engine is busy, so that the frame stands at its first element. The tests of START_SAMPLING,
SINGLE_FRAME and SELECT_LIST in their order (R40, R42, R43), the range being slot 0 or 1 and indexes up to 31 in order, and
the period 0 for the profile's or clamped to 10 to 1,000 ms; STOP_SAMPLING by the sampler state (R41), and an accepted
SELECT_LIST (R43). The frame start sizes its result by the range and the Node Table and asks for its pages (R31). -/
def Obligations.SamplingOrdersStartAFrameOrFollowTheSampler : Prop :=
  (∀ (n i first last : Nat) (slot : Slot) (s : State), s.rangeOf n i = some (slot, first, last) ↔
    s.body8 n i = (if slot = .slotA then 0 else 1) ∧ first = s.body8 n (i + 1) ∧ last = s.body8 n (i + 2) ∧
    first ≤ last ∧ last ≤ 31) ∧
  (∀ (n first last : Nat) (slot : Slot) (s : State), s.memoryOk → s.pool.sound n →
     s.rangeOf n 0 = some (slot, first, last) → s.chain.enumStatus = .matched → s.chain.engine.isSome = true →
     s.seq.pendingSwitch = none →
     (elementOf (s.elementBytes slot first)).kind = 1 → (elementOf (s.elementBytes slot first)).trapReason = 0 →
     (s.orderTaken n .startSampling → (s.seq.sampler = .stopped ∨ s.seq.sampler = .halted) →
       (let asked := s.body32 n 4
        let period := if asked = 0 then s.profile.defaultPeriod else min 1000 (max 10 asked)
        ∃ t, exec .startSampling s = .next t ∧
         Completed s t n .ok (BitVec.ofNat 32 ((s.seq.frameNumber + 1).toNat + 65536 * (period % 65536)))
           (if asked ≠ 0 ∧ (asked < 10 ∨ 1000 < asked) then 1 else 0) ∧
         t.seq.sampler = .running ∧ t.seq.frameNumber = s.seq.frameNumber + 1 ∧
         t.seq.tag = (s.seq.frameNumber + 1).setWidth 8 ∧ t.seq.frameStart = s.clock.packTime ∧
         t.seq.activeSlot = some slot ∧ t.seq.first = first ∧ t.seq.last = last ∧ t.seq.period = period ∧
         t.seq.frameTimer = some (1000 * period) ∧ t.seq.startDue = false ∧ t.table = FrameTable.reset ∧
         (∀ m, (t.chain.node m).failedMark = false) ∧ s.frameSized t slot first last ∧
         SameExcept [.pool, .chain, .seq, .table, .transit] s t)) ∧
     (s.orderTaken n .singleFrame → s.seq.sampler = .stopped →
       ∃ t, exec .singleFrame s = .next t ∧ InService s t n ∧ t.seq.slot = some (.single n) ∧
         t.seq.sampler = .running ∧ t.seq.frameNumber = s.seq.frameNumber + 1 ∧
         t.seq.frameStart = s.clock.packTime ∧ t.seq.activeSlot = some slot ∧ t.seq.first = first ∧ t.seq.last = last ∧
         t.seq.frameTimer = s.seq.frameTimer ∧ t.table = FrameTable.reset ∧ s.frameSized t slot first last ∧
         SameExcept [.pool, .chain, .seq, .table, .transit] s t)) ∧
  (∀ (n : Nat) (s : State), s.memoryOk → s.pool.sound n → s.workIdle →
    (s.orderTaken n .startSampling →
      ((s.seq.sampler = .waiting ∨ s.seq.sampler = .running) ∨ s.rangeOf n 0 = none ∨
        s.chain.enumStatus ≠ .matched) →
      ∃ t, exec .startSampling s = .next t ∧ Completed s t n
        (if s.seq.sampler = .waiting ∨ s.seq.sampler = .running then .refusedState
         else if s.rangeOf n 0 = none then .range else .chainIncomplete) 0 0 ∧ SameExcept [.pool] s t) ∧
    (s.orderTaken n .singleFrame →
      (s.seq.sampler ≠ .stopped ∨ s.rangeOf n 0 = none ∨ s.chain.enumStatus ≠ .matched) →
      ∃ t, exec .singleFrame s = .next t ∧ Completed s t n
        (if s.seq.sampler ≠ .stopped then .refusedState
         else if s.rangeOf n 0 = none then .range else .chainIncomplete) 0 0 ∧ SameExcept [.pool] s t) ∧
    (s.orderTaken n .selectList →
      ((s.seq.sampler = .stopped ∨ s.seq.sampler = .halted) ∨ s.rangeOf n 0 = none) →
      ∃ t, exec .selectList s = .next t ∧ Completed s t n
        (if s.seq.sampler = .stopped ∨ s.seq.sampler = .halted then .refusedState else .range) 0 0 ∧
        SameExcept [.pool] s t)) ∧
  ∀ (n : Nat) (s : State), s.memoryOk → s.pool.sound n → s.workIdle →
    (s.orderTaken n .stopSampling → s.seq.sampler ≠ .running →
      ∃ t, exec .stopSampling s = .next t ∧ Completed s t n .ok (BitVec.ofNat 32 s.seq.frameNumber.toNat) 0 ∧
        t.seq.sampler = .stopped ∧
        (s.seq.sampler ≠ .stopped →
          t.seq.frameTimer = none ∧ t.seq.startDue = false ∧ t.seq.activeSlot = none) ∧
        (s.seq.sampler = .stopped → t.seq = s.seq) ∧ t.seq.frameNumber = s.seq.frameNumber ∧
        SameExcept [.pool, .seq, .transit] s t) ∧
    (s.orderTaken n .stopSampling → s.seq.sampler = .running →
      ∃ t, exec .stopSampling s = .next t ∧ InService s t n ∧ t.seq = { s.seq with slot := some (.stop n) } ∧
        SameExcept [.pool, .seq] s t) ∧
    ∀ slot first last, s.orderTaken n .selectList → (s.seq.sampler = .waiting ∨ s.seq.sampler = .running) →
      s.rangeOf n 0 = some (slot, first, last) →
      ∃ t, exec .selectList s = .next t ∧ InService s t n ∧
        t.seq = { s.seq with pendingSwitch := some ⟨slot, first, last⟩, slot := some (.select n) } ∧
        SameExcept [.pool, .seq] s t

/-- CLEAR_TRIPS (R91, R115): each named latch whose cause is gone, by R76's column 'cause present while', is cleared,
the CONTACTOR bit is then handed over, and the detail word names what remains. Where the clearing deasserts the kill
gate, an assertion that still waits for the sequencer has been taken before it (DEDUCED, log entry 46). -/
def Obligations.ClearTripsClearsWhatItCan : Prop :=
  ∀ (n : Nat) (d : Bool) (s : State), s.orderTaken n .clearTrips → s.memoryOk → s.pool.sound n → s.workIdle →
    ∃ t, exec (.clearTrips d) s = .next t ∧ SameExcept [.inputs, .pool, .prot, .cont, .transit] s t ∧
      (let u := if s.killGate = true ∧ t.killGate = false then s.takeWaitingKill else s
       if 4096 ≤ s.body32 n 0 then Completed s t n .range 0 0 ∧ t.prot = s.prot ∧ t.cont = s.cont
       else
        t.prot.counters = s.prot.counters ∧ t.prot.stale = s.prot.stale ∧
        (∀ k, ((s.body32 n 0).testBit (tripKindCode k) = true → ¬ s.causeStands d k → t.prot.latch k = none) ∧
          ((s.body32 n 0).testBit (tripKindCode k) = false ∨ s.causeStands d k →
            t.prot.latch k = s.prot.latch k)) ∧
        (true ∉ s.transit.killEdges → u = s) ∧
        ((s.body32 n 0).testBit 11 = false → t.cont = u.cont) ∧
        ((s.body32 n 0).testBit 11 = true → u.cont.state ≠ .faulted → t.cont = u.cont) ∧
        ((s.body32 n 0).testBit 11 = true → u.cont.state = .faulted →
          (u.cont.aux = ⟨false, false, false⟩ → t.killGate = false →
            t.cont = { u.cont with
              state := .opened, faults := 0, weldUnchecked := false, watches := t.cont.watches } ∧
            t.watchesAfresh ∧ t.transit.openReports = u.transit.openReports ++ [false]) ∧
          (u.cont.aux ≠ ⟨false, false, false⟩ ∨ t.killGate = true → t.cont = u.cont)) ∧
        ∃ r : Word, Completed u t n (if r = 0 then .ok else .stillActive) r 0 ∧ r.toNat < 4096 ∧
          (∀ k, r.getLsbD (tripKindCode k) =
            ((s.body32 n 0).testBit (tripKindCode k) && (t.prot.latch k).isSome)) ∧
          r.getLsbD 11 = ((s.body32 n 0).testBit 11 && t.cont.state == .faulted))

/-- CLOSE_PACK (R99): the four tests in order, each with its detail word (the mask has the bit of each kind whose latch
holds an opening action), the start of the close with every watch restarted (R97), and a second CLOSE_PACK waiting at
the head. The detail words are the model's: the code 2 of KILL (log entry 15), the packing by R174 of state with aux
levels and of KILL with SAFE_OPEN (DEDUCED, log entry 18), the three levels in bits 0 to 2 of one byte (log entry 58),
and a time since the last evaluation that counts modulo 2^32 µs (log entry 37). -/
def Obligations.ClosePackIsTestedThenCloses : Prop :=
  (∀ (n : Nat) (s : State), s.orderTaken n .closePack → s.memoryOk → s.pool.sound n → s.workIdle →
    ∃ t, exec .closePack s = .next t ∧
      ∃ mask : Word, mask.toNat < 2048 ∧ (∀ k, mask.getLsbD (tripKindCode k) = true ↔
        s.prot.latch k = some .orderlyOpen ∨ s.prot.latch k = some .immediateOpen) ∧
      (if s.cont.state ≠ .opened ∨ s.cont.aux ≠ ⟨false, false, false⟩ then
        Completed s t n .refusedState
          (BitVec.ofNat 32 (contactorStateCode s.cont.state + 256 * tripleBits s.cont.aux)) 0 ∧ SameExcept [.pool] s t
       else if s.killGate = true then
        Completed s t n .lockedOut (BitVec.ofNat 32 (2 + 256 * boolCode s.inputs.pins.safeOpen)) 0 ∧
          SameExcept [.pool] s t
       else if mask ≠ 0 then Completed s t n .lockedOut mask 0 ∧ SameExcept [.pool] s t
       else if s.prot.stale = true then
        Completed s t n .noSupervision (BitVec.ofNat 32 s.evaluationAge) 0 ∧ SameExcept [.pool] s t
       else InService s t n ∧ t.cont = { s.cont with
          closeSlot := some n
          state := .negClosing
          commands := ⟨false, true, false⟩
          stepTimer := some (1000 * s.profile.window)
          stepStart := s.clock.packTime
          cause := none
          faults := 0
          weldUnchecked := false
          watches := t.cont.watches } ∧ t.watchesAfresh ∧
        s.moveReported t ∧ t.transit.alerts = s.transit.alerts ∧ SameExcept [.pool, .cont, .transit] s t)) ∧
  ∀ (m : Nat) (s : State), s.taking → s.workIdle → s.cont.closeSlot = some m → exec .closePack s = .next s

/-- OPEN_PACK by the state at its taking (R110), with a hold-off time of 0 passed at once (R104) and the weld check
entered at once where POS is already OPEN (R106). A close is abandoned: its CLOSE_PACK completes ABORTED with the cause
OPEN_ORDER and the state it was in, and the open path begins at NEG_OPENING, which may end at once and complete the
OPEN_PACK too, or with POS commanded on at POS_OPENING (R103, R106, R108, R109). POS switched off under current raises
OPENED_UNDER_CURRENT, and no other opening does (R105). The detail words, zeros at OPEN and the cause and faults at
FAULTED, the codes and the packing are the model's (log entries 15, 18 and 24). -/
def Obligations.OpenPackFollowsTheState : Prop :=
  ∀ (n : Nat) (s : State), s.orderTaken n .openPack → s.memoryOk → s.pool.sound n → s.workIdle →
    ∃ t, exec .openPack s = .next t ∧ SameExcept [.pool, .cont, .transit] s t ∧
      s.moveReported t ∧ (t.cont.state ≠ s.cont.state → t.watchesAfresh) ∧
      (s.cont.openSlot ≠ none → Completed s t n .busy 0 0 ∧ t.cont = s.cont) ∧
      (s.cont.openSlot = none → 2 ≤ s.body32 n 0 → Completed s t n .range 0 0 ∧ t.cont = s.cont) ∧
      (s.cont.openSlot = none → s.body32 n 0 < 2 →
        (s.cont.state = .opened → Completed s t n .ok 0 0 ∧ t.cont = s.cont) ∧
        (s.cont.state = .faulted → Completed s t n .ok s.openingDetail 0 ∧ t.cont = s.cont) ∧
        (s.cont.state.closing = true → t.cont.cause = some .openOrder ∧ t.cont.closeSlot = none ∧
          t.cont.prechargeTimer = none ∧ t.cont.commands.pos = false ∧ t.cont.state.closing = false ∧
          t.transit.alerts = s.transit.alerts ++ s.closingAlert .openOrder ∧
          (s.cont.state.posOn = true →
            t.cont.state = (if s.cont.aux.pos then .posOpening else .weldCheck) ∧
            t.cont.commands = ⟨false, true, false⟩ ∧ t.cont.openSlot = some n) ∧
          (s.cont.state.posOn = false → t.cont.commands = ⟨false, false, false⟩ ∧
            (s.cont.aux.neg = true ∨ s.cont.aux.pre = true → t.cont.state = .negOpening ∧ t.cont.openSlot = some n)) ∧
          (s.cont.state.posOn = true ∨ s.cont.aux.neg = true ∨ s.cont.aux.pre = true → s.closeAborted t .openOrder) ∧
          (s.cont.state.posOn = false → s.cont.aux.neg = false → s.cont.aux.pre = false →
            t.cont.state = (if s.cont.faults = 0 then .opened else .faulted) ∧ t.cont.openSlot = none ∧
            ∀ m, s.cont.closeSlot = some m → s.pool.sound m → m ≠ n →
              (∀ page ∈ (s.pool.entry m).pages, page ∉ (s.pool.entry n).pages) →
              t.orderByte m 6 = completionCode .aborted ∧ t.orderByte m 7 = 0 ∧
              t.orderWord m 12 = openCauseCode .openOrder + 256 * contactorStateCode s.cont.state ∧
              (t.pool.entry m).state = .resultQueued ∧ t.orderByte n 6 = completionCode .ok ∧
              t.orderWord n 12 = t.openingDetail.toNat ∧
              t.pool.resultQueue = s.pool.resultQueue ++ if s.quiet n then [m] else [m, n])) ∧
        (s.cont.state ≠ .closed → s.cont.state.closing = false → t.transit.alerts = s.transit.alerts) ∧
        (s.cont.state = .closed → s.body32 n 0 = 0 ∨ s.profile.holdoff = 0 → t.transit.alerts =
          s.transit.alerts ++ s.currentAlert (if s.body32 n 0 = 1 then .holdoff else .closed) (some .openOrder)) ∧
        (s.cont.state = .closed → s.body32 n 0 = 1 → s.profile.holdoff ≠ 0 → InService s t n ∧
          t.cont.state = .holdoff ∧ t.cont.commands = s.cont.commands ∧ t.cont.cause = some .openOrder ∧
          t.cont.faults = 0 ∧ t.cont.openSlot = some n ∧ t.cont.stepTimer = some (1000 * s.profile.holdoff) ∧
          t.transit.alerts = s.transit.alerts) ∧
        (s.cont.state = .closed → (s.body32 n 0 = 0 ∨ s.profile.holdoff = 0) → s.cont.aux.pos = false →
          InService s t n ∧ t.cont.state = .weldCheck ∧ t.cont.commands = ⟨false, true, false⟩ ∧
          t.cont.cause = some .openOrder ∧ t.cont.faults = 0 ∧ t.cont.openSlot = some n ∧
          t.cont.stepTimer = some (1000 * s.profile.weldWindow)) ∧
        (s.cont.state = .closed → (s.body32 n 0 = 0 ∨ s.profile.holdoff = 0) → s.cont.aux.pos = true →
          InService s t n ∧ t.cont.state = .posOpening ∧ t.cont.commands = ⟨false, true, false⟩ ∧
          t.cont.cause = some .openOrder ∧ t.cont.faults = 0 ∧ t.cont.openSlot = some n ∧
          t.cont.stepTimer = some (1000 * s.profile.window)) ∧
        (s.cont.state = .holdoff ∨ s.cont.state = .posOpening ∨ s.cont.state = .weldCheck ∨
          s.cont.state = .negOpening → InService s t n ∧ t.cont = { s.cont with openSlot := some n }))

/-- ENTER_SLEEP (R148): its tests in order, the clamping, and the event of the taking, which aborts the order in the chain's
slot (R24), shown with its transaction under way, with it waiting for a port, and with none. The numbers of the conditions
in the detail word are the model's (log entry 17), and so is the order's completion while its transaction still runs (log
entry 61). -/
def Obligations.EnterSleepIsTestedThenEnters : Prop :=
  ∀ (n : Nat) (w : Bool) (s : State), s.orderTaken n .enterSleep → s.memoryOk → s.pool.sound n →
    (s.workIdle → ∃ t, exec (.enterSleep w) s = .next t ∧
      (if s.quiet n = true then
        Completed s t n .malformed (BitVec.ofNat 32 (4 + 65536 * s.orderHalf n 4)) 0 ∧ SameExcept [.inputs, .pool] s t
       else if s.cont.state ≠ .opened then
        Completed s t n .refusedState 0 0 ∧ SameExcept [.inputs, .pool] s t
       else if s.seq.sampler = .waiting ∨ s.seq.sampler = .running then
        Completed s t n .refusedState 1 0 ∧ SameExcept [.inputs, .pool] s t
       else if ¬ ((s.store.session = .idle ∨ s.store.session = .locked) ∧ s.store.slot = none) then
        Completed s t n .refusedState 2 0 ∧ SameExcept [.inputs, .pool] s t
       else if s.pool.orderQueue.tail ≠ [] then
        Completed s t n .refusedState 3 0 ∧ SameExcept [.inputs, .pool] s t
       else if w = true then Completed s t n .refusedState 4 0 ∧ SameExcept [.inputs, .pool] s t
       else match s.rangeOf n 8 with
        | none => Completed s t n .range 3 0 ∧ SameExcept [.inputs, .pool] s t
        | some (slot, first, last) => s.sleepEntered t n slot first last)) ∧
    ∀ slot first last, s.chain.engine = none → s.chain.slot ≠ none → s.onlyOrderWaits → s.quiet n = false →
      s.cont.state = .opened → (s.seq.sampler = .stopped ∨ s.seq.sampler = .halted) →
      (s.store.session = .idle ∨ s.store.session = .locked) → s.store.slot = none → s.pool.orderQueue.tail = [] →
      s.rangeOf n 8 = some (slot, first, last) →
      ∃ t, exec (.enterSleep false) s = .next t ∧ s.sleepEntered t n slot first last

/-- UPDATE_BEGIN, UPDATE_CHUNK, UPDATE_FINISH and UPDATE_ABORT: the tests in order, and the work they begin (R164, R165,
R166, R170). -/
def Obligations.UpdateOrdersFollowTheSession : Prop :=
  (∀ (n : Nat) (s : State), s.memoryOk → s.pool.sound n → s.workIdle →
    (s.orderTaken n .updateBegin → ∃ t, exec .updateBegin s = .next t ∧
      (if s.store.session = .locked then Completed s t n .lockedOut 0 0 ∧ SameExcept [.pool] s t
       else if s.store.session ≠ .idle then Completed s t n .busy 0 0 ∧ SameExcept [.pool] s t
       else if s.body32 n 4 < 64 ∨ 8192 < s.body32 n 4 then Completed s t n .range 0 0 ∧ SameExcept [.pool] s t
       else if s.body32 n 0 ≤ s.store.floor.toNat then
        Completed s t n .staleVersion s.store.floor 0 ∧ SameExcept [.pool] s t
       else InService s t n ∧
        t.store.bank s.store.targetBank = ⟨.writing, BitVec.ofNat 32 (s.body32 n 0), 0, s.body32 n 4, []⟩ ∧
        t.store.bank s.store.activeBank = s.store.active ∧ t.store.declVersion = BitVec.ofNat 32 (s.body32 n 0) ∧
        t.store.declLength = s.body32 n 4 ∧ t.store.session = .idle ∧ t.store.slot = some (.erase n) ∧
        t.store.floor = s.store.floor ∧ t.store.inUse = s.store.inUse ∧ SameExcept [.pool, .store] s t)) ∧
    (s.orderTaken n .updateChunk → ∃ t, exec .updateChunk s = .next t ∧
      (if s.store.session = .locked then Completed s t n .lockedOut 0 0 ∧ SameExcept [.pool] s t
       else if s.store.session ≠ .receiving then Completed s t n .refusedState 0 0 ∧ SameExcept [.pool] s t
       else if s.body32 n 0 ≠ s.store.nextOffset then
        Completed s t n .sequenceError (BitVec.ofNat 32 s.store.nextOffset) 0 ∧ SameExcept [.pool] s t
       else if s.store.declLength < s.body32 n 0 + (s.orderHalf n 4 - 4) then
        Completed s t n .range (BitVec.ofNat 32 s.store.declLength) 0 ∧ SameExcept [.pool] s t
       else InService s t n ∧ t.store = { s.store with
          slot := some (.program n (s.body32 n 0) (s.pool.bytes n 20 (s.orderHalf n 4 - 4))) } ∧
        SameExcept [.pool, .store] s t))) ∧
  ∀ (n : Nat) (s : State), s.memoryOk → s.pool.sound n → s.workIdle →
    (s.orderTaken n .updateFinish → ∃ t, exec .updateFinish s = .next t ∧
      (if s.store.session = .locked then Completed s t n .lockedOut 0 0 ∧ SameExcept [.pool] s t
       else if s.store.session ≠ .receiving then Completed s t n .refusedState 0 0 ∧ SameExcept [.pool] s t
       else if s.store.nextOffset < s.store.declLength then
        Completed s t n .incomplete (BitVec.ofNat 32 s.store.nextOffset) 0 ∧ SameExcept [.pool] s t
       else InService s t n ∧ t.store.session = .verifying ∧ t.store.slot = some (.verify n) ∧
        t.store.bank s.store.targetBank = { s.store.target with state := .written } ∧
        t.store.bank s.store.activeBank = s.store.active ∧ t.store.floor = s.store.floor ∧
        SameExcept [.pool, .store] s t)) ∧
    (s.orderTaken n .updateAbort → ∃ t, exec .updateAbort s = .next t ∧
      (s.store.session = .locked → Completed s t n .lockedOut 0 0 ∧ SameExcept [.pool] s t) ∧
      (s.store.session = .idle → Completed s t n .ok 0 0 ∧ SameExcept [.pool] s t) ∧
      (s.store.session = .receiving ∨ s.store.session = .verified →
        Completed s t n .ok (BitVec.ofNat 32 (sessionCode s.store.session)) 0 ∧ t.store.session = .idle ∧
        t.store.bank s.store.targetBank = { s.store.target with state := .invalid } ∧
        t.store.bank s.store.activeBank = s.store.active ∧ t.store.rejected = s.store.rejected ∧
        SameExcept [.pool, .store] s t))

/-- ACTIVATE_PROFILE (R168, R169): the tests, the wait, and the activation made at once when both conditions hold; one that
changes CHAIN leaves the enumeration NEEDED, or marked while it is RUNNING, stops a WAITING or HALTED sampler, and a pending
SELECT_LIST then completes ABORTED with the sampler state (R18, R43, R45). The detail word of the order that completes OK
holds the activation sequence, the new ACTIVE bank and the chain-change mark (R169, R176). -/
def Obligations.ActivateProfileCommitsOrWaits : Prop :=
  (∀ (n : Nat) (s : State), s.orderTaken n .activateProfile → s.memoryOk → s.pool.sound n →
    s.workIdle → s.seq.slot = none →
    (let changed := decide ((sectionsOf s.store.target.image).chain ≠ (sectionsOf s.store.active.image).chain)
     let ready := (s.cont.state = .opened ∨ s.cont.state = .faulted ∨ s.cont.state = .closed ∧ changed = false) ∧
       s.seq.sampler ≠ .running
     ∃ t, exec .activateProfile s = .next t ∧
      (s.store.session = .locked → Completed s t n .lockedOut 0 0 ∧ SameExcept [.pool] s t) ∧
      (s.store.session ≠ .locked → s.store.session ≠ .verified →
        Completed s t n .refusedState 0 0 ∧ SameExcept [.pool] s t) ∧
      (s.store.session = .verified → ¬ ready → InService s t n ∧
        t.store = { s.store with chainChange := changed, session := .activationPending, waitTimer := some 10000000,
                                 slot := some (.activate n) } ∧ SameExcept [.pool, .store] s t) ∧
      (s.store.session = .verified → ready → Completed s t n .ok (s.activationDetail changed) 0 ∧
        s.activated t changed ∧ SameExcept [.pool, .chain, .seq, .prot, .store] s t))) ∧
  ∀ (n m : Nat) (s : State), s.orderTaken n .activateProfile → s.memoryOk → s.pool.sound n → s.pool.sound m → m ≠ n →
    (∀ page ∈ (s.pool.entry m).pages, page ∉ (s.pool.entry n).pages) → s.workIdle → s.store.session = .verified →
    (sectionsOf s.store.target.image).chain ≠ (sectionsOf s.store.active.image).chain →
    (s.cont.state = .opened ∨ s.cont.state = .faulted) → s.seq.sampler = .waiting → s.seq.slot = some (.select m) →
    ∃ t, exec .activateProfile s = .next t ∧ s.activated t true ∧ t.orderWord n 12 = (s.activationDetail true).toNat ∧
      t.pool.resultQueue = s.pool.resultQueue ++ (if s.quiet n then [m] else [m, n]) ∧
      SameExcept [.pool, .chain, .seq, .prot, .store] s t ∧
      t.orderByte m 6 = completionCode .aborted ∧ t.orderByte m 7 = 0 ∧
      t.orderWord m 12 = samplerCode .stopped ∧ (t.pool.entry m).state = .resultQueued ∧
      t.orderByte n 6 = completionCode .ok

/-- READ_PROFILE_INFO (R171, R177): completed in one event in every session state, with the 48 bytes of its answer. -/
def Obligations.ReadProfileInfoAnswersInEverySession : Prop :=
  ∀ (n : Nat) (s : State), s.orderTaken n .readProfileInfo → s.memoryOk → s.pool.sound n → s.workIdle →
    ∃ t, exec .readProfileInfo s = .next t ∧ Completed s t n .ok 0 0 ∧ s.profileInfo.length = 48 ∧
      (∀ i, i < 48 → t.pool.readBuffer n (16 + i) = (s.profileInfo[i]?).getD 0) ∧
      (∀ base b, (base, b) ∈ [(16, s.store.bankA), (28, s.store.bankB)] →
        t.orderByte n base = bankStateCode b.state ∧ t.orderByte n (base + 1) = 0 ∧
        t.orderHalf n (base + 2) = b.length % 65536 ∧ t.orderWord n (base + 4) = b.version.toNat ∧
        t.orderWord n (base + 8) = b.sequence.toNat) ∧
      t.orderByte n 40 = bankCode s.store.activeBank ∧ t.orderByte n 41 = sessionCode s.store.session ∧
      t.orderByte n 42 = s.store.rejected % 256 ∧ t.orderByte n 43 = boolCode s.store.chainChange ∧
      t.orderByte n 44 = resetCauseCode s.link.resetCause ∧ t.orderWord n 48 = s.store.floor.toNat ∧
      t.orderWord n 52 = s.store.declVersion.toNat ∧ t.orderHalf n 56 = s.store.declLength % 65536 ∧
      t.orderHalf n 58 = s.store.nextOffset % 65536 ∧ SameExcept [.pool] s t


/-! ## The chain (R4, R6, R7, R10 to R13, R20, R21) -/

/-- What follows when a frame has left its port: a node frame awaits its reply, a CONVERT or a KEEPALIVE in ring mode is
watched for with its issue time captured, SLEEP and the tone go on to port B, and the first byte of a reply stops the
reply timer (R4, R6, R10, R24). A CONVERT on port B, or in open-ended mode, ends with its last byte: its issue time is
captured, and the list goes on with the issue times in the frame's issue record, or, where its requester has gone, nothing
follows; a FORGET ends so too, and the next FORGET or the first ENUMERATE is sent (R6, R10, R16, R17). That the expiry lets
the frame's time pass, that port B waits for the end of its quiet time, and port A first for the tone in ring mode are the
model's choice (log entries 6, 16 and 47). -/
def Obligations.FramesLeaveThePort : Prop :=
  ∀ (e : Engine) (s : State), s.taking → s.listIdle → s.chain.engine = some e →
    (∀ r, s.chain.txTimer = some r →
      (let u := s.elapse r
       (((∃ n b k, e.frame = .read n b k) ∨ (∃ n b v, e.frame = .write n b v) ∨ (∃ n, e.frame = .enumerate n)) →
        exec .transmissionEnd s = .next { u with chain := { u.chain with
          engine := some { e with phase := .awaiting }, txTimer := none, replyTimer := some e.timeout } }) ∧
       ((∃ tag g, e.frame = .convert tag g) → e.port = .a → s.chain.ringMode = true →
        exec .transmissionEnd s = .next { u with chain := { u.chain with
          engine := some { e with phase := .watching }, txTimer := none, watchTimer := some e.timeout,
          issueA := some u.clock.packTime, issueB := none } }) ∧
       (e.frame = .keepalive →
        exec .transmissionEnd s = .next { u with chain := { u.chain with
          engine := some { e with phase := .watching }, txTimer := none, watchTimer := some e.timeout } }) ∧
       (e.frame = .sleep ∨ e.frame = .wakeTone → e.port = .a → s.chain.ringMode = true →
        exec .transmissionEnd s = .next { u with chain := { u.chain with
          engine := some { e with phase := .sending, port := .b },
          txTimer := if u.chain.quietB.isSome then none else some (if e.frame = .sleep then 15 else 500),
          quietA := if e.frame = .sleep then u.chain.quietA else some 1000,
          replyTimer := none, watchTimer := none, idleTimer := none } }) ∧
       (∀ tag g, e.frame = .convert tag g → e.port = .b ∨ s.chain.ringMode = false → s.chain.noRequest →
        (let freed : Chain := { u.chain with
           engine := none, txTimer := none, replyTimer := none, watchTimer := none, idleTimer := some 50000
           issueA := if e.port = .a then some u.clock.packTime else u.chain.issueA
           issueB := if e.port = .a then none else some u.clock.packTime }
         (e.requester = .discarded → exec .transmissionEnd s = .next { u with chain := freed }) ∧
         ∀ f, e.requester = .sequencer → s.seq.frame = some f → f.phase = .converting → f.index = f.last →
          f.result = .asked → s.table.align = .idle → exec .transmissionEnd s = .next { u with
            chain := freed
            table := { u.table with issueA := freed.issueA, issueB := freed.issueB }
            seq := { u.seq with frame := some { f with index := f.index + 1, phase := .ended } } })) ∧
       ∀ o, e.frame = .forget → e.requester = .order → s.chain.slot = some o → o.job = .forget e.port →
        s.onlyOrderWaits → s.seq.sampler ≠ .running → s.sleep.power ≠ .asleep → s.chain.quietA = none →
        s.chain.quietB = none →
        (let next : ChainJob × ChainFrame × Port := if e.port = .a ∧ s.chain.ringMode = true then
           (.forget .b, .forget, .b) else (.assign 1, .enumerate 1, .a)
         ∃ t, exec .transmissionEnd s = .next t ∧ t.chain.slot = some { o with job := next.1 } ∧
          t.chain.engine.map (fun e => (e.requester, e.frame, e.port)) = some (.order, next.2.1, next.2.2) ∧
          t.chain.txTimer = some (if next.2.1 = .forget then 15 else 20) ∧ t.chain.nodes = s.chain.nodes ∧
          SameExcept [.chain] u t))) ∧
    (∀ p, e.port = p → e.phase = .awaiting → exec (.firstReplyByte p) s = .next { s with
      chain := { s.chain with engine := some { e with phase := .receiving }, replyTimer := none } }) ∧
    ∀ p, (e.port ≠ p ∨ e.phase ≠ .awaiting) → exec (.firstReplyByte p) s = .next s

/-- A received frame is a good reply exactly where its CRC, kind, node field, form and length are right (R3, R5, R182).
A bad reply, a byte pause inside a reply, and an expired reply timer are failed attempts: counted against the node, and
sent again while attempts remain (R6, R7). That the expiry lets the timer's time pass is the model's choice (log entry
6), and so are the code for which count is full and the packing of its payload (log entries 17 and 18), and that a DATA
reply with a state byte other than 0 or 1, or a NACK with another reason than 1 or 2, is a bad reply (log entry 39). -/
def Obligations.FailedAttemptsAreCountedAndSentAgain : Prop :=
  (∀ (sent : ChainFrame) (bytes : List Byte) (x : Reply), judgeReply sent bytes = some x ↔ GoodReply sent bytes x) ∧
  crcOf [0x31, 0x32, 0x33, 0x34, 0x35, 0x36, 0x37, 0x38, 0x39] = 0x29B1#16 ∧
  ∀ (e : Engine) (n : Nat) (s : State), s.taking → s.listIdle → s.chain.engine = some e → (1 ≤ n ∧ n ≤ 20) →
    ((∃ b k, e.frame = .read n b k) ∨ (∃ b v, e.frame = .write n b v)) → 1 ≤ e.attemptsLeft →
    s.chain.quiet e.port = false →
    (∀ bytes, (e.phase = .awaiting ∨ e.phase = .receiving) → judgeReply e.frame bytes = none →
      ∃ t, exec (.replyReceived e.port bytes) s = .next t ∧ s.resent t e n true) ∧
    (e.phase = .receiving → ∃ t, exec (.chainBytePause e.port) s = .next t ∧ s.resent t e n true) ∧
    (∀ r, e.phase = .awaiting → s.chain.replyTimer = some r →
      ∃ t, exec .replyTimeout s = .next t ∧ (s.elapse r).resent t e n false)

/-- A good reply to a READ_NODE's read completes the order OK with the words it carries, an ACK a WRITE_NODE's write OK, and
the engine is free (R5, R6, R21, R22); a NACK completes either REFUSED_STATE with its reason and is kept as the node's last
error, and an attempt that fails with none left completes it TIMEOUT with CRC or NO_REPLY (R6, R7, R21, R22). The detail
codes, CRC 1 and NO_REPLY 2, the alert's payload, the point where a long answer is cut, the replies that count as bad and
the time of the expiry are the model's (log entries 6, 17, 18, 39 and 55). -/
def Obligations.NodeReadCompletesWithItsReply : Prop :=
  ∀ (e : Engine) (o : ChainOrder) (a : Nat) (b : Block) (s : State), s.taking →
    s.listIdle → s.memoryOk → s.pool.sound o.buffer → s.chain.engine = some e → e.requester = .order →
    s.chain.slot = some o → s.chain.location = none → s.chain.seqRequest = none → s.chain.sleepRequest = none →
    (1 ≤ a ∧ a ≤ 20) →
    (let reads (k : Nat) : Prop := e.frame = .read a b k ∧ o.job = .readNode a b k
     let writes (v : Half) : Prop := e.frame = .write a b v ∧ o.job = .writeNode a b v
     let freed (c : Chain) : Chain := { c with
       engine := none, txTimer := none, replyTimer := none, watchTimer := none, idleTimer := some 50000, slot := none
       waitTimer := none }
     (∀ bytes, e.phase = .awaiting ∨ e.phase = .receiving →
      (∀ k tag busy words, reads k → judgeReply e.frame bytes = some (.data tag busy words) →
       ∃ t, exec (.replyReceived e.port bytes) s = .next t ∧
        Completed s t o.buffer .ok 0 (if s.answerRoom o.buffer < 4 + 2 * words.length then 2 else 0) ∧
        t.pool.readBuffer o.buffer 16 = BitVec.ofNat 8 a ∧
        t.pool.readBuffer o.buffer 17 = (if busy then 1 else 0) ∧ t.pool.readBuffer o.buffer 18 = tag ∧
        t.pool.readBuffer o.buffer 19 = BitVec.ofNat 8 words.length ∧
        (∀ i w, words[i]? = some w → 6 + 2 * i ≤ s.answerRoom o.buffer →
          t.orderHalf o.buffer (20 + 2 * i) = w.toNat) ∧
        t.chain = freed s.chain ∧ SameExcept [.pool, .chain] s t) ∧
      (∀ v, writes v → judgeReply e.frame bytes = some .ack → ∃ t, exec (.replyReceived e.port bytes) s = .next t ∧
        Completed s t o.buffer .ok 0 0 ∧ t.chain = freed s.chain ∧ SameExcept [.pool, .chain] s t) ∧
      (∀ badValue, (∃ k, reads k) ∨ (∃ v, writes v) → judgeReply e.frame bytes = some (.nack badValue) →
       ∃ t, exec (.replyReceived e.port bytes) s = .next t ∧
        Completed s t o.buffer .refusedState (if badValue then 2 else 1) 0 ∧
        t.chain = { freed s.chain with nodes := t.chain.nodes } ∧
        t.chain.node a = { s.chain.node a with
          lastError := if badValue then .nackBadValue else .nackBadBlock } ∧
        (∀ m, m ≠ a → t.chain.node m = s.chain.node m) ∧ SameExcept [.pool, .chain] s t)) ∧
     ∀ c u crc, (∃ k, reads k) ∨ (∃ v, writes v) → s.lastAttemptFails e c u crc → ∃ t, exec c s = .next t ∧
      Completed u t o.buffer .timeout (if crc then 1 else 2) 0 ∧
      t.chain = { freed u.chain with nodes := t.chain.nodes } ∧
      t.chain.node a = (s.chain.node a).attempted crc ∧ (∀ m, m ≠ a → t.chain.node m = s.chain.node m) ∧
      t.transit.alerts = s.transit.alerts ++ (s.chain.node a).fullAlert a crc ∧
      SameExcept [.pool, .chain, .transit] u t)

/-- What a KEEPALIVE or CONVERT that comes back, or does not, says of the ring (R10 to R13): a CONVERT of the frame goes
on to the list's next index with the issue times in the frame's issue record, and one lost in a CLOSED ring makes break
location due; one of a dropped patrol frame begins it at once, and in an OPEN ring goes on to port B as any other (the
model's choice, log entry 48). Then each probe of break location, by its outcome: the next node on A, the turn to port B
from the found count down, ABSENT addresses passed over, and the end, on A with all nodes found or with the paths, the
break position and CHAIN_BREAK (R9, R12). That an expiry lets the timer's time pass, that a foreign frame leaves the
watch running, what a location does with the break position and with a hop count at path NONE, the packing of payloads,
the position 0 in the alert of a ring that closes, the replies that count as bad, and that a location probes in ENTERING
too are the model's (log entries 6, 18, 19, 39, 57 and 63). -/
def Obligations.RingWatchDecidesTheRing : Prop :=
  (∀ (e : Engine) (s : State), s.taking → s.listIdle → s.chain.engine = some e → e.phase = .watching →
    (∀ bytes, bytes ≠ e.frame.bytes → exec (.ringFrameReturn bytes) s = .next s) ∧
    (e.frame = .keepalive → e.requester = .ringCheck → s.chain.noRequest →
      (s.chain.ringState ≠ .opened → exec (.ringFrameReturn e.frame.bytes) s = .next { s with
        chain := { s.chain with engine := none, txTimer := none, replyTimer := none, watchTimer := none,
                                idleTimer := some 50000 } }) ∧
      (s.chain.ringState = .opened → ∃ t, exec (.ringFrameReturn e.frame.bytes) s = .next t ∧
        t.chain.ringState = .closed ∧ t.chain.breakPos = 0 ∧ t.chain.breakDue = false ∧ t.chain.engine = none ∧
        (∀ n, 1 ≤ n → n ≤ 20 → t.chain.node n = if (s.chain.node n).state = .absent then s.chain.node n
          else { s.chain.node n with path := .pathA, hops := n }) ∧
        t.transit.alerts = s.transit.alerts ++ [(.chainBreak, [0, 0])] ∧ SameExcept [.chain, .transit] s t) ∧
      (∀ r, s.chain.watchTimer = some r → s.chain.ringState ≠ .closed →
        exec .ringWatchExpiry s = .next { s.elapse r with chain := { (s.elapse r).chain with
          engine := none, txTimer := none, replyTimer := none, watchTimer := none, idleTimer := some 50000 } }) ∧
      (∀ r, s.chain.watchTimer = some r → s.chain.ringState = .closed → (s.chain.node 1).state ≠ .absent →
        1 ≤ s.chain.found → s.chain.quietA = none → s.sleep.power ≠ .asleep →
        ∃ t, exec .ringWatchExpiry s = .next t ∧ t.chain.ringState = .opened ∧
          t.chain.location = some ⟨false, 1, 0, s.chain.found + 1⟩ ∧
          t.chain.engine = some ⟨.breakLocation, .read 1 .status 1, .a, .sending, s.profile.retryLimit,
            s.profile.replyTimeout, 0, 0, .noError⟩ ∧
          t.chain.nodes = s.chain.nodes ∧ SameExcept [.chain] (s.elapse r) t)) ∧
    ∀ tag g r, e.frame = .convert tag g → s.chain.watchTimer = some r → s.chain.ringState = .opened →
      ∃ t, exec .ringWatchExpiry s = .next t ∧ t.chain.engine = some { e with port := .b, phase := .sending } ∧
        t.chain.txTimer = (if s.chain.quietB.isSome then none else some 25) ∧ t.chain.ringState = .opened ∧
        SameExcept [.chain] (s.elapse r) t) ∧
  (∀ (e : Engine) (f : Frame) (tag : Byte) (g : Group) (s : State), s.taking → s.chain.engine = some e →
    e.phase = .watching → e.frame = .convert tag g → e.requester = .sequencer → s.chain.noRequest →
    s.seq.frame = some f → f.phase = .converting → f.index = f.last → f.result = .asked → s.table.align = .idle →
    (let goesOn (u t : State) : Prop :=
       t.seq = { u.seq with frame := some { f with index := f.index + 1, phase := .ended } } ∧
       t.table = { u.table with issueA := u.chain.issueA, issueB := u.chain.issueB } ∧ t.chain.engine = none ∧
       t.chain.issueA = s.chain.issueA ∧ t.chain.issueB = s.chain.issueB ∧ t.chain.location = none
     (∃ t, exec (.ringFrameReturn e.frame.bytes) s = .next t ∧ goesOn s t ∧
       (s.chain.ringState = .opened → t.chain.ringState = .closed ∧ t.chain.breakPos = 0 ∧ t.chain.breakDue = false ∧
         (∀ n, 1 ≤ n → n ≤ 20 → t.chain.node n = if (s.chain.node n).state = .absent then s.chain.node n
           else { s.chain.node n with path := .pathA, hops := n }) ∧
         t.transit.alerts = s.transit.alerts ++ [(.chainBreak, [0, 0])]) ∧
       (s.chain.ringState ≠ .opened → t.chain.ringState = s.chain.ringState ∧ t.chain.breakDue = s.chain.breakDue ∧
         t.chain.nodes = s.chain.nodes ∧ t.transit.alerts = s.transit.alerts) ∧
       SameExcept [.chain, .seq, .table, .transit] s t) ∧
     ∀ r, s.chain.watchTimer = some r → s.chain.ringState = .closed →
       ∃ t, exec .ringWatchExpiry s = .next t ∧ goesOn (s.elapse r) t ∧ t.chain.ringState = .opened ∧
         t.chain.breakDue = true ∧ t.chain.nodes = s.chain.nodes ∧
         SameExcept [.chain, .seq, .table] (s.elapse r) t)) ∧
  (∀ (e : Engine) (tag : Byte) (g : Group) (s : State), s.taking → s.listIdle → s.chain.engine = some e →
    e.phase = .watching → e.frame = .convert tag g → e.requester = .discarded →
    (s.chain.noRequest → s.chain.ringState ≠ .opened → exec (.ringFrameReturn e.frame.bytes) s = .next { s with
      chain := { s.chain with engine := none, txTimer := none, replyTimer := none, watchTimer := none,
                              idleTimer := some 50000 } }) ∧
    ∀ r, s.chain.watchTimer = some r → s.chain.ringState = .closed → (s.chain.node 1).state ≠ .absent →
      1 ≤ s.chain.found → s.chain.quietA = none → s.sleep.power ≠ .asleep →
      ∃ t, exec .ringWatchExpiry s = .next t ∧ t.chain.ringState = .opened ∧
        t.chain.location = some ⟨false, 1, 0, s.chain.found + 1⟩ ∧
        t.chain.engine.map (fun e => (e.requester, e.frame, e.port)) =
          some (.breakLocation, .read 1 .status 1, .a) ∧
        t.chain.nodes = s.chain.nodes ∧ SameExcept [.chain] (s.elapse r) t) ∧
  ∀ (e : Engine) (l : Location) (s : State), s.taking → s.listIdle → s.sleep.power ≠ .asleep →
    s.chain.engine = some e → e.requester = .breakLocation → e.frame = .read l.addr .status 1 →
    (1 ≤ l.addr ∧ l.addr ≤ 20) → s.chain.location = some l → s.chain.seqRequest = none → s.chain.sleepRequest = none →
    s.chain.slot = none → s.chain.quietA = none → s.chain.quietB = none → s.chain.found ≤ 20 →
    (let probed (u : State) (x : NodeEntry) (alerts : List (AlertKind × List Byte)) : State := { u with
       chain := u.chain.setNode l.addr x, transit := { u.transit with alerts := u.transit.alerts ++ alerts } }
     let succeeds (t : State) : Prop := if l.onB then s.locationFollows t true (l.addr - 1) l.k l.addr
       else s.locationFollows t false (l.addr + 1) l.addr l.j
     let fails (u t : State) : Prop := if l.onB then u.locationFollows t true l.k l.k l.j
       else u.locationFollows t false (u.chain.found + 1) l.k l.j
     (∀ bytes, e.phase = .awaiting ∨ e.phase = .receiving →
       (∀ tag busy words, judgeReply e.frame bytes = some (.data tag busy words) →
         ∃ t, exec (.replyReceived e.port bytes) s = .next t ∧ succeeds t ∧ SameExcept [.chain, .transit] s t) ∧
       ∀ badValue, judgeReply e.frame bytes = some (.nack badValue) →
         ∃ t, exec (.replyReceived e.port bytes) s = .next t ∧ SameExcept [.chain, .transit] s t ∧
           fails (probed s { s.chain.node l.addr with
             lastError := if badValue then .nackBadValue else .nackBadBlock } []) t) ∧
     ∀ c u crc, s.lastAttemptFails e c u crc → ∃ t, exec c s = .next t ∧ SameExcept [.chain, .transit] u t ∧
       fails (probed u ((u.chain.node l.addr).attempted crc) ((u.chain.node l.addr).fullAlert l.addr crc)) t)

/-- A KEEPALIVE after 50 ms without a transaction, in ring mode and ACTIVE with no request waiting (R11), the end of the
quiet time after a tone (R4), and the end of a chain order's wait for its first grant (R19, R20). That an expiry lets
the timer's time pass, that a frame waits for a quiet port, the detail 0 of a wait and the status NEEDED after it are
the model's choice (log entries 6, 16, 17 and 20). -/
def Obligations.ChainTimersEnd : Prop :=
  ∀ (r : Nat) (s : State), s.taking →
    (s.chain.idleTimer = some r → s.chain.ringMode = true → s.sleep.power = .active → s.chain.engine = none →
      s.chain.noRequest → s.chain.quietA = none →
      exec .keepaliveIdleExpiry s = .next { s.elapse r with chain := { (s.elapse r).chain with
        engine := some ⟨.ringCheck, .keepalive, .a, .sending, 0, s.profile.replyTimeout, 0, 0, .noError⟩,
        txTimer := some 15, replyTimer := none, watchTimer := none, idleTimer := none } }) ∧
    (s.chain.idleTimer = some r → s.chain.ringMode = false ∨ s.sleep.power ≠ .active ∨ s.chain.engine ≠ none ∨
      ¬ s.chain.noRequest ∨ s.chain.quietA ≠ none → exec .keepaliveIdleExpiry s = .next (s.elapse r)) ∧
    (∀ p, s.chain.quietTimer p = some r → s.workIdle → ∃ t, exec (.wakeToneQuietExpiry p) s = .next t ∧
      t.chain.quietTimer p = none ∧
      (∀ q, q ≠ p → t.chain.quietTimer q = (s.elapse r).chain.quietTimer q) ∧ t.chain.nodes = s.chain.nodes ∧
      (∀ e, s.chain.engine = some e → t.chain.engine = some e ∧
        (e.port = p → e.phase = .sending → s.chain.txTimer = none → t.chain.txTimer = some e.frame.duration)) ∧
      SameExcept [.chain] (s.elapse r) t) ∧
    ∀ o, s.chain.waitTimer = some r → s.chain.slot = some o → s.memoryOk → s.pool.sound o.buffer →
      ∃ t, exec .chainOrderWaitTimeout s = .next t ∧ Completed (s.elapse r) t o.buffer .timeout 0 0 ∧
        t.chain = { (s.elapse r).chain with
          slot := none, waitTimer := none,
          enumStatus := if s.chain.enumStatus = .running then .needed else s.chain.enumStatus } ∧
        SameExcept [.pool, .chain] (s.elapse r) t

/-! ## The Frame Sequencer's timers (R30, R32, R34, R39) -/

/-- The frame timer by the sampler state (R39); the frame start is shown where the first element of the list that then
runs is a legal CONVERT and the engine is busy, so that the frame stands at its first element. A pending switch takes
effect at it: the switch's slot and range are the active ones, and its SELECT_LIST completes OK with the new frame's
number (R30, R43); the frame's result is sized and its pages asked for (R31). A WAIT or HOLD_UNTIL that runs out at the
last index ends the list (R32); after the re-poll delay the same READ is requested again (R34); there the engine is busy
and the frame's allocation still open, so nothing else follows. A MARK adds its stop code and finishes at once, and a
HALT adds its own and ends the list HALTED (R36); a WRITE asks for the WRITE of its first node, and the end of one goes
on to the next node's or finishes the element, a failed one marking its node (R7, R15, R32). That an expiry lets the
timer's time pass, the packing of NODE_COUNTER_FULL, and the replies that count as bad are the model's (log entries 6,
17, 18 and 39). -/
def Obligations.SequencerTimersEnd : Prop :=
  (∀ (r : Nat) (s : State), s.taking → s.seq.frameTimer = some r →
     (s.seq.sampler = .running → exec .frameTimerExpiry s = .next { s.elapse r with
       seq := { (s.elapse r).seq with frameTimer := none, startDue := true } }) ∧
     (s.seq.sampler = .stopped ∨ s.seq.sampler = .halted → exec .frameTimerExpiry s = .next { s.elapse r with
       seq := { (s.elapse r).seq with frameTimer := none } }) ∧
     ∀ slot first last g, s.seq.sampler = .waiting → s.chain.engine.isSome = true → s.runsNext slot first last →
       first ≤ last → (s.element slot first).kind = 1 → (s.element slot first).trapReason = 0 →
       groupOf (s.element slot first).group = some g →
       ∃ t, exec .frameTimerExpiry s = .next t ∧ t.seq.sampler = .running ∧
         t.seq.frameNumber = s.seq.frameNumber + 1 ∧ t.seq.tag = (s.seq.frameNumber + 1).setWidth 8 ∧
         t.seq.frameStart = (s.elapse r).clock.packTime ∧ t.seq.frameTimer = some (1000 * s.seq.period) ∧
         t.seq.startDue = false ∧ t.seq.overruns = s.seq.overruns ∧ s.switched (s.elapse r) t slot first last ∧
         s.frameSized t slot first last ∧
         t.seq.frame.map (fun f => (f.slot, f.first, f.last, f.index, f.phase, f.late)) =
           some (slot, first, last, first, .converting, false) ∧
         t.chain.seqRequest = some (.convert ((s.seq.frameNumber + 1).setWidth 8) g) ∧ t.table = FrameTable.reset ∧
         (∀ m, (t.chain.node m).failedMark = false) ∧
         SameExcept [.pool, .chain, .seq, .table, .transit] (s.elapse r) t) ∧
  (∀ (r : Nat) (f : Frame) (s : State), s.taking → s.chain.engine.isSome = true → s.seq.frame = some f →
    (f.result = .asked → f.index = f.last → s.table.align = .idle → s.seq.elementTimer = some r →
      (f.phase = .waiting → exec .waitExpiry s = .next { s.elapse r with seq := { (s.elapse r).seq with
        elementTimer := none, frame := some { f with index := f.index + 1, phase := .ended } } }) ∧
      (f.phase = .holding → exec .holdUntilExpiry s = .next { s.elapse r with seq := { (s.elapse r).seq with
        elementTimer := none, frame := some { f with index := f.index + 1, phase := .ended } } })) ∧
    ∀ n temps k, f.phase = .gathering n temps k → s.seq.repollTimer = some r →
      exec .repollDelayExpiry s = .next { s.elapse r with
        seq := { (s.elapse r).seq with repollTimer := none }
        chain := { (s.elapse r).chain with seqRequest := some (if temps then
          .read n .temps (s.chain.node n).temps else .read n .cells (s.chain.node n).cells) } }) ∧
  (∀ (f : Frame) (r : Nat) (s : State), s.waits f r → s.chain.engine.isSome = true → f.index < f.last →
    f.kind ≠ .patrol → f.result = .asked → (s.element f.slot (f.index + 1)).trapReason = 0 →
    (let el := s.element f.slot (f.index + 1)
     let u := s.elapse r
     let goesOn (f : Frame) (request : Option ChainFrame) : State := { u with
       seq := { u.seq with elementTimer := none, frame := some f }
       chain := { u.chain with seqRequest := request } }
     (el.kind = 7 → f.index + 1 = f.last → exec .waitExpiry s = .next (goesOn { f with
       index := f.index + 2, phase := .ended, stopCodes := f.stopCodes ++ [el.argument] } s.chain.seqRequest)) ∧
     (el.kind = 8 → exec .waitExpiry s = .next (goesOn { f with
       index := f.index + 1, phase := .ended, halted := true, stopCodes := f.stopCodes ++ [el.argument] }
       s.chain.seqRequest)) ∧
     ∀ b, el.kind = 3 → blockOf el.group = some b → exec .waitExpiry s = .next (goesOn { f with
       index := f.index + 1, phase := .writing el.firstNode, element := el }
       (some (.write el.firstNode b (BitVec.ofNat 16 el.argument)))))) ∧
  ∀ (e : Engine) (f : Frame) (n : Nat) (b : Block) (v : Half) (s : State), s.taking → s.chain.noRequest →
    s.chain.engine = some e → e.requester = .sequencer → e.frame = .write n b v → (1 ≤ n ∧ n ≤ 20) →
    s.seq.frame = some f → f.phase = .writing n → f.result = .asked → s.table.align = .idle →
    (let next := s.chain.node (n + 1)
     let follows (u t : State) : Prop :=
       (f.element.lastNode = n → f.index = f.last → t.chain.engine = none ∧
         t.seq = { u.seq with frame := some { f with index := f.index + 1, phase := .ended } }) ∧
       (∀ block, n < f.element.lastNode → blockOf f.element.group = some block → next.path = .pathA →
         (next.state = .present ∨ next.state = .degraded) → s.chain.quietA = none → s.sleep.power ≠ .asleep →
         t.seq = { u.seq with frame := some { f with phase := .writing (n + 1) } } ∧
         t.chain.engine = some ⟨.sequencer, .write (n + 1) block (BitVec.ofNat 16 f.element.argument), .a, .sending,
           s.profile.retryLimit, s.profile.replyTimeout, 0, 0, .noError⟩)
     let shown : Prop := f.element.lastNode = n ∧ f.index = f.last ∨
       n < f.element.lastNode ∧ (blockOf f.element.group).isSome = true ∧ next.path = .pathA ∧
         (next.state = .present ∨ next.state = .degraded) ∧ s.chain.quietA = none ∧ s.sleep.power ≠ .asleep
     shown →
      (∀ bytes, e.phase = .awaiting ∨ e.phase = .receiving →
       (judgeReply e.frame bytes = some .ack → ∃ t, exec (.replyReceived e.port bytes) s = .next t ∧ follows s t ∧
         t.chain.nodes = s.chain.nodes ∧ SameExcept [.chain, .seq] s t) ∧
       ∀ badValue, judgeReply e.frame bytes = some (.nack badValue) →
        ∃ t, exec (.replyReceived e.port bytes) s = .next t ∧ follows s t ∧
         t.chain.node n = { s.chain.node n with
           failedMark := true, lastError := if badValue then .nackBadValue else .nackBadBlock } ∧
         (∀ m, m ≠ n → t.chain.node m = s.chain.node m) ∧ SameExcept [.chain, .seq] s t) ∧
      ∀ c u crc, s.lastAttemptFails e c u crc → ∃ t, exec c s = .next t ∧ follows u t ∧
        t.chain.node n = { (s.chain.node n).attempted crc with failedMark := true } ∧
        (∀ m, m ≠ n → t.chain.node m = s.chain.node m) ∧
        t.transit.alerts = s.transit.alerts ++ (s.chain.node n).fullAlert n crc ∧
        SameExcept [.chain, .seq, .transit] u t)

/-- A GATHER's read that has ended leaves its mark: GOOD, STALE with or without its words, FAILED with the node's mark
after a NACK or a last attempt that fails, or a re-poll after 20 µs (R33, R34); an element is illegal by the tests of
R28 in their order, and one that the list reaches ends it with a trap and a SEQUENCE_TRAP alert (R37). The read is shown
as the last of its element at the list's last index, with the frame's allocation open, so that nothing else follows. The
order of the tests on a reply, count, tag, BUSY, is read by inference (DEDUCED, log entry 21); the packing of payloads,
the replies that count as bad and the time of an expiry are the model's (log entries 6, 17, 18 and 39). -/
def Obligations.GatherMarksAndTraps : Prop :=
  (∀ b : List Byte, (elementOf b).trapReason = elementTrap b) ∧
  (∀ (e : Engine) (f : Frame) (n repolls : Nat) (temps : Bool) (bytes : List Byte) (s : State), s.taking →
    s.chain.noRequest → s.chain.engine = some e → e.requester = .sequencer →
    (∃ b k, e.frame = .read n b k) → (e.phase = .awaiting ∨ e.phase = .receiving) → s.seq.frame = some f →
    f.phase = .gathering n temps repolls → f.result = .asked → f.index = f.last → s.table.align = .idle →
    (1 ≤ n ∧ n ≤ 20) → f.element.lastNode = n →
    (temps = true ∨ f.element.hasTemps = false ∨ (s.chain.node n).temps = 0) →
    (let entry := s.chain.node n
     let asked := if temps then entry.temps else entry.cells
     let marked (u t : State) (mark : Mark) (words : List Half) : Prop :=
       (∀ m, m ≠ n → t.table.slot m = s.table.slot m) ∧ t.chain.engine = none ∧ t.chain.seqRequest = none ∧
       t.seq = { u.seq with frame := some { f with index := f.index + 1, phase := .ended } } ∧
       if temps then t.table.slot n = { s.table.slot n with tempMark := mark, temps := words }
       else t.table.slot n = { s.table.slot n with
         cellMark := mark, codes := words.map (·.toNat), vc := [], vcomp := [], ts := none, current := 0
         capture := if words = [] then none else some ⟨entry.path, entry.hops, entry.offset,
           match entry.path with
           | .pathA => s.table.issueA
           | .pathB => s.table.issueB
           | .noPath => none⟩
         flags := { NodeFlags.clear with unaligned := decide (words ≠ []) } }
     (∀ tag busy words, judgeReply e.frame bytes = some (.data tag busy words) →
       ∃ t, exec (.replyReceived e.port bytes) s = .next t ∧ t.chain.nodes = s.chain.nodes ∧
         SameExcept [.chain, .seq, .table] s t ∧
         (words.length ≠ asked → marked s t .stale []) ∧
         (words.length = asked → tag ≠ s.seq.tag → marked s t .stale words) ∧
         (words.length = asked → tag = s.seq.tag → busy = false → marked s t .good words) ∧
         (words.length = asked → tag = s.seq.tag → busy = true → (f.element.flags = 1 ∨ 2 ≤ repolls) →
           marked s t .stale []) ∧
         (words.length = asked → tag = s.seq.tag → busy = true → f.element.flags ≠ 1 → repolls < 2 →
           t.seq = { s.seq with
             repollTimer := some 20, frame := some { f with phase := .gathering n temps (repolls + 1) } } ∧
           t.table = s.table ∧ t.chain.engine = none ∧ t.chain.seqRequest = none)) ∧
     (∀ badValue, judgeReply e.frame bytes = some (.nack badValue) →
       ∃ t, exec (.replyReceived e.port bytes) s = .next t ∧ marked s t .failed [] ∧
         t.chain.node n = { entry with
           failedMark := true, lastError := if badValue then .nackBadValue else .nackBadBlock } ∧
         (∀ m, m ≠ n → t.chain.node m = s.chain.node m) ∧ SameExcept [.chain, .seq, .table] s t) ∧
     ∀ c u crc, s.lastAttemptFails e c u crc → ∃ t, exec c s = .next t ∧ marked u t .failed [] ∧
       t.chain.node n = { entry.attempted crc with failedMark := true } ∧
       (∀ m, m ≠ n → t.chain.node m = s.chain.node m) ∧
       t.transit.alerts = s.transit.alerts ++ entry.fullAlert n crc ∧
       SameExcept [.chain, .seq, .table, .transit] u t)) ∧
  ∀ (f : Frame) (r : Nat) (s : State), s.waits f r → f.index < f.last → f.kind ≠ .patrol → f.result = .asked →
    (let el := s.element f.slot (f.index + 1)
     el.trapReason ≠ 0 → ∃ t, exec .waitExpiry s = .next t ∧
       t.seq = { (s.elapse r).seq with
         elementTimer := none
         frame := some { f with index := f.index + 1, phase := .ended, trapped := true, trapIndex := f.index + 1 } } ∧
       t.transit.alerts = s.transit.alerts ++ [(.sequenceTrap, [BitVec.ofNat 8 (slotCode f.slot),
         BitVec.ofNat 8 (f.index + 1), BitVec.ofNat 8 el.kind, BitVec.ofNat 8 el.trapReason,
         s.seq.frameNumber.setWidth 8, (s.seq.frameNumber >>> 8).setWidth 8])] ∧
       SameExcept [.seq, .transit] (s.elapse r) t)

/-- An ALIGN element's evaluation is handed to the Protection Monitor and judged in the same event: the six kinds by
their figures and limits, the counters and trips, with the TRIP alert and report, the demand and the kill gate of each
kind newly latched (R83, R85, R90), then the staleness timer, the FRESH mark and the time of the evaluation, and the
report that lets the list go on (R61, R72, R78 to R81, R84). Shown with ALIGN at the list's last index and the frame's
allocation open. The time of the expiry, the packing of the alert's payload and its signs and zeros are the model's
(log entries 6, 18 and 25). -/
def Obligations.AlignEvaluationIsJudged : Prop :=
  ∀ (f : Frame) (r : Nat) (s : State), s.waits f r → f.index + 1 = f.last → f.kind ≠ .patrol → f.result = .asked →
    (s.element f.slot f.last).kind = 6 → (s.element f.slot f.last).trapReason = 0 →
    (let u := s.elapse r
     let p := s.profile
     let a := (u.evaluate false).2
     ∃ t, exec .waitExpiry s = .next t ∧ t.table = { (u.evaluate false).1 with align := .idle } ∧
       t.table.aggregate = some a ∧ a.frameNumber = s.seq.frameNumber ∧ a.place = s.table.evalCount + 1 ∧
       t.table.evalCount = s.table.evalCount + 1 ∧
       t.seq = { u.seq with elementTimer := none, frame := some { f with index := f.index + 2, phase := .ended } } ∧
       (∀ k, p.violates a k → t.prot.counter k = min 15 (s.prot.counter k + 1) ∧
         t.prot.latch k = if p.persistenceOf k ≤ min 15 (s.prot.counter k + 1) then
             some ((s.prot.latch k).getD (p.actionOf k)) else s.prot.latch k) ∧
       (∀ k, ¬ p.violates a k → ¬ a.unjudged k → t.prot.counter k = 0 ∧ t.prot.latch k = s.prot.latch k) ∧
       (∀ k, a.unjudged k → t.prot.counter k = s.prot.counter k ∧ t.prot.latch k = s.prot.latch k) ∧
       t.prot.stale = false ∧ t.prot.stalenessTimer = some (1000 * p.supervision) ∧
       t.prot.lastEvaluation = some u.clock.packTime ∧ t.prot.tamperHeld = s.prot.tamperHeld ∧
       ((∀ k, t.prot.latch k = s.prot.latch k) → t.transit.alerts = s.transit.alerts ∧
         t.transit.demands = s.transit.demands) ∧
       s.tripsShown t (fun k => a.report p (min 15 (s.prot.counter k + 1)) k) ∧
       SamePoolButCount u t ∧ SameExcept [.pool, .seq, .table, .prot, .transit] u t)

/-- The frame end (R38): the frame-end update of the Node Table with its alerts and the report of a loss (R15, R87), the
break location that the frame owes (R12), the result written and queued, each field of its header, aggregates and node
records at its offset (R31, R74, R178), then the sampler by the table with the order it completes, whose completion
joins the Result Queue behind the frame's result: STOP_SAMPLING, SINGLE_FRAME, a SELECT_LIST that a HALT or a trap
aborts, with the sampler state in its detail word (R38, R43), and a late start included, at which a pending switch takes
effect (R30, R39, R43); and an allocation that completes at an ended list, which ends the frame too. Shown where a WAIT
at the last index runs out. The order of the alerts, what NODE_RECOVERED carries, the packing of payload and detail,
stop codes beyond their area, and the time of the expiry are the model's (log entries 6, 18, 36, 41 and 54). -/
def Obligations.FramesEndWithTheirResult : Prop :=
  (∀ (f : Frame) (s : State), s.resultLaidOut f (s.resultBytes f)) ∧
  (∀ (f : Frame) (r : Nat) (s : State), s.waits f r → f.index = f.last →
    (f.kind = .normal ∨ f.kind = .single) → (f.result = .dropped ∨ ∃ n, f.result = .granted n) → s.memoryOk →
    (let u := s.elapse r
     let flags := boolCode f.late + 2 * boolCode f.trapped + 4 * boolCode f.halted +
       8 * boolCode (decide (s.table.evalCount = 0))
     let lost (t : State) (m : Nat) : Prop := 1 ≤ m ∧ m ≤ 20 ∧ (s.chain.node m).state ≠ .lost ∧
       (t.chain.node m).state = .lost
     let updated (t : State) : Prop :=
       (∀ m, 1 ≤ m → m ≤ 20 →
         (let e := s.chain.node m
          let count := min 15 (e.failedFrames + 1)
          t.chain.node m =
            if e.state = .absent then { e with failedMark := false }
            else if e.failedMark = false then
              { e with state := .present, failedFrames := 0, lastGood := s.seq.frameNumber }
            else if e.state = .lost then { e with failedFrames := count, failedMark := false }
            else { e with
              state := if s.profile.lossThreshold ≤ count then .lost else .degraded
              failedFrames := count, failedMark := false })) ∧
       t.transit.alerts = s.transit.alerts ++ s.nodeAlerts t ∧
       (∀ m, lost t m → (∀ j, j < m → ¬ lost t j) → t.transit.nodeLosses = s.transit.nodeLosses ++ [m]) ∧
       ((∀ m, ¬ lost t m) → t.transit.nodeLosses = s.transit.nodeLosses)
     let stopping : Prop := ∃ m, s.seq.slot = some (.stop m)
     let halts : Prop := f.halted = true ∨ f.trapped = true
     (f.kind = .normal → ¬ stopping → (halts → s.seq.slot = none) → s.seq.startDue = false →
      ∃ t, exec .waitExpiry s = .next t ∧ updated t ∧ t.seq = { u.seq with
         elementTimer := none, frame := none
         sampler := if f.halted = true ∨ f.trapped = true then .halted else .waiting
         frameTimer := if f.halted = true ∨ f.trapped = true then none else u.seq.frameTimer
         activeSlot := if f.halted = true ∨ f.trapped = true then none else s.seq.activeSlot
         pendingSwitch := if f.halted = true ∨ f.trapped = true then none else s.seq.pendingSwitch } ∧
       t.table = s.table ∧ (s.chain.breakDue = true → t.chain.location = some ⟨false, 1, 0, s.chain.found + 1⟩) ∧
       (f.result = .dropped → SamePoolButCount s t) ∧ s.resultWritten t f ∧
       (∀ n, f.result = .granted n → s.pool.sound n → (s.resultBytes f).length ≤ (s.pool.entry n).capacity →
         t.pool.resultQueue = s.pool.resultQueue ++ [n] ∧ (∀ m, m ≠ n → t.pool.entry m = s.pool.entry m)) ∧
       SameExcept [.pool, .chain, .seq, .transit] u t) ∧
     (∀ m, s.pool.sound m → s.resultApart f m →
       (f.kind = .normal ∧ s.seq.slot = some (.stop m) ∨ f.kind = .single ∧ s.seq.slot = some (.single m)) →
       ∃ t, exec .waitExpiry s = .next t ∧ updated t ∧ s.resultWritten t f ∧
         Completed (u.resultJoined f.result) t m .ok
           (if f.kind = .normal then BitVec.ofNat 32 s.seq.frameNumber.toNat else BitVec.ofNat 32
             (s.seq.frameNumber.toNat + 65536 * (flags + if f.result = .dropped then 128 else 0))) 0 ∧
         t.seq = { u.seq with
           elementTimer := none, frame := none, sampler := .stopped, frameTimer := none, startDue := false
           activeSlot := none, slot := none } ∧
         SameExcept [.pool, .chain, .seq, .transit] u t) ∧
     (∀ m w, f.kind = .normal → halts → s.seq.slot = some (.select m) → s.pool.sound m → s.resultApart f m →
       s.seq.pendingSwitch = some w → ∃ t, exec .waitExpiry s = .next t ∧ updated t ∧ s.resultWritten t f ∧
         Completed (u.resultJoined f.result) t m .aborted (BitVec.ofNat 32 (samplerCode .halted)) 0 ∧
         t.seq = { u.seq with
           elementTimer := none, frame := none, sampler := .halted, frameTimer := none, startDue := false
           activeSlot := none, pendingSwitch := none, slot := none } ∧
         SameExcept [.pool, .chain, .seq, .transit] u t) ∧
     (∀ slot first last g, (∀ m, s.seq.slot = some (.select m) → s.resultApart f m) → f.kind = .normal →
       ¬ stopping → s.seq.startDue = true →
       ¬ halts → s.chain.engine.isSome = true → s.runsNext slot first last → first ≤ last →
       (s.element slot first).kind = 1 → (s.element slot first).trapReason = 0 →
       groupOf (s.element slot first).group = some g →
       ∃ t, exec .waitExpiry s = .next t ∧ updated t ∧ s.resultWritten t f ∧ t.seq.sampler = .running ∧
         s.switched (u.resultJoined f.result) t slot first last ∧
         s.frameSized t slot first last ∧
         ((∀ m, s.seq.slot ≠ some (.select m)) →
           t.pool.resultQueue = (s.resultJoined f.result).pool.resultQueue) ∧
         t.seq.overruns = min 65535 (s.seq.overruns + 1) ∧ t.seq.frameNumber = s.seq.frameNumber + 1 ∧
         t.seq.frameStart = u.clock.packTime ∧ t.seq.frameTimer = some (1000 * s.seq.period) ∧
         t.seq.startDue = false ∧ t.seq.frame.map (fun f => (f.slot, f.first, f.last, f.index, f.phase, f.late)) =
           some (slot, first, last, first, .converting, true) ∧
         t.chain.seqRequest = some (.convert ((s.seq.frameNumber + 1).setWidth 8) g) ∧
         SameExcept [.pool, .chain, .seq, .table, .transit] u t))) ∧
  ∀ (f : Frame) (n : Nat) (s : State), s.taking → s.memoryOk → s.seq.frame = some f → f.phase = .ended →
    f.result = .asked → f.kind = .normal → f.halted = false → f.trapped = false → (∀ m, s.seq.slot ≠ some (.stop m)) →
    s.seq.startDue = false → s.pool.inProgress = some (.sampler, n) →
    (s.chain.engine.isSome = true ∨ s.chain.noRequest ∧ s.chain.breakDue = false) →
    (s.resultBytes f).length ≤ 256 * n →
    ∃ t, exec .allocationComplete s = .next t ∧ t.seq = { s.seq with
        frame := none, sampler := .waiting, droppedFrames := t.seq.droppedFrames } ∧
      t.transit.alerts = s.transit.alerts ++ s.nodeAlerts t ∧
      (∀ reason, s.pool.allocFailure .sampler n s.profile.alertReserve = some reason →
        t.seq.droppedFrames = min 65535 (s.seq.droppedFrames + 1) ∧ t.pool.resultQueue = s.pool.resultQueue ∧
        t.pool.table = s.pool.table) ∧
      (s.pool.allocFailure .sampler n s.profile.alertReserve = none → ∃ number,
        s.pool.freeNumbers.head? = some number ∧ t.seq.droppedFrames = s.seq.droppedFrames ∧
        t.pool.resultQueue = s.pool.resultQueue ++ [number] ∧
        t.pool.entry number = ⟨.resultQueued, s.pool.freePages.take n, .sampler, false⟩ ∧
        ∀ i, i < (s.resultBytes f).length → t.pool.readBuffer number i = ((s.resultBytes f)[i]?).getD 0) ∧
      SameExcept [.pool, .chain, .seq, .transit] s t

/-! ## Sensing (R46 to R55) -/

/-- The calibration of a raw current (R48): an overrange takes the bound of its sign, any other reading is raw plus the
rounded product plus the offset, and a value outside ±2,000,000 mA takes the bound; I_SAT marks both. The shunt values
are those of the profile in use. -/
def Obligations.CurrentIsCalibratedAndBounded : Prop :=
  (∀ raw gain offset : Int, -2200000 ≤ raw → raw ≤ 2200000 →
    (raw = 2200000 → calibrateCurrent raw gain offset = (2000000, true)) ∧
    (raw = -2200000 → calibrateCurrent raw gain offset = (-2000000, true)) ∧
    (-2200000 < raw → raw < 2200000 → ∃ product : Int,
      2 * (1000000 * product - raw * gain) ≤ 1000000 ∧ -1000000 ≤ 2 * (1000000 * product - raw * gain) ∧
      (2 * (1000000 * product - raw * gain) = 1000000 → 0 < raw * gain) ∧
      (2 * (1000000 * product - raw * gain) = -1000000 → raw * gain < 0) ∧
      calibrateCurrent raw gain offset =
        if 2000000 < raw + product + offset then (2000000, true)
        else if raw + product + offset < -2000000 then (-2000000, true)
        else (raw + product + offset, false))) ∧
  ∀ (x : RawSample) (s : State), ((s.entryOf x).current, (s.entryOf x).iSat) =
    calibrateCurrent x.current s.profile.shuntGain s.profile.shuntOffset

/-- The alignment stages of a node slot in every row of R62: the computed fields cleared, Stage 1 alone with the mark
STALE and NOT_TIMED, or the sampling instant, Vc, Vcomp and the current of a GOOD block with an issue time (R62 to R67),
each with its node flags. A placed value is 0 of an empty view, the newest one ahead of the history, the oldest one
before it, the entry's own at its age, or interpolated between the two entries around it, wherever they stand, and
always between two values of the history (R65, R66). An evaluation applies this to every slot, counts itself, keeps the
issue record, awaits its report, hands its figures over with the frame number and its place in the frame, and takes
valid cells of PRESENT and DEGRADED nodes alone (R61, R68, R72). -/
def Obligations.CellsAreCalibratedPlacedAndCompensated : Prop :=
  (∀ (x : NodeSlot) (p : Profile) (n : Nat) (state : NodeState) (view : List HistoryEntry),
    (let y := x.evaluate p n state view
     let unbounded (raw : Nat) : Int := raw + p.offset n + roundAway (raw * p.gain n) 1000000
     let vc (raw : Nat) : Int := max 0 (min 65535 (unbounded raw))
     let calibrated : Prop := y.vc.length = x.codes.length ∧
       (∀ (i raw : Nat), x.codes[i]? = some raw → (y.vc[i]?).map Int.ofNat = some (vc raw)) ∧
       (y.flags.vcSat = true ↔ ∃ raw ∈ x.codes, unbounded raw < 0 ∨ 65535 < unbounded raw)
     (state = .absent ∨ x.cellMark = .failed ∨ x.cellMark = .notGathered ∨ x.cellMark = .stale ∧ x.codes = [] →
       y = { x with vc := [], vcomp := [], ts := none, current := 0, flags := .clear }) ∧
     (state ≠ .absent → x.cellMark = .stale ∧ x.codes ≠ [] ∨
         x.cellMark = .good ∧ (∀ c, x.capture = some c → c.issue = none) →
       calibrated ∧ y = { x with
         cellMark := .stale, vc := y.vc, vcomp := y.vc, ts := none, current := 0
         flags := { NodeFlags.clear with notTimed := true, vcSat := y.flags.vcSat } }) ∧
     ∀ (c : Capture) (issue : Word), state ≠ .absent → x.cellMark = .good → x.capture = some c →
       c.issue = some issue →
       (let ts := issue + BitVec.ofNat 32 (c.hops * p.hopDelay + c.offset)
        let at_ := place view HistoryEntry.current ts
        let uncomped (channel : Nat) (raw : Nat) : Int :=
          vc raw + roundAway (at_.value * p.resistance n channel) 100000
        calibrated ∧ y.vcomp.length = x.codes.length ∧
        (∀ (i raw : Nat), x.codes[i]? = some raw →
          (y.vcomp[i]?).map Int.ofNat = some (max 0 (min 65535 (uncomped (i + 1) raw)))) ∧
        (y.flags.vcompSat = true ↔ ∃ i raw, x.codes[i]? = some raw ∧
          (uncomped (i + 1) raw < 0 ∨ 65535 < uncomped (i + 1) raw)) ∧
        (y.flags.currentSat = true ↔ ∃ e ∈ at_.used, e.iSat = true) ∧
        y = { x with
          vc := y.vc, vcomp := y.vcomp, ts := some ts, current := at_.value
          flags := { NodeFlags.clear with
            currentAhead := at_.ahead, currentAged := at_.aged, noCurrent := view.isEmpty
            currentSat := y.flags.currentSat, vcSat := y.flags.vcSat, vcompSat := y.flags.vcompSat } }))) ∧
  (∀ (view : List HistoryEntry) (value : HistoryEntry → Int) (ts : Word),
    (view = [] → place view value ts = ⟨0, false, false, true, []⟩) ∧
    ∀ oldest newest, view.head? = some oldest → view.getLast? = some newest →
      (let ahead : Prop := 1 ≤ age ts newest.tag ∧ age ts newest.tag < 2 ^ 31
       let g := age newest.tag ts
       let ageOf (e : HistoryEntry) : Nat := age newest.tag e.tag
       (ahead → place view value ts = ⟨value newest, true, false, false, [newest]⟩) ∧
       (¬ ahead → ageOf oldest < g → place view value ts = ⟨value oldest, false, true, false, [oldest]⟩) ∧
       (¬ ahead → g ≤ ageOf oldest → view.Pairwise (fun a b => ageOf b < ageOf a) →
         (∀ e ∈ view, ageOf e = g → place view value ts = ⟨value e, false, false, false, [e]⟩) ∧
         ∀ pre a b post, view = pre ++ a :: b :: post → ageOf b < g → g < ageOf a → place view value ts =
           ⟨value a + roundAway ((value b - value a) * ((ageOf a - g : Nat) : Int)) (ageOf a - ageOf b),
             false, false, false, [a, b]⟩) ∧
       ∃ lo ∈ view, ∃ hi ∈ view, value lo ≤ (place view value ts).value ∧ (place view value ts).value ≤ value hi)) ∧
  ∀ (s : State) (patrol : Bool),
    (∀ n, 1 ≤ n → n ≤ 20 → (s.evaluate patrol).1.slot n =
      (s.table.slot n).evaluate s.profile n (s.chain.node n).state s.sensing.history) ∧
    (s.evaluate patrol).1.evalCount = s.table.evalCount + 1 ∧
    (s.evaluate patrol).1.issueA = s.table.issueA ∧ (s.evaluate patrol).1.issueB = s.table.issueB ∧
    (s.evaluate patrol).1.aggregate = some (s.evaluate patrol).2 ∧
    (s.evaluate patrol).1.align = .awaitingReport ∧
    (s.evaluate patrol).2.frameNumber = s.seq.frameNumber ∧ (s.evaluate patrol).2.place = s.table.evalCount + 1 ∧
    (∀ m ∈ (s.evaluate patrol).2.contributed,
      (s.chain.node m).state = .present ∨ (s.chain.node m).state = .degraded) ∧
    (patrol = true → (s.evaluate patrol).2.outcome = .notEvaluated ∧ (s.evaluate patrol).2.reason = .patrol)

/-- The aggregates of an evaluation over its valid cells and sensors, taken in ascending order of node and channel: which
these are, their count, the first of the lowest and of the highest Vcomp, Vc and temperature with its place, the sum of Vc,
the mean of Vcomp rounded half up and the imbalance, with either kind absent where it has none (R68 to R70, R72). The
plausibility outcome takes the first reason of R71's list that applies, or compares the pack voltage at T_issue(A) with a
tenth of the sum of Vc, an equal difference passing (R71). -/
def Obligations.AggregatesAndPlausibilityFollowTheValidCells : Prop :=
  ∀ (s : State) (patrol : Bool),
    (let t := (s.evaluate patrol).1
     let a := (s.evaluate patrol).2
     let p := s.profile
     let counts (n : Nat) : Prop := 1 ≤ n ∧ n ≤ 20 ∧
       ((s.chain.node n).state = .present ∨ (s.chain.node n).state = .degraded)
     let valid (x : ValidCell) : Prop := counts x.node ∧ (t.slot x.node).cellMark = .good ∧ 1 ≤ x.channel ∧
       x.channel ≤ (s.chain.node x.node).cells ∧ (t.slot x.node).vc[x.channel - 1]? = some x.vc ∧
       (t.slot x.node).vcomp[x.channel - 1]? = some x.vcomp
     let sensed (x : Extreme) : Prop := counts x.node ∧ (t.slot x.node).tempMark = .good ∧ 1 ≤ x.channel ∧
       x.channel ≤ (s.chain.node x.node).temps ∧
       ∃ w : Half, (t.slot x.node).temps[x.channel - 1]? = some w ∧ w ≠ 0x8000 ∧ x.value = w.toInt
     (∃ cells : List ValidCell,
       cells.Pairwise (fun x y => x.node < y.node ∨ x.node = y.node ∧ x.channel < y.channel) ∧
       (∀ x, x ∈ cells ↔ valid x) ∧ a.validCells = cells.length ∧ (a.cells = none ↔ cells = []) ∧
       (∀ n, n ∈ a.contributed ↔ ∃ x ∈ cells, x.node = n) ∧
       (∀ f, a.cells = some f →
         (let sumVc := (cells.map (·.vc)).sum
          let sumVcomp := (cells.map (·.vcomp)).sum
          FirstLowest (cells.map fun x => ⟨x.vcomp, x.node, x.channel⟩) f.minVcomp ∧
          FirstHighest (cells.map fun x => ⟨x.vcomp, x.node, x.channel⟩) f.maxVcomp ∧
          FirstLowest (cells.map fun x => ⟨x.vc, x.node, x.channel⟩) f.minVc ∧
          FirstHighest (cells.map fun x => ⟨x.vc, x.node, x.channel⟩) f.maxVc ∧ f.sumVc = sumVc ∧
          f.meanVcomp = (2 * sumVcomp + cells.length) / (2 * cells.length) ∧
          (f.imbalance : Int) = f.maxVcomp.value - f.minVcomp.value)) ∧
       (let complete : Prop := ∀ n channel, 1 ≤ n → n ≤ p.declared → 1 ≤ channel → channel ≤ p.cellCount n →
          ∃ x ∈ cells, x.node = n ∧ x.channel = channel
        (patrol = true → a.outcome = .notEvaluated ∧ a.reason = .patrol) ∧
        (patrol = false → ¬ complete → a.outcome = .notEvaluated ∧ a.reason = .incomplete) ∧
        (patrol = false → complete → s.table.issueA = none → a.outcome = .notEvaluated ∧ a.reason = .noIssue) ∧
        ∀ ts, patrol = false → complete → s.table.issueA = some ts →
          (let at_ := place s.sensing.history (fun e => (e.packMv : Int)) ts
           let full : Prop := ∃ e ∈ at_.used, e.vSat = true ∧ e.packMv = 1000000
           let total := ((cells.map (·.vc)).sum + 5) / 10
           (s.sensing.history = [] → a.outcome = .notEvaluated ∧ a.reason = .noHistory) ∧
           (s.sensing.history ≠ [] → full → a.outcome = .notEvaluated ∧ a.reason = .vSat) ∧
           (s.sensing.history ≠ [] → ¬ full → a.reason = .noReason ∧ (a.packMv : Int) = at_.value ∧
             a.cellMv = total ∧ a.packAhead = at_.ahead ∧ a.packAged = at_.aged ∧
             a.outcome = if p.plausibility < (at_.value - total).natAbs then .violation else .pass)))) ∧
     ∃ sensors : List Extreme,
       sensors.Pairwise (fun x y => x.node < y.node ∨ x.node = y.node ∧ x.channel < y.channel) ∧
       (∀ x, x ∈ sensors ↔ sensed x) ∧ (a.temps = none ↔ sensors = []) ∧
       ∀ f, a.temps = some f → FirstLowest sensors f.minTemp ∧ FirstHighest sensors f.maxTemp)

/-- A sample enters the history as its newest entry, the oldest leaving at 128; a periodic sample is delivered to both
blocks and restarts the sample timer, a burst sample before the eighth is summed (R46, R49, R50, R52, R54, R55), and
outside PATROL none is taken; the eighth, with the burst's report, stands in `PatrolsAreJudged`. That an expiry lets the
timer's time pass is the model's choice (log entry 6); the reading is the command's, and an idle step repeats the last
one (log entry 35). -/
def Obligations.SamplesEnterTheHistory : Prop :=
  ∀ (r : Nat) (x : RawSample) (s : State), s.taking → s.historyBounded →
    (let u := s.elapse r
     let current := calibrateCurrent x.current s.profile.shuntGain s.profile.shuntOffset
     let entry (now : Word) : HistoryEntry := ⟨now, current.1, (min 1000000 x.pack).toNat, (min 1000000 x.link).toNat,
       current.2, decide (1000000 < x.pack ∨ 1000000 < x.link)⟩
     let kept := if s.sensing.history.length = 128 then s.sensing.history.tail else s.sensing.history
     (s.sensing.sampleTimer = some r → exec (.sampleTimerExpiry x) s = .next { u with
       inputs := { u.inputs with sense := x }
       sensing := { u.sensing with history := kept ++ [entry u.clock.packTime], sampleTimer := some 250 }
       transit := { u.transit with toProtection := u.transit.toProtection ++ [entry u.clock.packTime]
                                   toContactors := u.transit.toContactors ++ [entry u.clock.packTime] } }) ∧
     (s.sleep.power = .patrol → exec (.burstRequest x) s = .next { s with
       inputs := { s.inputs with sense := x }
       sensing := { s.sensing with history := [entry s.clock.packTime], burstCount := 1, burstSum := current.1
                                   burstSat := current.2, burstTimer := some 250 }
       cont := { s.cont with entry := none }
       transit := { s.transit with burst := false } }) ∧
     (s.sleep.power ≠ .patrol →
       exec (.burstRequest x) s = .next { s with transit := { s.transit with burst := false } }) ∧
     (s.sensing.burstTimer = some r → s.sleep.power ≠ .patrol → exec (.burstSample x) s = .next { u with
       sensing := { u.sensing with burstTimer := none } }) ∧
     (s.sensing.burstTimer = some r → s.sleep.power = .patrol → s.sensing.burstCount + 1 < 8 →
      exec (.burstSample x) s = .next { u with
       inputs := { u.inputs with sense := x }
       sensing := { u.sensing with history := kept ++ [entry u.clock.packTime]
                                   burstCount := s.sensing.burstCount + 1
                                   burstSum := s.sensing.burstSum + current.1
                                   burstSat := s.sensing.burstSat || current.2, burstTimer := some 250 } }))

/-- A delivered entry is an evaluation point of both current kinds (R81, R82, R83): their counters and latches, and the
TRIP alert with its report, the demand and the kill gate of each kind newly latched (R85, R90). The packing of the
payload and its signs and zeros, such as the negative limit of CURRENT_CHARGE, are the model's (log entries 18 and 25).
-/
def Obligations.HistoryEntriesAreJudged : Prop :=
  ∀ (e : HistoryEntry) (rest : List HistoryEntry) (s : State), s.taking → s.transit.toProtection = e :: rest →
    (let violates (k : TripKind) : Prop :=
       if k = .currentDischarge then (s.profile.dischargeMax : Int) < e.current ∨ e.iSat = true ∧ e.current = 2000000
       else e.current < -(s.profile.chargeMax : Int) ∨ e.iSat = true ∧ e.current = -2000000
     let currentKind (k : TripKind) : Prop := k = .currentDischarge ∨ k = .currentCharge
     ∃ t, exec .historyEntryAtProtection s = .next t ∧ t.transit.toProtection = rest ∧
       (∀ k, currentKind k → violates k → t.prot.counter k = min 15 (s.prot.counter k + 1) ∧
         t.prot.latch k = if s.profile.persistenceOf k ≤ min 15 (s.prot.counter k + 1) then
             some ((s.prot.latch k).getD (s.profile.actionOf k)) else s.prot.latch k) ∧
       (∀ k, currentKind k → ¬ violates k → t.prot.counter k = 0 ∧ t.prot.latch k = s.prot.latch k) ∧
       (∀ k, ¬ currentKind k → t.prot.counter k = s.prot.counter k ∧ t.prot.latch k = s.prot.latch k) ∧
       ((∀ k, t.prot.latch k = s.prot.latch k) → t.transit.alerts = s.transit.alerts) ∧
       s.tripsShown t (fun k => ⟨0, min 15 (s.prot.counter k + 1), 0, 0, e.current,
         if k = .currentDischarge then s.profile.dischargeMax else -(s.profile.chargeMax : Int), e.tag.toNat⟩) ∧
       t.prot.stale = s.prot.stale ∧ t.prot.stalenessTimer = s.prot.stalenessTimer ∧
       t.prot.lastEvaluation = s.prot.lastEvaluation ∧ SamePoolButCount s t ∧
       SameExcept [.pool, .prot, .transit] s t)

/-- A delivered entry is kept as the newest and, in PRECHARGING, HOLDOFF and WELD_CHECK, ends the state when its test
passes (R96, R101, R104, R107). Outside ACTIVE no entry is delivered (R116): one that waits is dropped (the model's
choice, log entry 38). -/
def Obligations.EntriesEndTheContactorTests : Prop :=
  ∀ (e : HistoryEntry) (rest : List HistoryEntry) (s : State), s.taking → s.transit.toContactors = e :: rest →
    (s.sleep.power ≠ .active → exec .historyEntryAtContactor s = .next { s with
      transit := { s.transit with toContactors := rest } }) ∧
    (s.sleep.power = .active →
     let charged := s.cont.stepTimer = none ∧ 0 < e.packMv ∧ e.vSat = false ∧
       e.packMv * s.profile.ratio ≤ e.linkMv * 100
     let quietCurrent := e.iSat = false ∧ e.current.natAbs ≤ s.profile.interrupt
     let unwelded := e.linkMv * 100 < e.packMv * s.profile.weldFraction
     let u : State := { s with cont := { s.cont with entry := some e }, transit := { s.transit with toContactors := rest } }
     ((s.cont.state = .precharging → ¬ charged) → (s.cont.state = .holdoff → ¬ quietCurrent) →
       (s.cont.state = .weldCheck → ¬ unwelded) → exec .historyEntryAtContactor s = .next u) ∧
     (s.cont.state = .precharging → charged → ∃ t, exec .historyEntryAtContactor s = .next t ∧
       t.cont = { u.cont with
         state := .posClosing
         commands := ⟨true, true, true⟩
         prechargeTimer := none
         prechargeMs := (s.clock.packTime - s.cont.prechargeStart).toNat / 1000
         stepTimer := some (1000 * s.profile.window)
         stepStart := s.clock.packTime
         watches := t.cont.watches } ∧ t.watchesAfresh ∧ u.moveReported t ∧
       t.transit.alerts = s.transit.alerts ∧ SamePoolButCount s t ∧ SameExcept [.pool, .cont, .transit] s t) ∧
     (s.cont.state = .holdoff → quietCurrent → ∃ t, exec .historyEntryAtContactor s = .next t ∧
       u.posOpens t false ∧ u.moveReported t ∧ t.transit.alerts = s.transit.alerts ∧
       SameExcept [.pool, .cont, .transit] s t) ∧
     (s.cont.state = .weldCheck → unwelded → ∃ t, exec .historyEntryAtContactor s = .next t ∧
       u.negOpens t s.cont.weldUnchecked ∧ u.moveReported t ∧ t.transit.alerts = s.transit.alerts ∧
       SameExcept [.pool, .cont, .transit] s t))

/-! ## Protection (R83 to R89) -/

/-- The kinds that trip without an evaluation: staleness, a report of leaving OPEN, a lost node, the SAFE_OPEN line and
a tamper event, each on its own condition (R84 to R89). In ASLEEP the staleness timer's time passes by ticks of the
low-power clock; that an expiry lets the timer's time pass is the model's choice (log entry 6). Each trip shows its
report, its demand and the kill gate (R83, R85, R90), the packing of the payload and its zeros, and the time since the
last evaluation counted modulo 2^32 µs, being the model's (log entries 17, 18, 25 and 37); a SAFE_OPEN deassertion that
deasserts the gate finds the waiting assertion taken (DEDUCED, log entry 46). -/
def Obligations.SupervisionLineAndTamperTrip : Prop :=
  ∀ s : State, s.taking →
    (∀ r, s.prot.stalenessTimer = some r → s.sleep.power = .asleep → s.cont.state = .opened → s.workIdle →
      (let ticks := (r + 999) / 1000
       s.sleep.timersRunning = true → s.sleep.tamperLatch = none → s.inputs.pins.wakeIn = false →
       s.sleep.maxCount + ticks < 1000 * s.sleep.settings.maxSleep →
       s.sleep.wakeCount + ticks < 1000 * s.sleep.settings.interval →
       ∃ t, exec .stalenessTimerExpiry s = .next t ∧
         t.prot = { s.prot with stale := true, stalenessTimer := none } ∧
         t.clock.packTime = s.clock.packTime + BitVec.ofNat 32 (1000 * ticks) ∧
         t.sleep = { s.sleep with maxCount := s.sleep.maxCount + ticks, wakeCount := s.sleep.wakeCount + ticks } ∧
         SameExcept [.clock, .prot, .sleep] s t)) ∧
    (∀ r, s.prot.stalenessTimer = some r → s.sleep.power ≠ .asleep →
      (s.cont.state = .opened → exec .stalenessTimerExpiry s = .next { s.elapse r with
        prot := { (s.elapse r).prot with stale := true, stalenessTimer := none } }) ∧
      (s.cont.state ≠ .opened → ∃ t, exec .stalenessTimerExpiry s = .next t ∧
        s.tripped t .supervisionLoss { TripReport.plain with cause := 1, value := (s.elapse r).evaluationAge } ∧
        t.prot.stale = true ∧ t.prot.stalenessTimer = none ∧ t.prot.counters = s.prot.counters ∧
        SameExcept [.pool, .prot, .transit] (s.elapse r) t)) ∧
    (∀ b rest, s.transit.openReports = b :: rest →
      (b = true → s.prot.stale = true → ∃ t, exec .contactorStateReport s = .next t ∧
        s.tripped t .supervisionLoss { TripReport.plain with cause := 1, value := s.evaluationAge } ∧
        t.transit.openReports = rest ∧ SameExcept [.pool, .prot, .transit] s t) ∧
      (b = false ∨ s.prot.stale = false → exec .contactorStateReport s = .next { s with
        transit := { s.transit with openReports := rest } })) ∧
    (∀ n rest, s.transit.nodeLosses = n :: rest →
      (s.profile.openOnLoss = true → ∃ t, exec .nodeLostReport s = .next t ∧
        s.tripped t .supervisionLoss { TripReport.plain with cause := 2, node := n } ∧ t.transit.nodeLosses = rest ∧
        SameExcept [.pool, .prot, .transit] s t) ∧
      (s.profile.openOnLoss = false → exec .nodeLostReport s = .next { s with
        transit := { s.transit with nodeLosses := rest } })) ∧
    (s.inputs.pins.safeOpen = false → ∃ t, exec .safeOpenAssertion s = .next t ∧
      t.inputs.pins = { s.inputs.pins with safeOpen := true } ∧ t.killGate = true ∧
      t.transit.killEdges = s.transit.killEdges ++ (if s.killGate then [] else [true]) ∧
      (s.sleep.power = .active → s.tripped t .safeLine .plain) ∧ (s.sleep.power ≠ .active → t.prot = s.prot) ∧
      SameExcept [.inputs, .pool, .prot, .transit] s t) ∧
    (s.inputs.pins.safeOpen = true → exec .safeOpenAssertion s = .next s) ∧
    (∃ t, exec .safeOpenDeassertion s = .next t ∧ t.inputs.pins = { s.inputs.pins with safeOpen := false } ∧
      (t.killGate = true ↔ ∃ k, s.prot.latch k = some .immediateOpen) ∧
      (t.killGate = true ∨ s.killGate = false ∨ true ∉ s.transit.killEdges → t.transit.killEdges =
        s.transit.killEdges ++ (if s.killGate = t.killGate then [] else [false]) ∧
        SameExcept [.inputs, .pool, .transit] s t) ∧
      (t.killGate = false → s.killGate = true → true ∈ s.transit.killEdges → s.commandsMatch →
        t.cont.commands = ⟨false, false, false⟩ ∧ t.transit.killEdges = [false] ∧
        (s.cont.state.closing = true ∨ s.cont.state = .closed ∨ s.cont.state = .holdoff →
          t.cont.cause = some .kill) ∧ s.killTaken t ∧
        ({ s with transit := { s.transit with killEdges := [false] } } : State).moveReported t ∧
        SameExcept [.inputs, .pool, .cont, .transit] s t)) ∧
    (s.sleep.power = .active → ∃ t, exec .tamperEventAtProtection s = .next t ∧ s.tripped t .tamper .plain ∧
      t.prot.tamperHeld = false ∧ SameExcept [.pool, .prot, .transit] s t) ∧
    (s.sleep.power ≠ .active → exec .tamperEventAtProtection s = .next { s with
      prot := { s.prot with tamperHeld := true } })

/-! ## Contactors (R96 to R112) -/

/-- A kill-gate assertion leaves every command off and begins the open path by the state it finds (R106 to R109, R112); its
deassertion changes no state or command; an orderly-open demand enters the open path from CLOSED through HOLDOFF, or at once
at POS_OPENING with a hold-off of 0, abandons a close, and has no effect elsewhere (R104, R111). A close abandoned completes
its CLOSE_PACK ABORTED with the cause and the state, and the path begins where R103 says, at once at its next state, or at
its end, with the contacts already OPEN; POS switched off under current raises OPENED_UNDER_CURRENT (R105), and a move into
OPEN is reported (R95). A CLEAR_TRIPS that deasserts the gate finds an assertion that still waits taken (DEDUCED, log entry
46). The codes and the packing are the model's (log entries 15, 18 and 24). -/
def Obligations.KillsAndDemandsOpenThePack : Prop :=
  ∀ s : State, s.taking → s.commandsMatch →
    (let killed : State := { s with transit := { s.transit with killEdges := s.transit.killEdges.erase true } }
     let fewer : State := { s with transit := { s.transit with demands := s.transit.demands - 1 } }
     ((s.cont.state = .opened ∨ s.cont.state = .faulted ∨ s.cont.state = .negOpening) →
       exec .killGateAssertion s = .next killed) ∧
     (∃ t, exec .killGateAssertion s = .next t ∧ t.cont.commands = ⟨false, false, false⟩ ∧ s.killTaken t ∧
       killed.moveReported t ∧ SameExcept [.pool, .cont, .transit] s t) ∧
     (true ∈ s.transit.killEdges → s.killTaken s.takeWaitingKill ∧
       SameExcept [.pool, .cont, .transit] s s.takeWaitingKill) ∧
     (true ∉ s.transit.killEdges → s.takeWaitingKill = s) ∧
     exec .killGateDeassertion s = .next { s with
       transit := { s.transit with killEdges := s.transit.killEdges.erase false } } ∧
     (s.cont.state = .closed → s.profile.holdoff ≠ 0 → ∃ t, exec .orderlyOpenDemand s = .next t ∧
       t.cont = { (s.withRecord (some .orderly) 0 false).cont with
         state := .holdoff
         stepTimer := some (1000 * s.profile.holdoff)
         stepStart := s.clock.packTime
         watches := t.cont.watches } ∧ t.watchesAfresh ∧ fewer.moveReported t ∧
       t.transit.alerts = s.transit.alerts ∧ SamePoolButCount s t ∧ SameExcept [.pool, .cont, .transit] s t) ∧
     (s.cont.state = .closed → s.profile.holdoff = 0 → ∃ t, exec .orderlyOpenDemand s = .next t ∧
       (s.withRecord (some .orderly) 0 false).posOpens t false ∧ fewer.moveReported t ∧
       t.transit.alerts = s.transit.alerts ++ s.currentAlert .holdoff (some .orderly) ∧
       SameExcept [.pool, .cont, .transit] s t) ∧
     (s.cont.state.closing = true → ∃ t, exec .orderlyOpenDemand s = .next t ∧
       (s.withRecord (some .orderly) s.cont.faults s.cont.weldUnchecked).closeOpens t false ∧
       s.closeAborted t .orderly ∧ t.transit.alerts = s.transit.alerts ++ s.closingAlert .orderly ∧
       fewer.moveReported t ∧ SameExcept [.pool, .cont, .transit] s t) ∧
     (s.cont.state.closing = false → s.cont.state ≠ .closed → exec .orderlyOpenDemand s = .next fewer)) ∧
    ∀ (n : Nat) (d : Bool), s.orderTaken n .clearTrips → s.memoryOk → s.pool.sound n → s.workIdle →
      s.killGate = true → true ∈ s.transit.killEdges → ∃ t, exec (.clearTrips d) s = .next t ∧
        t.prot.counters = s.prot.counters ∧
        (t.killGate = true → t.transit.killEdges = s.transit.killEdges ∧ t.cont.commands = s.cont.commands) ∧
        (t.killGate = false → t.cont.commands = ⟨false, false, false⟩ ∧ t.transit.killEdges = [false] ∧
          ((s.body32 n 0).testBit 11 = false →
            s.cont.state.closing = true ∨ s.cont.state = .closed ∨ s.cont.state = .holdoff →
            t.cont.cause = some .kill)) ∧
        SameExcept [.inputs, .pool, .prot, .cont, .transit] s t

/-- An aux level is taken when its line has held it for 1 ms: it is logged, and it satisfies the wait of its state (R96,
R100 to R102, R106, R108), after a kill and where it ends the path too, with the OPEN_PACK that waits (R109) and the
report of a move into OPEN (R95); any other level changes no state and no command. The watch of the contactor then
starts, goes on or stops by R97's table of expected levels, and a change of state restarts all three. That the taking
lets the rest of the 1 ms pass, that a closing wait is met by a level newly taken alone, and OPEN_PACK's detail are the
model's choice (log entries 6, 18 and 24). -/
def Obligations.AuxLevelsAreHeldAndTaken : Prop :=
  ∀ (k : Contactor) (s : State), s.taking →
    (∀ b, (PinLevels.aux s.inputs.pins).get k = b → exec (.auxInputEdge k b) s = .next s) ∧
    (∀ b, (PinLevels.aux s.inputs.pins).get k ≠ b → ∃ t, exec (.auxInputEdge k b) s = .next t ∧
      PinLevels.aux t.inputs.pins = (PinLevels.aux s.inputs.pins).set k b ∧
      (s.sleep.power = .active → t.cont = { s.cont with
        holds := s.cont.holds.set k (if s.cont.aux.get k = b then none else some ⟨1000, s.clock.packTime⟩) }) ∧
      (s.sleep.power ≠ .active → t.cont = s.cont) ∧ SameExcept [.inputs, .cont] s t) ∧
    ∀ h, s.cont.holds.get k = some h → (s.cont.logs.get k).length ≤ 4 →
      (let level := (PinLevels.aux s.inputs.pins).get k
       let log := (if (s.cont.logs.get k).length = 4 then (s.cont.logs.get k).tail else s.cont.logs.get k) ++
         [⟨level, h.since⟩]
       let e := s.elapse h.remaining
       let u : State := { e with cont := { e.cont with
         aux := s.cont.aux.set k level, holds := e.cont.holds.set k none, logs := s.cont.logs.set k log } }
       ∃ t, exec (.auxLevelTaken k) s = .next t ∧ u.moveReported t ∧ t.transit.alerts = s.transit.alerts ∧
        SameExcept [.pool, .cont, .transit] u t ∧ (t.cont.state ≠ s.cont.state → t.watchesAfresh) ∧
        (t.cont.state = s.cont.state → SamePoolButCount u t ∧
          ∀ j, t.cont.watches.get j = if j = k then t.watchOf k (u.cont.watches.get k) else u.cont.watches.get j) ∧
        (s.cont.state = .negClosing → k = .neg → level = true → SamePoolButCount u t ∧ t.cont = { u.cont with
          state := .precharging
          commands := ⟨false, true, true⟩
          prechargeTimer := some (1000 * s.profile.prechargeMax)
          prechargeStart := u.clock.packTime
          stepTimer := some (1000 * s.profile.window)
          stepStart := u.clock.packTime
          watches := t.cont.watches }) ∧
        (s.cont.state = .precharging → k = .pre → level = true →
          t.cont = { u.cont with stepTimer := none, watches := t.cont.watches }) ∧
        (s.cont.state = .posClosing → k = .pos → level = true → SamePoolButCount u t ∧ t.cont = { u.cont with
          state := .preReleasing
          commands := ⟨true, true, false⟩
          stepTimer := some (1000 * s.profile.window)
          stepStart := u.clock.packTime
          watches := t.cont.watches }) ∧
        (s.cont.state = .preReleasing → k = .pre → level = false →
          t.cont = { u.cont with
            state := .closed
            commands := ⟨true, true, false⟩
            stepTimer := none
            closeSlot := none
            watches := t.cont.watches } ∧
          (s.cont.closeSlot = none → SamePoolButCount u t) ∧
          ∀ n, s.cont.closeSlot = some n → s.memoryOk → s.pool.sound n →
            Completed u t n .ok (BitVec.ofNat 32 s.cont.prechargeMs) 0) ∧
        (s.cont.state = .posOpening → k = .pos → level = false → u.posWaitEnds t s.cont.commands.neg) ∧
        (s.cont.state = .negOpening → k ≠ .pos → level = false → u.cont.aux.neg = false → u.cont.aux.pre = false →
          u.pathEnds t s.cont.weldUnchecked) ∧
        ((s.cont.state, k, level) ∉ [(.negClosing, Contactor.neg, true), (.precharging, .pre, true),
            (.posClosing, .pos, true), (.preReleasing, .pre, false), (.posOpening, .pos, false),
            (.negOpening, .neg, false), (.negOpening, .pre, false)] ∨
          s.cont.state = .negOpening ∧ k ≠ .pos ∧ (u.cont.aux.neg = true ∨ u.cont.aux.pre = true) →
          t.cont = { u.cont with watches := t.cont.watches }))

/-- The contactor timers that find a fault: the waits, the precharge limit, the weld window and the aux watch, each with
its sub-kind in the fault record and its CONTACTOR_FAULT alert (R97, R98, R100 to R108, R114, R179); a close abandoned
by one completes its CLOSE_PACK ABORTED and begins the path where R103 says, an opening goes on by its states to its end
(R106 to R109), every watch restarts with the state (R97), a move into or out of OPEN is reported (R95), and POS
switched off under current raises OPENED_UNDER_CURRENT (R105). That an expiry lets the timer's time pass, that the
faults of the closing waits, of the precharge and of the weld window stand in the fault record, the codes, the order of
two alerts, the levels and commands in bits 0 to 2 of a byte of the payload, and the numbers of the sub-kinds are the
model's choice (log entries 6, 15, 18, 24, 36, 58 and 59). -/
def Obligations.ContactorTimersFindFaults : Prop :=
  ∀ s : State, s.taking →
    (let since := s.cont.stepStart
     let faults := s.cont.faults
     let unchecked := s.cont.weldUnchecked
     let shown (u t : State) (alerts : List (AlertKind × List Byte)) : Prop := u.moveReported t ∧
       t.transit.alerts = s.transit.alerts ++ alerts ∧ SameExcept [.pool, .cont, .transit] u t
     (∀ r, s.cont.stepTimer = some r →
      (let u := s.elapse r
       (∀ k, (s.cont.state, k) ∈ [(.negClosing, Contactor.neg), (.precharging, .pre), (.posClosing, .pos),
          (.preReleasing, .pre)] → ∃ t, exec .stepTimerExpiry s = .next t ∧
         (u.withRecord (some .feedback) (faults ||| BitVec.ofNat 12 (2 ^ contactorCode k)) unchecked).closeOpens t
           false ∧ s.closeAborted t .feedback ∧
         shown u t (s.faultAlert .feedback k since :: s.closingAlert .feedback)) ∧
       (s.cont.state = .holdoff → ∃ t, exec .stepTimerExpiry s = .next t ∧ u.posOpens t false ∧
         shown u t (s.currentAlert .holdoff s.cont.cause)) ∧
       (s.cont.state = .posOpening → ∃ t, exec .stepTimerExpiry s = .next t ∧
         (u.withRecord s.cont.cause (faults ||| 1) unchecked).posWaitEnds t s.cont.commands.neg ∧
         shown u t [s.faultAlert .feedback .pos since]) ∧
       (s.cont.state = .weldCheck → ∃ t, exec .stepTimerExpiry s = .next t ∧
         (u.withRecord s.cont.cause (faults ||| 64) unchecked).negOpens t unchecked ∧
         shown u t [s.faultAlert .weld .pos since]) ∧
       (s.cont.state = .negOpening → ∃ t, exec .stepTimerExpiry s = .next t ∧
         (u.withRecord s.cont.cause (faults ||| (if s.cont.aux.neg then 2 else 0) |||
           (if s.cont.aux.pre then 4 else 0)) unchecked).pathEnds t unchecked ∧
         shown u t ((if s.cont.aux.neg then [s.faultAlert .feedback .neg since] else []) ++
           if s.cont.aux.pre then [s.faultAlert .feedback .pre since] else [])) ∧
       (s.cont.state = .opened ∨ s.cont.state = .closed ∨ s.cont.state = .faulted →
         exec .stepTimerExpiry s = .next { u with cont := { u.cont with stepTimer := none } }))) ∧
     (∀ r, s.cont.prechargeTimer = some r →
      (let u := s.elapse r
       (s.cont.state = .precharging → ∃ t, exec .prechargeTimerExpiry s = .next t ∧
         (u.withRecord (some .prechargeTimeout) (faults ||| 2048) unchecked).negOpens t unchecked ∧
         s.closeAborted t .prechargeTimeout ∧
         shown u t [s.faultAlert .prechargeTimeout .pre s.cont.prechargeStart]) ∧
       (s.cont.state ≠ .precharging → exec .prechargeTimerExpiry s = .next { u with
         cont := { u.cont with prechargeTimer := none } }))) ∧
     ∀ k w, s.cont.watches.get k = some w →
      (let u := s.elapse w.remaining
       let dropout := s.cont.tableLevel k = some true ∧ k ≠ .pre
       let kind : FaultKind := if dropout then .dropout else .feedback
       let cause : OpenCause := if dropout then .dropout else .feedback
       let bit := BitVec.ofNat 12 (2 ^ (contactorCode k + if dropout then 3 else 0))
       let found := s.faultAlert kind k w.since
       (s.cont.state = .opened → ∃ t, exec (.auxWatchExpiry k) s = .next t ∧
         t.cont = { u.cont with
           state := .faulted
           faults := faults ||| bit
           stepTimer := none
           watches := ⟨none, none, none⟩ } ∧ SamePoolButCount u t ∧ shown u t [found]) ∧
       (s.cont.state.closing = true → ∃ t, exec (.auxWatchExpiry k) s = .next t ∧
         (u.withRecord (some cause) (faults ||| bit) unchecked).closeOpens t false ∧
         s.closeAborted t cause ∧ shown u t (found :: s.closingAlert cause)) ∧
       (s.cont.state = .closed → ∃ t, exec (.auxWatchExpiry k) s = .next t ∧
         (u.withRecord (some cause) bit false).posOpens t false ∧
         shown u t (found :: s.currentAlert .closed (some cause))) ∧
       (s.cont.state = .holdoff → ∃ t, exec (.auxWatchExpiry k) s = .next t ∧
         (u.withRecord s.cont.cause (faults ||| bit) unchecked).posOpens t false ∧
         shown u t (found :: s.currentAlert .holdoff s.cont.cause)) ∧
       (s.cont.state = .posOpening ∨ s.cont.state = .weldCheck ∨ s.cont.state = .negOpening →
         ∃ t, exec (.auxWatchExpiry k) s = .next t ∧ t.cont = { u.cont with
           watches := u.cont.watches.set k none, faults := faults ||| bit } ∧
         SamePoolButCount s t ∧ shown u t [found]) ∧
       (s.cont.state = .faulted → exec (.auxWatchExpiry k) s = .next { u with
         cont := { u.cont with watches := u.cont.watches.set k none } })))

/-! ## Alerts (R142 to R144) -/

/-- The 20 bytes of a TRIP payload, field by field (R179). An arriving alert takes the next sequence number and joins the
list of at most 16, or is lost; a written record joins the Alert Queue with its bytes in its buffer, each field of the
common part at its offset and the payload from byte 12; when the allocation for the oldest alert fails, that alert is lost
and the next one's page is requested (R142, R144, R179), before the arbiter's next grant as the model chooses (log entry
49). -/
def Obligations.AlertsArriveAndAreWritten : Prop :=
  (∀ (k : TripKind) (action : TripAction) (r : TripReport), r.cause < 256 → r.counter < 256 → r.node < 256 →
    r.channel < 256 → -2 ^ 31 ≤ r.value → r.value < 2 ^ 32 → -2 ^ 31 ≤ r.limit → r.limit < 2 ^ 31 →
    r.reference < 2 ^ 32 →
    (let b := tripPayload k action r
     b.length = 20 ∧
     [TripKind.cellOv, .cellUv, .cellUvAbs, .tempHigh, .tempLow, .plausibility, .currentDischarge, .currentCharge,
       .supervisionLoss, .safeLine, .tamper][u8 b 0]? = some k ∧
     (1 ≤ u8 b 1 ∧ [TripAction.alertOnly, .orderlyOpen, .immediateOpen][u8 b 1 - 1]? = some action) ∧
     u8 b 2 = r.cause ∧ u8 b 3 = r.counter ∧ u8 b 4 = r.node ∧ u8 b 5 = r.channel ∧ u16 b 6 = 0 ∧
     (r.value < 2 ^ 31 → ofLeSigned (slice b 8 4) = r.value) ∧ (0 ≤ r.value → (u32 b 8 : Int) = r.value) ∧
     ofLeSigned (slice b 12 4) = r.limit ∧ u32 b 16 = r.reference)) ∧
  ∀ s : State, s.taking →
    (∀ kind payload rest, s.transit.alerts = (kind, payload) :: rest → ∃ t, exec .alertArrival s = .next t ∧
      t.transit.alerts = rest ∧ t.alerts.lastSequence = s.alerts.lastSequence + 1 ∧
      t.alerts.writing = s.alerts.writing ∧
      (s.alerts.pending.length < 16 → t.alerts.pending = s.alerts.pending ++
          [⟨kind, s.alerts.lastSequence + 1, s.clock.packTime, s.sleep.power, s.seq.frameNumber, payload⟩] ∧
        t.alerts.lostCount = s.alerts.lostCount ∧ t.link = s.link ∧
        (s.alerts.writing = none → t.pool.hasRequest .alert = true)) ∧
      (16 ≤ s.alerts.pending.length → t.alerts.pending = s.alerts.pending ∧ t.link.alertLost = true ∧
        t.alerts.lostCount = min 65535 (s.alerts.lostCount + 1) ∧
        t.alerts.firstLost = (if s.alerts.lostCount = 0 then some kind else s.alerts.firstLost)) ∧
      t.pool.table = s.pool.table ∧ t.pool.memory = s.pool.memory ∧ t.pool.alertQueue = s.pool.alertQueue ∧
      SameExcept [.link, .pool, .alerts, .transit] s t) ∧
    (∀ n a, s.alerts.writing = some (n, a) → s.memoryOk → s.pool.sound n →
      12 + a.payload.length ≤ (s.pool.entry n).capacity →
      ∃ t, exec .alertRecordWritten s = .next t ∧ t.alerts = { s.alerts with writing := none } ∧
        t.pool.entry n = { s.pool.entry n with state := .alertQueued } ∧
        t.pool.alertQueue = s.pool.alertQueue ++ [n] ∧ (∀ m, m ≠ n → t.pool.entry m = s.pool.entry m) ∧
        (1 ≤ t.orderByte n 0 ∧ [AlertKind.trip, .contactorFault, .openedUnderCurrent, .nodeLost, .nodeRecovered,
          .nodeCounterFull, .chainBreak, .chainMismatch, .sequenceTrap, .updateRejected, .updateLocked,
          .tamper][t.orderByte n 0 - 1]? = some a.kind) ∧
        [PowerState.active, .entering, .asleep, .patrol, .waking][t.orderByte n 1]? = some a.power ∧
        t.orderHalf n 2 = a.sequence.toNat ∧ t.orderWord n 4 = a.time.toNat ∧ t.orderHalf n 8 = a.frame.toNat ∧
        t.orderHalf n 10 = a.payload.length % 65536 ∧
        (∀ i b, a.payload[i]? = some b → t.pool.readBuffer n (12 + i) = b) ∧
        a.record.length = 12 + a.payload.length ∧
        (∀ i, i < a.record.length → t.pool.readBuffer n i = (a.record[i]?).getD 0) ∧
        (s.alerts.pending ≠ [] → t.pool.hasRequest .alert = true) ∧ SameExcept [.pool, .alerts] s t) ∧
    ∀ n x rest, s.pool.inProgress = some (.alert, n) → s.alerts.pending = x :: rest → s.alerts.writing = none →
      s.workIdle → s.pool.allocFailure .alert n s.profile.alertReserve ≠ none →
      ∃ t, exec .allocationComplete s = .next t ∧ t.link = { s.link with alertLost := true } ∧
        t.alerts = { s.alerts with pending := rest, lostCount := min 65535 (s.alerts.lostCount + 1)
                                   firstLost := if s.alerts.lostCount = 0 then some x.kind else s.alerts.firstLost } ∧
        (rest ≠ [] → t.pool.inProgress = some (.alert, 1)) ∧ t.pool.table = s.pool.table ∧
        t.pool.memory = s.pool.memory ∧ t.pool.alertQueue = s.pool.alertQueue ∧
        SameExcept [.link, .pool, .alerts] s t

/-! ## Sleep (R151 to R153, R157) -/

/-- The low-power tick in ASLEEP, PATROL, ENTERING and ACTIVE; WAKE_IN, the tamper latch and the max-sleep timer waking
the part, in the order of R151, WAKE_IN during a patrol's burst, which ends it without a report (R55), the wake timer
beginning a patrol or making one due (R26, R151, R152, R154, R157). In ENTERING the first reason becomes the pending
one, and a SLEEP request not yet granted is withdrawn, with the release step made at once (R150). A tamper edge is taken
in its own event, in ASLEEP at the next tick, with the TAMPER alert's payload and the lock and trip beside it (R153,
R172). That a tick's length passes with it, that the levels of the lines are the tick's operands, and that the two
expiries let the ticks up to the timer's compare value pass, each with its work, are the model's choice (log entry 14),
as are the cause's code, the packing of the payloads and COMMAND's argument 0 at a wake (log entries 17, 18 and 60); the
order of what the taking of the latch does is read by inference (DEDUCED, log entry 28). -/
def Obligations.LowPowerClockCountsAndWakes : Prop :=
  ∀ s : State, s.taking → s.workIdle →
    (∀ d, s.sleep.power = .asleep → s.sleep.timersRunning = true → s.sleep.tamperLatch = none →
      s.sleep.maxCount + 1 < 1000 * s.sleep.settings.maxSleep →
      s.sleep.wakeCount + 1 < 1000 * s.sleep.settings.interval →
      ∃ t, exec (.lowPowerTick false d) s = .next t ∧ t.clock = ⟨s.clock.packTime + 1000, 1000⟩ ∧
        t.sleep = { s.sleep with maxCount := s.sleep.maxCount + 1, wakeCount := s.sleep.wakeCount + 1 } ∧
        t.inputs.pins = { s.inputs.pins with wakeIn := false, tamperIn := d } ∧
        SameExcept [.clock, .inputs, .prot, .sleep] s t) ∧
    (∀ w d, s.sleep.power = .active → ∃ t, exec (.lowPowerTick w d) s = .next t ∧ t.clock.tick = 1000 ∧
      t.clock.packTime = s.clock.packTime + BitVec.ofNat 32 s.clock.tick ∧
      t.inputs.pins = { s.inputs.pins with wakeIn := w, tamperIn := d } ∧
      SameExcept [.clock, .inputs] (s.elapse s.clock.tick) t) ∧
    (∀ d, s.sleep.power = .asleep → s.sleep.nodesAsleep = true → s.sleep.tamperLatch = none →
      ∃ t, exec (.lowPowerTick true d) s = .next t ∧ t.wakeBegun .wakeLine (s.sleep.maxCount / 1000) ∧
        t.clock.packTime = s.clock.packTime + 1000) ∧
    (∀ d, s.sleep.power = .patrol → s.sleep.phase = .patrolBurst → s.sleep.nodesAsleep = false →
      ∃ t, exec (.lowPowerTick true d) s = .next t ∧ (s.elapse s.clock.tick).awake t ∧ t.sleep.wakeOut = true ∧
        t.sleep.lastReason = .wakeLine ∧ t.sleep.duration = s.sleep.maxCount / 1000 ∧ t.transit.burst = false ∧
        t.seq.frame = none ∧ t.chain.sleepRequest = none) ∧
    (∀ d, s.sleep.power = .patrol → s.sleep.timersRunning = true →
      s.sleep.maxCount + 1 < 1000 * s.sleep.settings.maxSleep →
      1000 * s.sleep.settings.interval ≤ s.sleep.wakeCount + 1 →
      ∃ t, exec (.lowPowerTick false d) s = .next t ∧ t.sleep =
        { s.sleep with maxCount := s.sleep.maxCount + 1, wakeCount := 0, patrolDue := true }) ∧
    (s.sleep.power = .asleep → s.sleep.timersRunning = true →
      s.sleep.maxCount < 1000 * s.sleep.settings.maxSleep → s.sleep.wakeCount < 1000 * s.sleep.settings.interval →
      (let toMax := 1000 * s.sleep.settings.maxSleep - s.sleep.maxCount
       let toWake := 1000 * s.sleep.settings.interval - s.sleep.wakeCount
       (s.sleep.tamperLatch = none → s.inputs.pins.wakeIn = false →
         (toMax ≤ toWake → s.sleep.nodesAsleep = true → ∀ c, (c = .maxSleepExpiry ∨ c = .wakeTimerExpiry) →
           ∃ t, exec c s = .next t ∧ t.wakeBegun .maxSleep s.sleep.settings.maxSleep ∧
             t.clock.packTime = s.clock.packTime + BitVec.ofNat 32 (1000 * toMax)) ∧
         (toWake < toMax → ∀ c, (c = .maxSleepExpiry ∨ c = .wakeTimerExpiry) →
           ∃ t, exec c s = .next t ∧ t.sleep.power = .patrol ∧ t.sleep.phase = .patrolTone ∧
             t.sleep.wakeCount = 0 ∧ t.sleep.patrolDue = false ∧ t.sleep.page = s.sleep.page ∧
             t.sleep.maxCount = s.sleep.maxCount + toWake ∧
             t.clock.packTime = s.clock.packTime + BitVec.ofNat 32 (1000 * toWake))) ∧
       (∀ v c level, s.sleep.tamperLatch = some v → s.sleep.nodesAsleep = true →
         ((c = .maxSleepExpiry ∨ c = .wakeTimerExpiry) ∧ level = s.inputs.pins.tamperIn ∨
           ∃ w, c = .lowPowerTick w level) →
         ∃ t, exec c s = .next t ∧ t.wakeBegun .tamper (s.sleep.maxCount / 1000) ∧ t.sleep.tamperLatch = none ∧
           t.sleep.tamperEdges = 0 ∧ t.prot.tamperHeld = true ∧ t.store.session = .locked ∧
           t.transit.alerts = s.transit.alerts ++ s.tamperAlerts v s.sleep.tamperEdges level ∧
           t.clock.packTime = s.clock.packTime + 1000))) ∧
    (s.sleep.power = .asleep → ∃ t, exec .tamperInEdge s = .next t ∧
      t.inputs.pins = { s.inputs.pins with tamperIn := true } ∧
      t.sleep = { s.sleep with tamperLatch := some (s.sleep.tamperLatch.getD s.clock.packTime)
                               tamperEdges := min 255 (s.sleep.tamperEdges + 1) } ∧
      SameExcept [.inputs, .sleep] s t) ∧
    (let edges := min 255 (s.sleep.tamperEdges + 1)
     let alerts := s.tamperAlerts (s.sleep.tamperLatch.getD s.clock.packTime) edges true
     (s.sleep.power = .active → ∃ t, exec .tamperInEdge s = .next t ∧ t.sleep.tamperLatch = none ∧
       t.sleep.tamperEdges = 0 ∧ t.store.session = .locked ∧ t.store.floor = s.store.floor ∧
       t.prot.latch .tamper = some ((s.prot.latch .tamper).getD (s.profile.actionOf .tamper)) ∧
       (∀ k, k ≠ .tamper → t.prot.latch k = s.prot.latch k) ∧ t.transit.alerts = s.transit.alerts ++ alerts ∧
       SameExcept [.inputs, .pool, .prot, .sleep, .store, .transit] s t) ∧
     ((s.sleep.power = .entering ∨ s.sleep.power = .waking ∨
         s.sleep.power = .patrol ∧ s.sleep.phase = .patrolSleep ∧ s.chain.sleepRequest = none) →
       (s.sleep.power = .entering → s.sleep.phase = .entrySleep → s.sleep.pendingReason = none →
         s.chain.sleepRequest = none) →
       ∃ t, exec .tamperInEdge s = .next t ∧ t.inputs.pins = { s.inputs.pins with tamperIn := true } ∧
         t.sleep = { s.sleep with
           tamperLatch := none, tamperEdges := 0
           pendingReason := if s.sleep.power = .waking then s.sleep.pendingReason
             else some (s.sleep.pendingReason.getD .tamper)
           duration := if s.sleep.power = .patrol ∧ s.sleep.pendingReason = none then s.sleep.maxCount / 1000
             else s.sleep.duration } ∧
         t.prot = { s.prot with tamperHeld := true } ∧ t.store.session = .locked ∧
         t.transit.alerts = s.transit.alerts ++ alerts ∧
         SameExcept [.inputs, .pool, .prot, .sleep, .store, .transit] s t) ∧
     (s.sleep.power = .patrol → (s.sleep.phase ≠ .patrolSleep ∨ s.chain.sleepRequest ≠ none) →
       s.chain.breakDue = false → ∃ t, exec .tamperInEdge s = .next t ∧ t.store.session = .locked ∧
         t.seq.frame = none ∧ t.transit.burst = false ∧
         (s.sleep.nodesAsleep = true → t.wakeBegun .tamper (s.sleep.maxCount / 1000) ∧ t.prot.tamperHeld = true ∧
           t.transit.alerts = s.transit.alerts ++ alerts) ∧
         (s.sleep.nodesAsleep = false → t.sleep.power = .active ∧ t.sleep.lastReason = .tamper ∧
           t.sleep.duration = s.sleep.maxCount / 1000 ∧ t.sleep.wakeOut = true ∧ t.prot.tamperHeld = false ∧
           t.transit.alerts = s.transit.alerts ++ alerts ++
             (if s.inputs.pins.safeOpen = true ∧ s.prot.latch .safeLine = none then
               [(.trip, tripPayload .safeLine .immediateOpen .plain)] else []) ++ s.tamperTrip))) ∧
    (s.sleep.power = .entering →
      (let u := s.elapse s.clock.tick
       (∀ w d, (w = true → s.sleep.pendingReason = none → s.sleep.phase = .entrySleep →
           s.chain.sleepRequest = none) → ∃ t, exec (.lowPowerTick w d) s = .next t ∧
         t.clock = ⟨s.clock.packTime + BitVec.ofNat 32 s.clock.tick, 1000⟩ ∧
         t.inputs.pins = { s.inputs.pins with wakeIn := w, tamperIn := d } ∧
         t.sleep = { s.sleep with
           pendingReason := if w then some (s.sleep.pendingReason.getD .wakeLine) else s.sleep.pendingReason } ∧
         SameExcept [.clock, .inputs, .sleep] u t) ∧
       (s.sleep.phase = .entrySleep → s.sleep.pendingReason = none → s.chain.sleepRequest ≠ none →
        (∀ d, ∃ t, exec (.lowPowerTick true d) s = .next t ∧
          (s.pool.releaseList ++ s.releaseNumbers ≠ [] → s.releaseBegun t ∧ t.sleep.power = .entering ∧
            t.sleep.pendingReason = some .wakeLine ∧ t.sleep.nodesAsleep = s.sleep.nodesAsleep ∧
            t.chain = { u.chain with sleepRequest := none } ∧
            SameExcept [.clock, .inputs, .pool, .chain, .sleep] u t) ∧
          (s.pool.releaseList = [] → s.releaseNumbers = [] → s.pool.resultQueue = [] → s.sleep.nodesAsleep = false →
            u.awake t ∧ t.sleep.wakeOut = true ∧ t.sleep.lastReason = .wakeLine ∧ t.sleep.duration = 0 ∧
            t.chain = { u.chain with sleepRequest := none })) ∧
        (s.store.slot = none → s.pool.releaseList ++ s.releaseNumbers ≠ [] →
          ∃ t, exec .tamperInEdge s = .next t ∧ t.chain = { s.chain with sleepRequest := none } ∧ s.releaseBegun t ∧
            t.sleep.power = .entering ∧ t.sleep.pendingReason = some .tamper ∧ t.prot.tamperHeld = true ∧
            t.store.session = .locked ∧ t.sleep.tamperLatch = none ∧ t.transit.alerts = s.transit.alerts ++
              s.tamperAlerts (s.sleep.tamperLatch.getD s.clock.packTime) (min 255 (s.sleep.tamperEdges + 1)) true))))

/-- Sleep entry from the end of SLEEP (R149): the release step with its queue, marks and count, and WAKE_OUT released
with a wake completion among them (R131, R159), begun and ended in one event where there is nothing to release; at its
end the selection, the history, the Sleep Page and ASLEEP, or the wake that waits (R150), the Link Port taking its
values of R138 with a fresh read-ahead. In a patrol the end of the tone begins the burst, and the end of SLEEP returns
to ASLEEP, begins the LATE patrol that fell due, or the wake that waits (R151, R154, R157). WAKING clears every pool
page outside the retained set (R132), and the end of its tone, or a wake with the nodes awake, completes it (R158). That
the expiry lets the frame's time pass is the model's choice (log entry 6), and so are the layout of the detail word (log
entry 18), the tone that ends on port B in ring mode (log entry 47), the newest place 0 of the cleared ring (log entry
51), the capture at 0 where the Link Port loses power (log entry 32), COMMAND's argument 0 there and at a wake (log
entry 60), the byte of the update count before its rise that the fetch captures (log entry 44) and the retained set
given up at the clearing (log entry 50); that the return that begins a LATE patrol raises the update count is read by
inference (DEDUCED, log entry 11). -/
def Obligations.SleepEntryAndWakeEnd : Prop :=
  (∀ (e : Engine) (r : Nat) (s : State), s.taking → s.listIdle → s.chain.noRequest → s.chain.engine = some e →
    e.requester = .sleepController → (e.port = .b ∨ s.chain.ringMode = false) → s.chain.txTimer = some r →
    (e.frame = .sleep → s.sleep.power = .entering → s.sleep.phase = .entrySleep →
      s.pool.releaseList ++ s.releaseNumbers ≠ [] → ∃ t, exec .transmissionEnd s = .next t ∧ s.releaseBegun t ∧
        t.sleep = { s.sleep with
          nodesAsleep := true, phase := .entryRelease, wakeOut := t.sleep.wakeOut
          wakeCompletion := t.sleep.wakeCompletion } ∧
        t.chain.engine = none ∧ SameExcept [.pool, .chain, .sleep] (s.elapse r) t) ∧
    (e.frame = .sleep → s.sleep.power = .entering → s.sleep.phase = .entrySleep →
      s.pool.releaseList ++ s.releaseNumbers = [] → ∃ t, exec .transmissionEnd s = .next t ∧
        (let u : State := { s.elapse r with sleep := { s.sleep with nodesAsleep := true } }
         (s.sleep.pendingReason = none → u.fellAsleep t ∧ t.chain.engine = none ∧ t.pool = { s.pool with
             resultQueue := [], retained := t.pool.retained, updateCount := t.pool.updateCount } ∧
           SameExcept [.link, .pool, .chain, .sensing, .cont, .sleep] u t) ∧
         ∀ w, s.sleep.pendingReason = some w → t.wakeBegun w 0 ∧ s.linkPoweredUp t ∧ t.sleep.nodesAsleep = true ∧
           t.sleep.phase = .wakeTone ∧ (s.chain.quietA = none →
             t.chain.engine.map (fun e => (e.requester, e.frame, e.port)) = some (.sleepController, .wakeTone, .a)) ∧
           SameExcept [.link, .pool, .chain, .sleep] u t)) ∧
    (e.frame = .wakeTone → s.sleep.power = .patrol → s.sleep.phase = .patrolTone →
      ∃ t, exec .transmissionEnd s = .next t ∧
        t.sleep = { s.sleep with nodesAsleep := false, phase := .patrolBurst } ∧
        t.transit = { s.transit with burst := true } ∧ t.chain.engine = none ∧ t.chain.quietTimer e.port = some 1000 ∧
        t.chain.nodes = s.chain.nodes ∧ SameExcept [.chain, .sleep, .transit] (s.elapse r) t) ∧
    (e.frame = .sleep → s.sleep.power = .patrol → s.sleep.phase = .patrolSleep → ∃ t, exec .transmissionEnd s = .next t ∧
      (s.sleep.pendingReason = none →
        (t.sleep = if s.sleep.patrolDue then { s.sleep with
            nodesAsleep := true, phase := .patrolTone, patrolDue := false
            patrol := some ⟨(s.elapse r).clock.packTime, true, 0, false, 0, 0, none, .clear, none⟩ }
          else { s.sleep with nodesAsleep := true, power := .asleep, phase := .idle, patrol := none }) ∧
        t.pool = { s.pool with updateCount := s.pool.updateCount + 1 } ∧
        t.sensing = { (s.elapse r).sensing with burstTimer := none } ∧
        t.transit = { s.transit with burst := false } ∧ t.chain.nodes = s.chain.nodes ∧
        (s.sleep.patrolDue = false → t.chain.engine = none ∧ t.chain.sleepRequest = none) ∧
        SameExcept [.pool, .chain, .sensing, .sleep, .transit] (s.elapse r) t) ∧
      (∀ w, s.sleep.pendingReason = some w → t.wakeBegun w s.sleep.duration ∧ s.linkPoweredUp t ∧
        t.sleep.nodesAsleep = true) ∧
      (s.sleep.patrolDue = true ∨ s.sleep.pendingReason ≠ none → s.chain.quietA = none →
        t.chain.engine.map (fun e => (e.requester, e.frame, e.port)) = some (.sleepController, .wakeTone, .a))) ∧
    (e.frame = .wakeTone → s.sleep.power = .waking → s.sleep.phase = .wakeTone →
      ∃ t, exec .transmissionEnd s = .next t ∧ (s.elapse r).awake t ∧ t.sleep.wakeOut = s.sleep.wakeOut ∧
        t.sleep.lastReason = s.sleep.lastReason ∧ t.sleep.duration = s.sleep.duration ∧
        t.sleep.page = s.sleep.page ∧ t.chain.nodes = s.chain.nodes ∧ t.chain.engine = none ∧
        t.chain.quietTimer e.port = some 1000 ∧ t.pool.alertQueue = s.pool.alertQueue ∧
        SameExcept [.pool, .chain, .seq, .sensing, .prot, .cont, .sleep, .transit] (s.elapse r) t)) ∧
  (∀ (n : Nat) (s : State), s.taking → s.workIdle → s.sleep.power = .entering → s.sleep.phase = .entryRelease →
    s.pool.releaseList = [n] → (1 ≤ n ∧ n ≤ 40) →
    (s.sleep.pendingReason = none → ∃ t, exec .releaseComplete s = .next t ∧ s.fellAsleep t ∧
      t.pool.entry n = { s.pool.entry n with state := .free, pages := [], marked := false } ∧
      (∀ m, m ≠ n → t.pool.entry m = s.pool.entry m) ∧ t.pool.releaseList = [] ∧
      t.pool.memory = s.pool.memory ∧ t.pool.alertQueue = s.pool.alertQueue ∧
      SameExcept [.link, .pool, .sensing, .cont, .sleep] s t) ∧
    ∀ w, s.sleep.pendingReason = some w → ∃ t, exec .releaseComplete s = .next t ∧
      t.sleep.page.settings = s.sleep.page.settings ∧ t.sleep.page.patrolCount = s.sleep.page.patrolCount ∧
      t.sleep.page.ring = s.sleep.page.ring ∧ t.sleep.page.entryTime = s.sleep.page.entryTime ∧
      s.linkPoweredUp t ∧
      (s.sleep.nodesAsleep = true → t.wakeBegun w 0 ∧ t.sensing = s.sensing) ∧
      (s.sleep.nodesAsleep = false → (∀ o, s.sleep.slot = some o → o.buffer ≠ n) →
        s.awake t ∧ t.sleep.lastReason = w ∧ t.sleep.duration = 0 ∧ t.sleep.wakeOut = true)) ∧
  ∀ (d : Bool) (s : State), s.taking → s.workIdle → s.sleep.power = .asleep → s.sleep.nodesAsleep = true →
    s.sleep.tamperLatch = none → ∃ t, exec (.lowPowerTick true d) s = .next t ∧ t.sleep.power = .waking ∧
      t.pool.retained = none ∧ t.pool.table = s.pool.table ∧ t.pool.alertQueue = s.pool.alertQueue ∧
      s.linkPoweredUp t ∧ ∀ a, memRead t.pool.memory a =
        if 1024 ≤ a ∧ a < 24576 ∧ a / 256 ∉ s.pool.retained.getD s.keptPages then 0 else memRead s.pool.memory a

/-- A patrol's steps (R154): the eighth burst sample reports the burst and begins the patrol frame, or, with no matched
enumeration, ends the patrol with no record; a patrol frame's ALIGN hands its record to the Sleep Controller, which
judges it (R155); the frame's end, at the end of its list or at an illegal element, whose trap it records without an alert
(R37), takes the failed nodes, counts the patrol, writes its summary (R156), and requests SLEEP, or wakes the part for the
first condition that holds. That an expiry lets the timer's time pass, place 0 for the first summary after the ring is
cleared, and NO_CELLS and NO_TEMPS set where no record came are the model's (log entries 6, 51 and 27). -/
def Obligations.PatrolsAreJudged : Prop :=
  (∀ (x : RawSample) (p : Patrol) (r : Nat) (s : State), s.taking → s.historyBounded → s.sleep.power = .patrol →
    s.sleep.phase = .patrolBurst → s.sleep.patrol = some p → s.sensing.burstTimer = some r →
    s.sensing.burstCount = 7 →
    (let u := s.elapse r
     let settings := s.sleep.page.settings
     let current := calibrateCurrent x.current s.profile.shuntGain s.profile.shuntOffset
     let mean := roundAway (s.sensing.burstSum + current.1) 8
     let sat := s.sensing.burstSat || current.2
     (∀ g, s.chain.enumStatus = .matched → s.chain.engine.isSome = true → settings.first ≤ settings.last →
       (s.element settings.slot settings.first).kind = 1 →
       (s.element settings.slot settings.first).trapReason = 0 →
       groupOf (s.element settings.slot settings.first).group = some g →
       ∃ t, exec (.burstSample x) s = .next t ∧
         t.sleep = { s.sleep with
           phase := .patrolFrame
           patrol := some { p with
             mean := mean, burstSat := sat, packMv := (min 1000000 x.pack).toNat
             linkMv := (min 1000000 x.link).toNat } } ∧
         t.sensing.burstTimer = none ∧ t.sensing.burstCount = 8 ∧ t.seq.frameNumber = s.seq.frameNumber + 1 ∧
         t.seq.frameStart = u.clock.packTime ∧ t.seq.sampler = s.seq.sampler ∧
         t.seq.frame.map (fun f => (f.kind, f.slot, f.first, f.last, f.index, f.phase, f.result)) =
           some (.patrol, settings.slot, settings.first, settings.last, settings.first, .converting, .notAsked) ∧
         t.chain.seqRequest = some (.convert ((s.seq.frameNumber + 1).setWidth 8) g) ∧
         (∀ m, (t.chain.node m).failedMark = false) ∧ t.table = FrameTable.reset ∧ SamePoolButCount s t ∧
         SameExcept [.inputs, .pool, .chain, .seq, .sensing, .table, .sleep] u t) ∧
     (s.chain.enumStatus ≠ .matched → s.workIdle → s.sleep.nodesAsleep = false → p.breaches = .clear →
       p.record = none → ∃ t, exec (.burstSample x) s = .next t ∧ u.awake t ∧ t.sleep.wakeOut = true ∧
         t.sleep.lastReason = (if s.profile.drain < mean.natAbs ∨ sat = true then .drain else .supervision) ∧
         t.sleep.duration = s.sleep.maxCount / 1000 ∧ t.sleep.failedSet = 0 ∧
         t.sleep.page.patrolCount = s.sleep.page.patrolCount + 1))) ∧
  ∀ (f : Frame) (p : Patrol) (r : Nat) (s : State), s.waits f r → f.kind = .patrol → f.result = .notAsked →
    s.sleep.power = .patrol → s.sleep.patrol = some p →
    (let u := s.elapse r
     let limits := s.profile
     (f.index + 1 < f.last → (s.element f.slot (f.index + 1)).kind = 6 →
       (s.element f.slot (f.index + 1)).trapReason = 0 → (s.element f.slot (f.index + 2)).kind = 4 →
       (s.element f.slot (f.index + 2)).trapReason = 0 → (s.element f.slot (f.index + 2)).argument ≠ 0 →
       (let a := (u.evaluate true).2
        ∃ t, exec .waitExpiry s = .next t ∧ t.table = { (u.evaluate true).1 with align := .idle } ∧
          t.sleep = { s.sleep with patrol := some { p with
            record := some a
            breaches := {
              vcHigh := p.breaches.vcHigh || a.cells.any fun c => decide ((limits.sleepMaxVc : Int) < c.maxVc.value)
              vcLow := p.breaches.vcLow || a.cells.any fun c => decide (c.minVc.value < (limits.sleepMinVc : Int))
              tempHigh := p.breaches.tempHigh || a.temps.any fun x => decide (limits.sleepTemp < x.maxTemp.value)
              imbalance := p.breaches.imbalance ||
                a.cells.any fun c => decide (limits.sleepImbalance < c.imbalance) } } } ∧
          t.seq = { u.seq with
            elementTimer := some (s.element f.slot (f.index + 2)).argument
            frame := some { f with index := f.index + 2 } } ∧
          SameExcept [.seq, .table, .sleep] u t)) ∧
     (∀ trap : Option Trap, f.index = f.last ∧ trap = p.trap ∨
         f.index < f.last ∧ (s.element f.slot (f.index + 1)).trapReason ≠ 0 ∧ trap = some ⟨f.index + 1,
           (s.element f.slot (f.index + 1)).kind, (s.element f.slot (f.index + 1)).trapReason⟩ →
       (let b := p.breaches
        let breach := b.vcHigh || b.vcLow || b.tempHigh || b.imbalance
        let drain := decide (limits.drain < p.mean.natAbs) || p.burstSat
        let failed (m : Nat) : Prop := 1 ≤ m ∧ m ≤ 20 ∧ (s.chain.node m).failedMark = true
        let supervision : Prop := (∃ m, failed m ∧ s.sleep.failedSet.getLsbD (m - 1) = true) ∨ trap ≠ none ∨
          p.record = none
        let place := if s.sleep.page.ringCount = 0 then 0 else (s.sleep.page.newest + 1) % 8
        let cells := p.record.bind (·.cells)
        let temps := p.record.bind (·.temps)
        ∃ t, exec .waitExpiry s = .next t ∧ t.seq.frame = none ∧
          (∀ m, t.chain.node m = { s.chain.node m with failedMark := false }) ∧
          (∀ m, 1 ≤ m → m ≤ 20 → (t.sleep.failedSet.getLsbD (m - 1) = true ↔ failed m)) ∧
          t.sleep.page.failed = t.sleep.failedSet ∧ t.sleep.page.patrolCount = s.sleep.page.patrolCount + 1 ∧
          t.sleep.page.trap = (if trap = none then s.sleep.page.trap else trap) ∧
          (∀ x ∈ t.transit.alerts, x ∈ s.transit.alerts ∨ x.1 = .trip) ∧
          t.sleep.page.ringCount = min 8 (s.sleep.page.ringCount + 1) ∧ t.sleep.page.newest = place ∧
          (∀ i, i ≠ place → t.sleep.page.ring[i]? = s.sleep.page.ring[i]?) ∧
          (∃ e, t.sleep.page.ring[place]? = some e ∧ e.time = p.start ∧ e.mean = p.mean ∧
            e.minVc = (cells.map fun c => c.minVc.value.toNat).getD 0 ∧
            e.maxVc = (cells.map fun c => c.maxVc.value.toNat).getD 0 ∧
            e.maxTemp = (temps.map fun x => x.maxTemp.value).getD 0 ∧
            e.flags.getLsbD 0 = b.vcHigh ∧ e.flags.getLsbD 1 = b.vcLow ∧ e.flags.getLsbD 2 = b.tempHigh ∧
            e.flags.getLsbD 3 = b.imbalance ∧ e.flags.getLsbD 4 = drain ∧ e.flags.getLsbD 5 = p.burstSat ∧
            (e.flags.getLsbD 6 = true ↔ ∃ m, failed m) ∧ (e.flags.getLsbD 7 = true ↔ supervision) ∧
            e.flags.getLsbD 8 = trap.isSome ∧ e.flags.getLsbD 9 = p.record.isNone ∧
            e.flags.getLsbD 10 = cells.isNone ∧ e.flags.getLsbD 11 = temps.isNone ∧
            e.flags.getLsbD 12 = p.late) ∧
          (breach = false → drain = false → ¬ supervision → t.sleep.power = .patrol ∧
            t.sleep.phase = .patrolSleep ∧ t.sleep.lastReason = s.sleep.lastReason ∧ t.prot = u.prot ∧
            t.seq.sampler = s.seq.sampler ∧ (s.chain.engine.isSome = true → t.chain.sleepRequest = some .sleep) ∧
            (s.chain.engine = none → s.chain.quietA = none →
              t.chain.engine.map (fun e => (e.requester, e.frame, e.port)) = some (.sleepController, .sleep, .a))) ∧
          ∀ w : WakeReason, w = (if breach then .patrolBreach else if drain then .drain else .supervision) →
            (breach = true ∨ drain = true ∨ supervision) → s.sleep.nodesAsleep = false →
            u.awake t ∧ t.sleep.wakeOut = true ∧ t.sleep.lastReason = w ∧ t.sleep.page.lastReason = w ∧
              t.sleep.duration = s.sleep.maxCount / 1000)))

/-! ## The Profile Store's events (R164 to R168, R172) -/

/-- The ends of an erase and of a programming, and the tamper lock (R164, R165, R172). The code 1 of TAMPER is the
model's (log entry 17), and so is the offset 0 of an UPDATE_REJECTED for a failed erase (log entry 63); the packing of that
payload is read from R174 by inference (DEDUCED, log entry 18). -/
def Obligations.EraseProgramAndTamperEndTheirOrders : Prop :=
  ∀ s : State, s.taking → s.memoryOk →
    (∀ n, s.store.slot = some (.erase n) → s.pool.sound n →
      (∃ t, exec (.eraseComplete true) s = .next t ∧
        Completed s t n .ok (BitVec.ofNat 32 (bankCode s.store.targetBank)) 0 ∧
        t.store = { s.store with session := .receiving, nextOffset := 0, slot := none } ∧
        SameExcept [.pool, .store, .transit] s t) ∧
      ∃ t, exec (.eraseComplete false) s = .next t ∧ Completed s t n .writeFailed 0 0 ∧ t.store.slot = none ∧
        t.store.session = s.store.session ∧ t.store.floor = s.store.floor ∧
        t.store.bank s.store.targetBank = { s.store.target with state := .invalid } ∧
        t.store.bank s.store.activeBank = s.store.active ∧
        t.transit.alerts = s.transit.alerts ++ [s.rejectedAlert 5 0] ∧
        SameExcept [.pool, .store, .transit] s t) ∧
    (∀ n offset bytes, s.store.slot = some (.program n offset bytes) → s.pool.sound n →
      (∃ t, exec (.programComplete true) s = .next t ∧
        Completed s t n .ok (BitVec.ofNat 32 (offset + bytes.length)) 0 ∧
        t.store.nextOffset = offset + bytes.length ∧ t.store.slot = none ∧ t.store.session = s.store.session ∧
        t.store.bank s.store.targetBank =
          { s.store.target with image := s.store.target.image.take offset ++ bytes } ∧
        t.store.bank s.store.activeBank = s.store.active ∧ t.store.floor = s.store.floor ∧
        SameExcept [.pool, .store, .transit] s t) ∧
      ∃ t, exec (.programComplete false) s = .next t ∧ Completed s t n .writeFailed 0 0 ∧ t.store.slot = none ∧
        t.store.session = .idle ∧ t.store.floor = s.store.floor ∧
        t.store.bank s.store.targetBank = { s.store.target with state := .invalid } ∧
        t.store.bank s.store.activeBank = s.store.active ∧
        t.transit.alerts = s.transit.alerts ++ [s.rejectedAlert 5 offset] ∧
        SameExcept [.pool, .store, .transit] s t) ∧
    (s.store.session = .locked → exec .tamperEventAtProfile s = .next s) ∧
    (s.store.session ≠ .locked → ∃ t, exec .tamperEventAtProfile s = .next t ∧ t.store.session = .locked ∧
      t.store.slot = none ∧ t.store.waitTimer = none ∧ t.store.floor = s.store.floor ∧
      t.store.inUse = s.store.inUse ∧ t.store.rejected = s.store.rejected ∧
      t.store.bank s.store.activeBank = s.store.active ∧
      (s.store.session ≠ .idle ∨ s.store.slot ≠ none →
        t.store.bank s.store.targetBank = { s.store.target with state := .invalid }) ∧
      (s.store.session = .idle → s.store.slot = none →
        t.store.bank s.store.targetBank = s.store.target ∧ t.pool = { s.pool with updateCount := t.pool.updateCount }) ∧
      (∀ o, s.store.slot = some o → s.pool.sound o.buffer → Completed s t o.buffer .aborted 1 0) ∧
      t.transit.alerts = s.transit.alerts ++ [(.updateLocked, [1])] ∧ SameExcept [.pool, .store, .transit] s t)

/-- The end of a verification, with the rejected-image count and its lock at 3, a report to a waiting activation, which
makes it when both conditions hold, with all that a change of CHAIN brings (R18, R45, R169), and the end of the
activation wait (R166 to R169). The checks are made in the order TAG, STRUCTURE, VERSION and RANGE, each over the
image's bytes at R181's offsets, and the first that fails gives the reason (R166). An image whose tag is right under a
key fails the check under any other key, and with any one byte changed, as the model reads R162 (log entry 1). The codes
of REJECTIONS and of the condition that did not hold, which one is named where neither or both hold, the packing of
UPDATE_REJECTED's payload with its offset 0, the time that the expiry lets pass, and the chain-change mark kept after it
are the model's (log entries 6, 17, 18, 29, 45 and 63). -/
def Obligations.VerificationAndActivationEnd : Prop :=
  (∀ (key : BitVec 128) (image : List Byte) (length : Nat), tagOk key image length = true → 16 ≤ length →
    (∀ key', key' ≠ key → tagOk key' image length = false) ∧
    ∀ before after b b', image = before ++ b :: after → b ≠ b' → before.length < length →
      tagOk key (before ++ b' :: after) length = false) ∧
  (∀ (key : BitVec 128) (floor declared : Word) (length : Nat) (image : List Byte),
    (let tag : Prop := leBytes 16 (Config.keyedTag key (image.take (length - 16))).toNat = slice image (length - 16) 16
     let reason := verifyReason key floor declared length image
     (¬ tag → reason = 1) ∧ (tag → ¬ ImageShape image length → reason = 2) ∧
     (tag → ImageShape image length → ¬ ImageVersion image declared floor → reason = 3) ∧
     (tag → ImageShape image length → ImageVersion image declared floor → ¬ ImageRanges image → reason = 4) ∧
     (tag → ImageShape image length → ImageVersion image declared floor → ImageRanges image → reason = 0))) ∧
  ∀ (n : Nat) (s : State), s.taking → s.memoryOk → s.pool.sound n →
    (s.store.slot = some (.verify n) →
      (let reason := verifyReason s.store.packKey s.store.floor s.store.declVersion s.store.declLength
         s.store.target.image
       ∃ t, exec .verifyComplete s = .next t ∧ t.store.slot = none ∧ t.store.floor = s.store.floor ∧
        t.store.inUse = s.store.inUse ∧ t.store.bank s.store.activeBank = s.store.active ∧
        SameExcept [.pool, .store, .transit] s t ∧
        (reason = 0 → Completed s t n .ok s.store.declVersion 0 ∧ t.store.session = .verified ∧
          t.store.bank s.store.targetBank = { s.store.target with state := .valid } ∧
          t.store.rejected = s.store.rejected ∧ t.transit.alerts = s.transit.alerts) ∧
        (reason ≠ 0 → Completed s t n .verifyFailed (BitVec.ofNat 32 reason) 0 ∧
          t.store.bank s.store.targetBank = { s.store.target with state := .invalid } ∧
          t.store.rejected = min 3 (s.store.rejected + 1) ∧
          t.store.session = (if 3 ≤ s.store.rejected + 1 then .locked else .idle) ∧
          t.transit.alerts = s.transit.alerts ++ [s.rejectedAlert reason 0] ++
            (if 3 ≤ s.store.rejected + 1 then [(.updateLocked, [0])] else [])))) ∧
    (s.store.session ≠ .activationPending ∨ s.activationReady = false →
      exec .activationConditionReport s = .next { s with
        transit := { s.transit with activation := s.transit.activation - 1 } }) ∧
    (s.store.session = .activationPending → s.activationReady = true → s.store.slot = some (.activate n) →
      s.workIdle → s.seq.slot = none → ∃ t, exec .activationConditionReport s = .next t ∧
        Completed s t n .ok (s.activationDetail s.store.chainChange) 0 ∧ s.activated t s.store.chainChange ∧
        t.transit = { s.transit with activation := s.transit.activation - 1 } ∧
        SameExcept [.pool, .chain, .seq, .prot, .store, .transit] s t) ∧
    ∀ r, s.store.waitTimer = some r →
      (s.store.session ≠ .activationPending → exec .activationWaitTimeout s = .next (s.elapse r)) ∧
      (s.store.session = .activationPending → s.store.slot = some (.activate n) →
        ∃ t, exec .activationWaitTimeout s = .next t ∧
          Completed (s.elapse r) t n .timeout (if s.contactorsSettled then 1 else 0) 0 ∧
          t.store = { (s.elapse r).store with session := .verified, slot := none, waitTimer := none } ∧
          SameExcept [.pool, .store] (s.elapse r) t)
end

