-- ==== Sys2Proof/Laws/State.lean ====
section
/-! SUPPORT. One lemma for each field of the state under each block update, true by `rfl`, so that no proof unfolds a
record update. -/

namespace Sys2Proof.Machine

open Sys2Proof

variable (s : State)

/-! ### `onClock` -/

@[simp] theorem State.onClock_clock (f : Clock → Clock) : (s.onClock f).clock = f s.clock := rfl
@[simp] theorem State.onClock_inputs (f : Clock → Clock) : (s.onClock f).inputs = s.inputs := rfl
@[simp] theorem State.onClock_link (f : Clock → Clock) : (s.onClock f).link = s.link := rfl
@[simp] theorem State.onClock_pool (f : Clock → Clock) : (s.onClock f).pool = s.pool := rfl
@[simp] theorem State.onClock_alerts (f : Clock → Clock) : (s.onClock f).alerts = s.alerts := rfl
@[simp] theorem State.onClock_chain (f : Clock → Clock) : (s.onClock f).chain = s.chain := rfl
@[simp] theorem State.onClock_seq (f : Clock → Clock) : (s.onClock f).seq = s.seq := rfl
@[simp] theorem State.onClock_sensing (f : Clock → Clock) : (s.onClock f).sensing = s.sensing := rfl
@[simp] theorem State.onClock_table (f : Clock → Clock) : (s.onClock f).table = s.table := rfl
@[simp] theorem State.onClock_prot (f : Clock → Clock) : (s.onClock f).prot = s.prot := rfl
@[simp] theorem State.onClock_cont (f : Clock → Clock) : (s.onClock f).cont = s.cont := rfl
@[simp] theorem State.onClock_sleep (f : Clock → Clock) : (s.onClock f).sleep = s.sleep := rfl
@[simp] theorem State.onClock_store (f : Clock → Clock) : (s.onClock f).store = s.store := rfl
@[simp] theorem State.onClock_transit (f : Clock → Clock) : (s.onClock f).transit = s.transit := rfl
@[simp] theorem State.onClock_pending (f : Clock → Clock) : (s.onClock f).pending = s.pending := rfl

/-! ### `onInputs` -/

@[simp] theorem State.onInputs_clock (f : Inputs → Inputs) : (s.onInputs f).clock = s.clock := rfl
@[simp] theorem State.onInputs_inputs (f : Inputs → Inputs) : (s.onInputs f).inputs = f s.inputs := rfl
@[simp] theorem State.onInputs_link (f : Inputs → Inputs) : (s.onInputs f).link = s.link := rfl
@[simp] theorem State.onInputs_pool (f : Inputs → Inputs) : (s.onInputs f).pool = s.pool := rfl
@[simp] theorem State.onInputs_alerts (f : Inputs → Inputs) : (s.onInputs f).alerts = s.alerts := rfl
@[simp] theorem State.onInputs_chain (f : Inputs → Inputs) : (s.onInputs f).chain = s.chain := rfl
@[simp] theorem State.onInputs_seq (f : Inputs → Inputs) : (s.onInputs f).seq = s.seq := rfl
@[simp] theorem State.onInputs_sensing (f : Inputs → Inputs) : (s.onInputs f).sensing = s.sensing := rfl
@[simp] theorem State.onInputs_table (f : Inputs → Inputs) : (s.onInputs f).table = s.table := rfl
@[simp] theorem State.onInputs_prot (f : Inputs → Inputs) : (s.onInputs f).prot = s.prot := rfl
@[simp] theorem State.onInputs_cont (f : Inputs → Inputs) : (s.onInputs f).cont = s.cont := rfl
@[simp] theorem State.onInputs_sleep (f : Inputs → Inputs) : (s.onInputs f).sleep = s.sleep := rfl
@[simp] theorem State.onInputs_store (f : Inputs → Inputs) : (s.onInputs f).store = s.store := rfl
@[simp] theorem State.onInputs_transit (f : Inputs → Inputs) : (s.onInputs f).transit = s.transit := rfl
@[simp] theorem State.onInputs_pending (f : Inputs → Inputs) : (s.onInputs f).pending = s.pending := rfl

/-! ### `onLink` -/

@[simp] theorem State.onLink_clock (f : Link → Link) : (s.onLink f).clock = s.clock := rfl
@[simp] theorem State.onLink_inputs (f : Link → Link) : (s.onLink f).inputs = s.inputs := rfl
@[simp] theorem State.onLink_link (f : Link → Link) : (s.onLink f).link = f s.link := rfl
@[simp] theorem State.onLink_pool (f : Link → Link) : (s.onLink f).pool = s.pool := rfl
@[simp] theorem State.onLink_alerts (f : Link → Link) : (s.onLink f).alerts = s.alerts := rfl
@[simp] theorem State.onLink_chain (f : Link → Link) : (s.onLink f).chain = s.chain := rfl
@[simp] theorem State.onLink_seq (f : Link → Link) : (s.onLink f).seq = s.seq := rfl
@[simp] theorem State.onLink_sensing (f : Link → Link) : (s.onLink f).sensing = s.sensing := rfl
@[simp] theorem State.onLink_table (f : Link → Link) : (s.onLink f).table = s.table := rfl
@[simp] theorem State.onLink_prot (f : Link → Link) : (s.onLink f).prot = s.prot := rfl
@[simp] theorem State.onLink_cont (f : Link → Link) : (s.onLink f).cont = s.cont := rfl
@[simp] theorem State.onLink_sleep (f : Link → Link) : (s.onLink f).sleep = s.sleep := rfl
@[simp] theorem State.onLink_store (f : Link → Link) : (s.onLink f).store = s.store := rfl
@[simp] theorem State.onLink_transit (f : Link → Link) : (s.onLink f).transit = s.transit := rfl
@[simp] theorem State.onLink_pending (f : Link → Link) : (s.onLink f).pending = s.pending := rfl

/-! ### `onPool` -/

@[simp] theorem State.onPool_clock (f : Pool → Pool) : (s.onPool f).clock = s.clock := rfl
@[simp] theorem State.onPool_inputs (f : Pool → Pool) : (s.onPool f).inputs = s.inputs := rfl
@[simp] theorem State.onPool_link (f : Pool → Pool) : (s.onPool f).link = s.link := rfl
@[simp] theorem State.onPool_pool (f : Pool → Pool) : (s.onPool f).pool = f s.pool := rfl
@[simp] theorem State.onPool_alerts (f : Pool → Pool) : (s.onPool f).alerts = s.alerts := rfl
@[simp] theorem State.onPool_chain (f : Pool → Pool) : (s.onPool f).chain = s.chain := rfl
@[simp] theorem State.onPool_seq (f : Pool → Pool) : (s.onPool f).seq = s.seq := rfl
@[simp] theorem State.onPool_sensing (f : Pool → Pool) : (s.onPool f).sensing = s.sensing := rfl
@[simp] theorem State.onPool_table (f : Pool → Pool) : (s.onPool f).table = s.table := rfl
@[simp] theorem State.onPool_prot (f : Pool → Pool) : (s.onPool f).prot = s.prot := rfl
@[simp] theorem State.onPool_cont (f : Pool → Pool) : (s.onPool f).cont = s.cont := rfl
@[simp] theorem State.onPool_sleep (f : Pool → Pool) : (s.onPool f).sleep = s.sleep := rfl
@[simp] theorem State.onPool_store (f : Pool → Pool) : (s.onPool f).store = s.store := rfl
@[simp] theorem State.onPool_transit (f : Pool → Pool) : (s.onPool f).transit = s.transit := rfl
@[simp] theorem State.onPool_pending (f : Pool → Pool) : (s.onPool f).pending = s.pending := rfl

/-! ### `onAlerts` -/

@[simp] theorem State.onAlerts_clock (f : AlertWriter → AlertWriter) : (s.onAlerts f).clock = s.clock := rfl
@[simp] theorem State.onAlerts_inputs (f : AlertWriter → AlertWriter) : (s.onAlerts f).inputs = s.inputs := rfl
@[simp] theorem State.onAlerts_link (f : AlertWriter → AlertWriter) : (s.onAlerts f).link = s.link := rfl
@[simp] theorem State.onAlerts_pool (f : AlertWriter → AlertWriter) : (s.onAlerts f).pool = s.pool := rfl
@[simp] theorem State.onAlerts_alerts (f : AlertWriter → AlertWriter) : (s.onAlerts f).alerts = f s.alerts := rfl
@[simp] theorem State.onAlerts_chain (f : AlertWriter → AlertWriter) : (s.onAlerts f).chain = s.chain := rfl
@[simp] theorem State.onAlerts_seq (f : AlertWriter → AlertWriter) : (s.onAlerts f).seq = s.seq := rfl
@[simp] theorem State.onAlerts_sensing (f : AlertWriter → AlertWriter) : (s.onAlerts f).sensing = s.sensing := rfl
@[simp] theorem State.onAlerts_table (f : AlertWriter → AlertWriter) : (s.onAlerts f).table = s.table := rfl
@[simp] theorem State.onAlerts_prot (f : AlertWriter → AlertWriter) : (s.onAlerts f).prot = s.prot := rfl
@[simp] theorem State.onAlerts_cont (f : AlertWriter → AlertWriter) : (s.onAlerts f).cont = s.cont := rfl
@[simp] theorem State.onAlerts_sleep (f : AlertWriter → AlertWriter) : (s.onAlerts f).sleep = s.sleep := rfl
@[simp] theorem State.onAlerts_store (f : AlertWriter → AlertWriter) : (s.onAlerts f).store = s.store := rfl
@[simp] theorem State.onAlerts_transit (f : AlertWriter → AlertWriter) : (s.onAlerts f).transit = s.transit := rfl
@[simp] theorem State.onAlerts_pending (f : AlertWriter → AlertWriter) : (s.onAlerts f).pending = s.pending := rfl

/-! ### `onChain` -/

@[simp] theorem State.onChain_clock (f : Chain → Chain) : (s.onChain f).clock = s.clock := rfl
@[simp] theorem State.onChain_inputs (f : Chain → Chain) : (s.onChain f).inputs = s.inputs := rfl
@[simp] theorem State.onChain_link (f : Chain → Chain) : (s.onChain f).link = s.link := rfl
@[simp] theorem State.onChain_pool (f : Chain → Chain) : (s.onChain f).pool = s.pool := rfl
@[simp] theorem State.onChain_alerts (f : Chain → Chain) : (s.onChain f).alerts = s.alerts := rfl
@[simp] theorem State.onChain_chain (f : Chain → Chain) : (s.onChain f).chain = f s.chain := rfl
@[simp] theorem State.onChain_seq (f : Chain → Chain) : (s.onChain f).seq = s.seq := rfl
@[simp] theorem State.onChain_sensing (f : Chain → Chain) : (s.onChain f).sensing = s.sensing := rfl
@[simp] theorem State.onChain_table (f : Chain → Chain) : (s.onChain f).table = s.table := rfl
@[simp] theorem State.onChain_prot (f : Chain → Chain) : (s.onChain f).prot = s.prot := rfl
@[simp] theorem State.onChain_cont (f : Chain → Chain) : (s.onChain f).cont = s.cont := rfl
@[simp] theorem State.onChain_sleep (f : Chain → Chain) : (s.onChain f).sleep = s.sleep := rfl
@[simp] theorem State.onChain_store (f : Chain → Chain) : (s.onChain f).store = s.store := rfl
@[simp] theorem State.onChain_transit (f : Chain → Chain) : (s.onChain f).transit = s.transit := rfl
@[simp] theorem State.onChain_pending (f : Chain → Chain) : (s.onChain f).pending = s.pending := rfl

/-! ### `onSeq` -/

@[simp] theorem State.onSeq_clock (f : Sequencer → Sequencer) : (s.onSeq f).clock = s.clock := rfl
@[simp] theorem State.onSeq_inputs (f : Sequencer → Sequencer) : (s.onSeq f).inputs = s.inputs := rfl
@[simp] theorem State.onSeq_link (f : Sequencer → Sequencer) : (s.onSeq f).link = s.link := rfl
@[simp] theorem State.onSeq_pool (f : Sequencer → Sequencer) : (s.onSeq f).pool = s.pool := rfl
@[simp] theorem State.onSeq_alerts (f : Sequencer → Sequencer) : (s.onSeq f).alerts = s.alerts := rfl
@[simp] theorem State.onSeq_chain (f : Sequencer → Sequencer) : (s.onSeq f).chain = s.chain := rfl
@[simp] theorem State.onSeq_seq (f : Sequencer → Sequencer) : (s.onSeq f).seq = f s.seq := rfl
@[simp] theorem State.onSeq_sensing (f : Sequencer → Sequencer) : (s.onSeq f).sensing = s.sensing := rfl
@[simp] theorem State.onSeq_table (f : Sequencer → Sequencer) : (s.onSeq f).table = s.table := rfl
@[simp] theorem State.onSeq_prot (f : Sequencer → Sequencer) : (s.onSeq f).prot = s.prot := rfl
@[simp] theorem State.onSeq_cont (f : Sequencer → Sequencer) : (s.onSeq f).cont = s.cont := rfl
@[simp] theorem State.onSeq_sleep (f : Sequencer → Sequencer) : (s.onSeq f).sleep = s.sleep := rfl
@[simp] theorem State.onSeq_store (f : Sequencer → Sequencer) : (s.onSeq f).store = s.store := rfl
@[simp] theorem State.onSeq_transit (f : Sequencer → Sequencer) : (s.onSeq f).transit = s.transit := rfl
@[simp] theorem State.onSeq_pending (f : Sequencer → Sequencer) : (s.onSeq f).pending = s.pending := rfl

/-! ### `onSensing` -/

@[simp] theorem State.onSensing_clock (f : Sensing → Sensing) : (s.onSensing f).clock = s.clock := rfl
@[simp] theorem State.onSensing_inputs (f : Sensing → Sensing) : (s.onSensing f).inputs = s.inputs := rfl
@[simp] theorem State.onSensing_link (f : Sensing → Sensing) : (s.onSensing f).link = s.link := rfl
@[simp] theorem State.onSensing_pool (f : Sensing → Sensing) : (s.onSensing f).pool = s.pool := rfl
@[simp] theorem State.onSensing_alerts (f : Sensing → Sensing) : (s.onSensing f).alerts = s.alerts := rfl
@[simp] theorem State.onSensing_chain (f : Sensing → Sensing) : (s.onSensing f).chain = s.chain := rfl
@[simp] theorem State.onSensing_seq (f : Sensing → Sensing) : (s.onSensing f).seq = s.seq := rfl
@[simp] theorem State.onSensing_sensing (f : Sensing → Sensing) : (s.onSensing f).sensing = f s.sensing := rfl
@[simp] theorem State.onSensing_table (f : Sensing → Sensing) : (s.onSensing f).table = s.table := rfl
@[simp] theorem State.onSensing_prot (f : Sensing → Sensing) : (s.onSensing f).prot = s.prot := rfl
@[simp] theorem State.onSensing_cont (f : Sensing → Sensing) : (s.onSensing f).cont = s.cont := rfl
@[simp] theorem State.onSensing_sleep (f : Sensing → Sensing) : (s.onSensing f).sleep = s.sleep := rfl
@[simp] theorem State.onSensing_store (f : Sensing → Sensing) : (s.onSensing f).store = s.store := rfl
@[simp] theorem State.onSensing_transit (f : Sensing → Sensing) : (s.onSensing f).transit = s.transit := rfl
@[simp] theorem State.onSensing_pending (f : Sensing → Sensing) : (s.onSensing f).pending = s.pending := rfl

/-! ### `onTable` -/

@[simp] theorem State.onTable_clock (f : FrameTable → FrameTable) : (s.onTable f).clock = s.clock := rfl
@[simp] theorem State.onTable_inputs (f : FrameTable → FrameTable) : (s.onTable f).inputs = s.inputs := rfl
@[simp] theorem State.onTable_link (f : FrameTable → FrameTable) : (s.onTable f).link = s.link := rfl
@[simp] theorem State.onTable_pool (f : FrameTable → FrameTable) : (s.onTable f).pool = s.pool := rfl
@[simp] theorem State.onTable_alerts (f : FrameTable → FrameTable) : (s.onTable f).alerts = s.alerts := rfl
@[simp] theorem State.onTable_chain (f : FrameTable → FrameTable) : (s.onTable f).chain = s.chain := rfl
@[simp] theorem State.onTable_seq (f : FrameTable → FrameTable) : (s.onTable f).seq = s.seq := rfl
@[simp] theorem State.onTable_sensing (f : FrameTable → FrameTable) : (s.onTable f).sensing = s.sensing := rfl
@[simp] theorem State.onTable_table (f : FrameTable → FrameTable) : (s.onTable f).table = f s.table := rfl
@[simp] theorem State.onTable_prot (f : FrameTable → FrameTable) : (s.onTable f).prot = s.prot := rfl
@[simp] theorem State.onTable_cont (f : FrameTable → FrameTable) : (s.onTable f).cont = s.cont := rfl
@[simp] theorem State.onTable_sleep (f : FrameTable → FrameTable) : (s.onTable f).sleep = s.sleep := rfl
@[simp] theorem State.onTable_store (f : FrameTable → FrameTable) : (s.onTable f).store = s.store := rfl
@[simp] theorem State.onTable_transit (f : FrameTable → FrameTable) : (s.onTable f).transit = s.transit := rfl
@[simp] theorem State.onTable_pending (f : FrameTable → FrameTable) : (s.onTable f).pending = s.pending := rfl

/-! ### `onProt` -/

@[simp] theorem State.onProt_clock (f : Protection → Protection) : (s.onProt f).clock = s.clock := rfl
@[simp] theorem State.onProt_inputs (f : Protection → Protection) : (s.onProt f).inputs = s.inputs := rfl
@[simp] theorem State.onProt_link (f : Protection → Protection) : (s.onProt f).link = s.link := rfl
@[simp] theorem State.onProt_pool (f : Protection → Protection) : (s.onProt f).pool = s.pool := rfl
@[simp] theorem State.onProt_alerts (f : Protection → Protection) : (s.onProt f).alerts = s.alerts := rfl
@[simp] theorem State.onProt_chain (f : Protection → Protection) : (s.onProt f).chain = s.chain := rfl
@[simp] theorem State.onProt_seq (f : Protection → Protection) : (s.onProt f).seq = s.seq := rfl
@[simp] theorem State.onProt_sensing (f : Protection → Protection) : (s.onProt f).sensing = s.sensing := rfl
@[simp] theorem State.onProt_table (f : Protection → Protection) : (s.onProt f).table = s.table := rfl
@[simp] theorem State.onProt_prot (f : Protection → Protection) : (s.onProt f).prot = f s.prot := rfl
@[simp] theorem State.onProt_cont (f : Protection → Protection) : (s.onProt f).cont = s.cont := rfl
@[simp] theorem State.onProt_sleep (f : Protection → Protection) : (s.onProt f).sleep = s.sleep := rfl
@[simp] theorem State.onProt_store (f : Protection → Protection) : (s.onProt f).store = s.store := rfl
@[simp] theorem State.onProt_transit (f : Protection → Protection) : (s.onProt f).transit = s.transit := rfl
@[simp] theorem State.onProt_pending (f : Protection → Protection) : (s.onProt f).pending = s.pending := rfl

/-! ### `onCont` -/

@[simp] theorem State.onCont_clock (f : Contactors → Contactors) : (s.onCont f).clock = s.clock := rfl
@[simp] theorem State.onCont_inputs (f : Contactors → Contactors) : (s.onCont f).inputs = s.inputs := rfl
@[simp] theorem State.onCont_link (f : Contactors → Contactors) : (s.onCont f).link = s.link := rfl
@[simp] theorem State.onCont_pool (f : Contactors → Contactors) : (s.onCont f).pool = s.pool := rfl
@[simp] theorem State.onCont_alerts (f : Contactors → Contactors) : (s.onCont f).alerts = s.alerts := rfl
@[simp] theorem State.onCont_chain (f : Contactors → Contactors) : (s.onCont f).chain = s.chain := rfl
@[simp] theorem State.onCont_seq (f : Contactors → Contactors) : (s.onCont f).seq = s.seq := rfl
@[simp] theorem State.onCont_sensing (f : Contactors → Contactors) : (s.onCont f).sensing = s.sensing := rfl
@[simp] theorem State.onCont_table (f : Contactors → Contactors) : (s.onCont f).table = s.table := rfl
@[simp] theorem State.onCont_prot (f : Contactors → Contactors) : (s.onCont f).prot = s.prot := rfl
@[simp] theorem State.onCont_cont (f : Contactors → Contactors) : (s.onCont f).cont = f s.cont := rfl
@[simp] theorem State.onCont_sleep (f : Contactors → Contactors) : (s.onCont f).sleep = s.sleep := rfl
@[simp] theorem State.onCont_store (f : Contactors → Contactors) : (s.onCont f).store = s.store := rfl
@[simp] theorem State.onCont_transit (f : Contactors → Contactors) : (s.onCont f).transit = s.transit := rfl
@[simp] theorem State.onCont_pending (f : Contactors → Contactors) : (s.onCont f).pending = s.pending := rfl

/-! ### `onSleep` -/

@[simp] theorem State.onSleep_clock (f : Sleep → Sleep) : (s.onSleep f).clock = s.clock := rfl
@[simp] theorem State.onSleep_inputs (f : Sleep → Sleep) : (s.onSleep f).inputs = s.inputs := rfl
@[simp] theorem State.onSleep_link (f : Sleep → Sleep) : (s.onSleep f).link = s.link := rfl
@[simp] theorem State.onSleep_pool (f : Sleep → Sleep) : (s.onSleep f).pool = s.pool := rfl
@[simp] theorem State.onSleep_alerts (f : Sleep → Sleep) : (s.onSleep f).alerts = s.alerts := rfl
@[simp] theorem State.onSleep_chain (f : Sleep → Sleep) : (s.onSleep f).chain = s.chain := rfl
@[simp] theorem State.onSleep_seq (f : Sleep → Sleep) : (s.onSleep f).seq = s.seq := rfl
@[simp] theorem State.onSleep_sensing (f : Sleep → Sleep) : (s.onSleep f).sensing = s.sensing := rfl
@[simp] theorem State.onSleep_table (f : Sleep → Sleep) : (s.onSleep f).table = s.table := rfl
@[simp] theorem State.onSleep_prot (f : Sleep → Sleep) : (s.onSleep f).prot = s.prot := rfl
@[simp] theorem State.onSleep_cont (f : Sleep → Sleep) : (s.onSleep f).cont = s.cont := rfl
@[simp] theorem State.onSleep_sleep (f : Sleep → Sleep) : (s.onSleep f).sleep = f s.sleep := rfl
@[simp] theorem State.onSleep_store (f : Sleep → Sleep) : (s.onSleep f).store = s.store := rfl
@[simp] theorem State.onSleep_transit (f : Sleep → Sleep) : (s.onSleep f).transit = s.transit := rfl
@[simp] theorem State.onSleep_pending (f : Sleep → Sleep) : (s.onSleep f).pending = s.pending := rfl

/-! ### `onStore` -/

@[simp] theorem State.onStore_clock (f : ProfileStore → ProfileStore) : (s.onStore f).clock = s.clock := rfl
@[simp] theorem State.onStore_inputs (f : ProfileStore → ProfileStore) : (s.onStore f).inputs = s.inputs := rfl
@[simp] theorem State.onStore_link (f : ProfileStore → ProfileStore) : (s.onStore f).link = s.link := rfl
@[simp] theorem State.onStore_pool (f : ProfileStore → ProfileStore) : (s.onStore f).pool = s.pool := rfl
@[simp] theorem State.onStore_alerts (f : ProfileStore → ProfileStore) : (s.onStore f).alerts = s.alerts := rfl
@[simp] theorem State.onStore_chain (f : ProfileStore → ProfileStore) : (s.onStore f).chain = s.chain := rfl
@[simp] theorem State.onStore_seq (f : ProfileStore → ProfileStore) : (s.onStore f).seq = s.seq := rfl
@[simp] theorem State.onStore_sensing (f : ProfileStore → ProfileStore) : (s.onStore f).sensing = s.sensing := rfl
@[simp] theorem State.onStore_table (f : ProfileStore → ProfileStore) : (s.onStore f).table = s.table := rfl
@[simp] theorem State.onStore_prot (f : ProfileStore → ProfileStore) : (s.onStore f).prot = s.prot := rfl
@[simp] theorem State.onStore_cont (f : ProfileStore → ProfileStore) : (s.onStore f).cont = s.cont := rfl
@[simp] theorem State.onStore_sleep (f : ProfileStore → ProfileStore) : (s.onStore f).sleep = s.sleep := rfl
@[simp] theorem State.onStore_store (f : ProfileStore → ProfileStore) : (s.onStore f).store = f s.store := rfl
@[simp] theorem State.onStore_transit (f : ProfileStore → ProfileStore) : (s.onStore f).transit = s.transit := rfl
@[simp] theorem State.onStore_pending (f : ProfileStore → ProfileStore) : (s.onStore f).pending = s.pending := rfl

/-! ### `onTransit` -/

@[simp] theorem State.onTransit_clock (f : Transit → Transit) : (s.onTransit f).clock = s.clock := rfl
@[simp] theorem State.onTransit_inputs (f : Transit → Transit) : (s.onTransit f).inputs = s.inputs := rfl
@[simp] theorem State.onTransit_link (f : Transit → Transit) : (s.onTransit f).link = s.link := rfl
@[simp] theorem State.onTransit_pool (f : Transit → Transit) : (s.onTransit f).pool = s.pool := rfl
@[simp] theorem State.onTransit_alerts (f : Transit → Transit) : (s.onTransit f).alerts = s.alerts := rfl
@[simp] theorem State.onTransit_chain (f : Transit → Transit) : (s.onTransit f).chain = s.chain := rfl
@[simp] theorem State.onTransit_seq (f : Transit → Transit) : (s.onTransit f).seq = s.seq := rfl
@[simp] theorem State.onTransit_sensing (f : Transit → Transit) : (s.onTransit f).sensing = s.sensing := rfl
@[simp] theorem State.onTransit_table (f : Transit → Transit) : (s.onTransit f).table = s.table := rfl
@[simp] theorem State.onTransit_prot (f : Transit → Transit) : (s.onTransit f).prot = s.prot := rfl
@[simp] theorem State.onTransit_cont (f : Transit → Transit) : (s.onTransit f).cont = s.cont := rfl
@[simp] theorem State.onTransit_sleep (f : Transit → Transit) : (s.onTransit f).sleep = s.sleep := rfl
@[simp] theorem State.onTransit_store (f : Transit → Transit) : (s.onTransit f).store = s.store := rfl
@[simp] theorem State.onTransit_transit (f : Transit → Transit) : (s.onTransit f).transit = f s.transit := rfl
@[simp] theorem State.onTransit_pending (f : Transit → Transit) : (s.onTransit f).pending = s.pending := rfl

/-! ### Views of a block through its own update -/

@[simp] theorem State.now_eq : s.now = s.clock.packTime := rfl
@[simp] theorem State.power_eq : s.power = s.sleep.power := rfl
@[simp] theorem State.profile_eq : s.profile = s.store.inUse := rfl

/-! ### One value for each contactor -/

@[simp] theorem Triple.get_set_self {α : Type} (t : Triple α) (c : Contactor) (v : α) : (t.set c v).get c = v := by
  cases c <;> rfl

theorem Triple.get_set_other {α : Type} (t : Triple α) {c d : Contactor} (v : α) (h : d ≠ c) :
    (t.set c v).get d = t.get d := by
  cases c <;> cases d <;> first | rfl | exact absurd rfl h

@[simp] theorem Triple.get_map {α β : Type} (f : α → β) (t : Triple α) (c : Contactor) :
    (t.map f).get c = f (t.get c) := by
  cases c <;> rfl

end Sys2Proof.Machine
end

