-- ==== Sys2Proof/Laws/Memory.lean ====
section
/-! SUPPORT. Exchange memory and buffers: what a read after a write gives, that every memory operation keeps the canonical
form, and what the operations on buffer entries leave alone. -/

namespace Sys2Proof.Machine

open Sys2Proof

/-! ## Cells -/

/-- The canonical form without the bound on addresses, which the proofs carry apart. -/
theorem Memory.wf_cons {a : Nat} {v : Byte} {rest : List Host.Cell} :
    Memory.wf ((a, v) :: rest) = true ↔
      a < 24576 ∧ v ≠ 0 ∧ (∀ c ∈ rest.head?, a < c.1) ∧ Memory.wf rest = true := by
  cases rest <;> simp [Memory.wf, and_assoc]

/-- In a canonical memory every listed address after the first is above it. -/
theorem Memory.lt_of_mem {a : Nat} {v : Byte} {rest : List Host.Cell} (h : Memory.wf ((a, v) :: rest) = true) :
    ∀ c ∈ rest, a < c.1 := by
  induction rest generalizing a v with
  | nil => simp
  | cons d tail ih =>
    obtain ⟨b, w⟩ := d
    obtain ⟨-, -, hb, hr⟩ := Memory.wf_cons.mp h
    have hab : a < b := by simpa using hb
    intro c hc
    rcases List.mem_cons.mp hc with rfl | hc
    · exact hab
    · exact Nat.lt_trans hab (ih hr c hc)

/-- An address below every listed one reads 00h. -/
theorem memRead_eq_zero {m : List Host.Cell} {a : Nat} (h : ∀ c ∈ m, a < c.1) : memRead m a = 0 := by
  induction m with
  | nil => rfl
  | cons d tail ih =>
    obtain ⟨b, w⟩ := d
    have hab : a < b := h _ (List.mem_cons_self ..)
    rw [memRead, if_neg (Nat.ne_of_lt hab)]
    exact ih fun c hc => h c (List.mem_cons_of_mem _ hc)

theorem memRead_memWrite_self {m : List Host.Cell} (h : Memory.wf m = true) (a : Nat) (v : Byte) :
    memRead (memWrite m a v) a = v := by
  induction m with
  | nil => by_cases hv : v = 0 <;> simp at hv <;> simp [memWrite, memRead, hv]
  | cons d tail ih =>
    obtain ⟨b, w⟩ := d
    obtain ⟨-, -, -, ht⟩ := Memory.wf_cons.mp h
    have above := Memory.lt_of_mem h
    rw [memWrite]
    split
    · rename_i hab
      by_cases hv : v = 0
      · subst hv
        rw [if_pos rfl]
        exact memRead_eq_zero fun c hc => by
          rcases List.mem_cons.mp hc with rfl | hc
          · exact hab
          · exact Nat.lt_trans hab (above c hc)
      · rw [if_neg hv]; simp [memRead]
    · split
      · rename_i hab
        subst hab
        by_cases hv : v = 0
        · subst hv
          rw [if_pos rfl]
          exact memRead_eq_zero above
        · rw [if_neg hv]; simp [memRead]
      · rename_i hne
        rw [memRead, if_neg hne]
        exact ih ht

theorem memRead_memWrite_other {m : List Host.Cell} {a b : Nat} (v : Byte) (hab : b ≠ a) :
    memRead (memWrite m a v) b = memRead m b := by
  induction m with
  | nil => by_cases hv : v = 0 <;> simp at hv <;> simp [memWrite, memRead, hv, hab]
  | cons d tail ih =>
    obtain ⟨c, w⟩ := d
    rw [memWrite]
    split
    · by_cases hv : v = 0 <;> simp at hv <;> simp [hv, memRead, hab]
    · split
      · rename_i hac
        subst hac
        by_cases hv : v = 0 <;> simp at hv <;> simp [hv, memRead, hab]
      · simp [memRead, ih]

/-- What a write lists first is the old first address or the one written. -/
theorem memWrite_head {m : List Host.Cell} {a lo : Nat} {v : Byte} (hm : ∀ c ∈ m.head?, lo < c.1)
    (hall : ∀ c ∈ m, lo < c.1) (ha : lo < a) : ∀ c ∈ (memWrite m a v).head?, lo < c.1 := by
  cases m with
  | nil => by_cases hv : v = 0 <;> simp at hv <;> simp [memWrite, hv, ha]
  | cons d tail =>
    obtain ⟨b, w⟩ := d
    have hb : lo < b := hall _ (List.mem_cons_self ..)
    rw [memWrite]
    split
    · by_cases hv : v = 0 <;> simp at hv <;> simp [hv, ha, hb]
    · split
      · by_cases hv : v = 0
        · rw [if_pos hv]
          intro c hc
          exact hall c (List.mem_cons_of_mem _ (List.mem_of_mem_head? hc))
        · rw [if_neg hv]; simp [ha]
      · simp [hb]

/-- A write inside exchange memory keeps the canonical form. -/
theorem memWrite_wf {m : List Host.Cell} {a : Nat} (v : Byte) (h : Memory.wf m = true) (ha : a < 24576) :
    Memory.wf (memWrite m a v) = true := by
  induction m with
  | nil => by_cases hv : v = 0 <;> simp at hv <;> simp [memWrite, Memory.wf, hv, ha]
  | cons d tail ih =>
    obtain ⟨b, w⟩ := d
    obtain ⟨hb, hw, hh, ht⟩ := Memory.wf_cons.mp h
    have above := Memory.lt_of_mem h
    rw [memWrite]
    split
    · rename_i hab
      by_cases hv : v = 0
      · rw [if_pos hv]; exact h
      · rw [if_neg hv]
        exact Memory.wf_cons.mpr ⟨ha, hv, by simpa using hab, h⟩
    · split
      · rename_i hab
        subst hab
        by_cases hv : v = 0
        · rw [if_pos hv]; exact ht
        · rw [if_neg hv]
          exact Memory.wf_cons.mpr ⟨hb, hv, hh, ht⟩
      · rename_i h1 h2
        exact Memory.wf_cons.mpr ⟨hb, hw, memWrite_head hh above (by omega), ih ht⟩

theorem memRead_memZero (m : List Host.Cell) (pages : List Nat) (a : Nat) :
    memRead (memZero m pages) a = if a / 256 ∈ pages then 0 else memRead m a := by
  induction m with
  | nil => simp [memZero, memRead]
  | cons d tail ih =>
    obtain ⟨b, w⟩ := d
    by_cases hb : b / 256 ∈ pages
    · have : memZero ((b, w) :: tail) pages = memZero tail pages := by simp [memZero, hb]
      rw [this, ih, memRead]
      by_cases hab : a = b
      · subst hab; simp [hb]
      · simp [hab]
    · have : memZero ((b, w) :: tail) pages = (b, w) :: memZero tail pages := by simp [memZero, hb]
      rw [this, memRead, memRead, ih]
      by_cases hab : a = b
      · subst hab; simp [hb]
      · simp [hab]

/-- Clearing pages keeps the canonical form. -/
theorem memZero_wf {m : List Host.Cell} (pages : List Nat) (h : Memory.wf m = true) :
    Memory.wf (memZero m pages) = true := by
  induction m with
  | nil => rfl
  | cons d tail ih =>
    obtain ⟨b, w⟩ := d
    obtain ⟨hb, hw, -, ht⟩ := Memory.wf_cons.mp h
    have above := Memory.lt_of_mem h
    by_cases hp : b / 256 ∈ pages
    · have : memZero ((b, w) :: tail) pages = memZero tail pages := by simp [memZero, hp]
      rw [this]; exact ih ht
    · have : memZero ((b, w) :: tail) pages = (b, w) :: memZero tail pages := by simp [memZero, hp]
      rw [this]
      refine Memory.wf_cons.mpr ⟨hb, hw, fun c hc => above c ?_, ih ht⟩
      exact (List.mem_filter.mp (List.mem_of_mem_head? hc)).1

theorem State.reset_memory_wf : Memory.wf State.reset.pool.memory = true := by decide +kernel

/-! ## Buffer entries -/

@[simp] theorem Pool.entry_zero (p : Pool) : p.entry 0 = .reset := rfl

theorem Pool.entry_setEntry_self (p : Pool) {n : Nat} (e : BufferEntry) (h : 1 ≤ n ∧ n ≤ 40) :
    (p.setEntry n e).entry n = e := by
  have h0 : n ≠ 0 := by omega
  have h1 : n - 1 < 40 := by omega
  simp [Pool.setEntry, Pool.entry, h0, h1]

theorem Pool.entry_setEntry_other (p : Pool) {n m : Nat} (e : BufferEntry) (h : m ≠ n) :
    (p.setEntry n e).entry m = p.entry m := by
  by_cases h0 : n = 0
  · simp [Pool.setEntry, h0]
  · by_cases h1 : m = 0
    · simp [h1]
    · have : n - 1 ≠ m - 1 := by omega
      simp [Pool.setEntry, Pool.entry, h0, h1, this]

@[simp] theorem Pool.setEntry_memory (p : Pool) (n : Nat) (e : BufferEntry) : (p.setEntry n e).memory = p.memory := by
  unfold Pool.setEntry; split <;> rfl

@[simp] theorem Pool.setEntry_orderQueue (p : Pool) (n : Nat) (e : BufferEntry) :
    (p.setEntry n e).orderQueue = p.orderQueue := by unfold Pool.setEntry; split <;> rfl

@[simp] theorem Pool.setEntry_resultQueue (p : Pool) (n : Nat) (e : BufferEntry) :
    (p.setEntry n e).resultQueue = p.resultQueue := by unfold Pool.setEntry; split <;> rfl

@[simp] theorem Pool.setEntry_alertQueue (p : Pool) (n : Nat) (e : BufferEntry) :
    (p.setEntry n e).alertQueue = p.alertQueue := by unfold Pool.setEntry; split <;> rfl

@[simp] theorem Pool.setEntry_releaseList (p : Pool) (n : Nat) (e : BufferEntry) :
    (p.setEntry n e).releaseList = p.releaseList := by unfold Pool.setEntry; split <;> rfl

@[simp] theorem Pool.writeByte_table (p : Pool) (n o : Nat) (v : Byte) : (p.writeByte n o v).table = p.table := by
  unfold Pool.writeByte; split <;> rfl

@[simp] theorem Pool.writeByte_entry (p : Pool) (n o m : Nat) (v : Byte) : (p.writeByte n o v).entry m = p.entry m := by
  simp [Pool.entry]

@[simp] theorem Pool.writeBuffer_table (p : Pool) (n o : Nat) (bs : List Byte) :
    (p.writeBuffer n o bs).table = p.table := by
  induction bs generalizing p o with
  | nil => rfl
  | cons b bs ih => rw [Pool.writeBuffer, ih, Pool.writeByte_table]

@[simp] theorem Pool.writeBuffer_entry (p : Pool) (n o m : Nat) (bs : List Byte) :
    (p.writeBuffer n o bs).entry m = p.entry m := by simp [Pool.entry]

/-- A buffer of pages below 96 has its addresses inside exchange memory. -/
theorem BufferEntry.address_lt {e : BufferEntry} {o a : Nat} (hp : ∀ q ∈ e.pages, q < 96)
    (h : e.address o = some a) : a < 24576 := by
  unfold BufferEntry.address at h
  rw [Option.map_eq_some_iff] at h
  obtain ⟨q, hq, rfl⟩ := h
  have := hp q (List.mem_of_getElem? hq)
  omega

/-- Two offsets of a buffer whose pages are distinct have the same address only when they are the same. -/
theorem BufferEntry.address_inj {e : BufferEntry} {o o' a : Nat} (hd : e.pages.Nodup)
    (h : e.address o = some a) (h' : e.address o' = some a) : o = o' := by
  unfold BufferEntry.address at h h'
  rw [Option.map_eq_some_iff] at h h'
  obtain ⟨q, hq, ha⟩ := h
  obtain ⟨q', hq', ha'⟩ := h'
  have hqq : q = q' := by omega
  have hm : o % 256 = o' % 256 := by omega
  subst hqq
  obtain ⟨hi, hqi⟩ := List.getElem?_eq_some_iff.mp hq
  obtain ⟨hj, hqj⟩ := List.getElem?_eq_some_iff.mp hq'
  have hij : o / 256 = o' / 256 := (List.Nodup.getElem_inj_iff hd).mp (hqi.trans hqj.symm)
  omega

/-- A byte of the buffer has an address, and no other. -/
theorem BufferEntry.address_of_lt {e : BufferEntry} {o : Nat} (h : o < e.capacity) : ∃ a, e.address o = some a := by
  have hl : o / 256 < e.pages.length := by unfold BufferEntry.capacity at h; omega
  exact ⟨256 * e.pages[o / 256] + o % 256, by simp [BufferEntry.address, hl]⟩

theorem Pool.writeByte_wf {p : Pool} {n : Nat} (o : Nat) (v : Byte) (h : Memory.wf p.memory = true)
    (hp : ∀ q ∈ (p.entry n).pages, q < 96) : Memory.wf (p.writeByte n o v).memory = true := by
  unfold Pool.writeByte
  split
  · rename_i a ha
    exact memWrite_wf v h (BufferEntry.address_lt hp ha)
  · exact h

/-- Writing into a buffer keeps the canonical form. -/
theorem Pool.writeBuffer_wf {p : Pool} {n : Nat} (o : Nat) (bs : List Byte) (h : Memory.wf p.memory = true)
    (hp : ∀ q ∈ (p.entry n).pages, q < 96) : Memory.wf (p.writeBuffer n o bs).memory = true := by
  induction bs generalizing p o with
  | nil => exact h
  | cons b bs ih =>
    rw [Pool.writeBuffer]
    exact ih _ (Pool.writeByte_wf o b h hp) (by simpa using hp)

/-- A byte written into a buffer is read back. -/
theorem Pool.readBuffer_writeByte_self {p : Pool} {n o : Nat} (v : Byte) (h : Memory.wf p.memory = true)
    (ho : o < (p.entry n).capacity) : (p.writeByte n o v).readBuffer n o = v := by
  obtain ⟨a, ha⟩ := BufferEntry.address_of_lt ho
  have hw : p.writeByte n o v = { p with memory := memWrite p.memory a v } := by simp [Pool.writeByte, ha]
  have he : (({ p with memory := memWrite p.memory a v } : Pool).entry n).address o = some a := by simpa [Pool.entry] using ha
  rw [hw, Pool.readBuffer, he]
  exact memRead_memWrite_self h a v

/-- A byte written into a buffer leaves every other offset of it as it was. -/
theorem Pool.readBuffer_writeByte_other {p : Pool} {n o o' : Nat} (v : Byte) (hd : (p.entry n).pages.Nodup)
    (hne : o' ≠ o) : (p.writeByte n o v).readBuffer n o' = p.readBuffer n o' := by
  unfold Pool.readBuffer
  rw [Pool.writeByte_entry]
  cases ha' : (p.entry n).address o' with
  | none => rfl
  | some a' =>
    cases ha : (p.entry n).address o with
    | none => simp [Pool.writeByte, ha]
    | some a =>
      have : a' ≠ a := fun e => hne (BufferEntry.address_inj hd (e ▸ ha') ha)
      simp [Pool.writeByte, ha, memRead_memWrite_other v this]

/-- Bytes written into a buffer leave the offsets outside them as they were. -/
theorem Pool.readBuffer_writeBuffer_other {p : Pool} {n o o' : Nat} (bs : List Byte) (hd : (p.entry n).pages.Nodup)
    (hne : o' < o ∨ o + bs.length ≤ o') : (p.writeBuffer n o bs).readBuffer n o' = p.readBuffer n o' := by
  induction bs generalizing p o with
  | nil => rfl
  | cons b bs ih =>
    rw [Pool.writeBuffer, ih (by simpa using hd) (by simp at hne; omega)]
    exact Pool.readBuffer_writeByte_other b hd (by simp at hne; omega)

/-- Bytes written into a buffer are read back, as far as they lie inside its capacity. -/
theorem Pool.readBuffer_writeBuffer {p : Pool} {n o i : Nat} (bs : List Byte) (h : Memory.wf p.memory = true)
    (hp : ∀ q ∈ (p.entry n).pages, q < 96) (hd : (p.entry n).pages.Nodup) (hi : i < bs.length)
    (hc : o + i < (p.entry n).capacity) : (p.writeBuffer n o bs).readBuffer n (o + i) = bs[i] := by
  induction bs generalizing p o i with
  | nil => simp at hi
  | cons b bs ih =>
    rw [Pool.writeBuffer]
    cases i with
    | zero =>
      rw [Pool.readBuffer_writeBuffer_other bs (by simpa using hd) (by omega)]
      simpa using Pool.readBuffer_writeByte_self b h hc
    | succ i =>
      have key := ih (p := p.writeByte n o b) (o := o + 1) (i := i) (Pool.writeByte_wf o b h hp) (by simpa using hp)
        (by simpa using hd) (by simpa using hi) (by simp; omega)
      have e : o + (i + 1) = o + 1 + i := by omega
      rw [e, key]; rfl

end Sys2Proof.Machine
end

