-- ==== Sys2Proof/Laws/Ops.lean ====
section
/-! SUPPORT. One law for each shared operation: what it changes, and that it changes nothing else. Proofs cite these laws
and leave the operations folded. -/

namespace Sys2Proof.Machine

open Sys2Proof

/-! ## Time (R26) -/

/-- In ASLEEP time moves the low-power clock's phase alone. -/
theorem State.elapse_asleep {s : State} (d : Nat) (h : s.sleep.power = .asleep) :
    s.elapse d = { s with clock := { s.clock with tick := s.clock.tick - d } } := by simp [State.elapse, h, State.onClock]

/-- Outside ASLEEP pack time advances and every timer runs. -/
theorem State.elapse_awake {s : State} (d : Nat) (h : s.sleep.power ≠ .asleep) :
    s.elapse d = { s.runTimers d with
      clock := { packTime := s.clock.packTime + BitVec.ofNat 32 d, tick := s.clock.tick - d } } := by
  simp [State.elapse, h, State.onClock, State.runTimers]

section
variable (s : State) (d : Nat)

@[simp] theorem State.elapse_inputs : (s.elapse d).inputs = s.inputs := by unfold State.elapse; split <;> rfl
@[simp] theorem State.elapse_link : (s.elapse d).link = s.link := by unfold State.elapse; split <;> rfl
@[simp] theorem State.elapse_pool : (s.elapse d).pool = s.pool := by unfold State.elapse; split <;> rfl
@[simp] theorem State.elapse_alerts : (s.elapse d).alerts = s.alerts := by unfold State.elapse; split <;> rfl
@[simp] theorem State.elapse_table : (s.elapse d).table = s.table := by unfold State.elapse; split <;> rfl
@[simp] theorem State.elapse_sleep : (s.elapse d).sleep = s.sleep := by unfold State.elapse; split <;> rfl
@[simp] theorem State.elapse_transit : (s.elapse d).transit = s.transit := by unfold State.elapse; split <;> rfl
@[simp] theorem State.elapse_pending : (s.elapse d).pending = s.pending := by unfold State.elapse; split <;> rfl

/-- Only the staleness timer of the Protection Monitor moves. -/
@[simp] theorem State.elapse_latches : (s.elapse d).prot.latches = s.prot.latches := by
  unfold State.elapse; split <;> rfl

@[simp] theorem State.elapse_contState : (s.elapse d).cont.state = s.cont.state := by unfold State.elapse; split <;> rfl
@[simp] theorem State.elapse_contCommands : (s.elapse d).cont.commands = s.cont.commands := by
  unfold State.elapse; split <;> rfl
@[simp] theorem State.elapse_history : (s.elapse d).sensing.history = s.sensing.history := by
  unfold State.elapse; split <;> rfl
@[simp] theorem State.elapse_nodes : (s.elapse d).chain.nodes = s.chain.nodes := by unfold State.elapse; split <;> rfl
@[simp] theorem State.elapse_profile : (s.elapse d).profile = s.profile := by
  unfold State.profile State.elapse; split <;> rfl

end

/-- An expiry with its timer stopped has no effect; with it running its time passes first. -/
@[simp] theorem State.onExpiry_none (s : State) (f : State → State) : s.onExpiry none f = s := rfl
@[simp] theorem State.onExpiry_some (s : State) (r : Nat) (f : State → State) :
    s.onExpiry (some r) f = f (s.elapse r) := rfl

/-! ## Closing an event (R145) -/

section
variable (s old : State)

/-- A report touches the events on their way alone. -/
theorem State.report_eq : s.report old = { s with transit := (s.report old).transit } := rfl

@[simp] theorem State.report_pool : (s.report old).pool = s.pool := rfl
@[simp] theorem State.report_alerts : (s.report old).transit.alerts = s.transit.alerts := rfl
@[simp] theorem State.report_demands : (s.report old).transit.demands = s.transit.demands := rfl

/-- Counting an update touches the update count alone. -/
theorem State.countUpdate_eq : s.countUpdate old =
    { s with pool := { s.pool with updateCount := (s.countUpdate old).pool.updateCount } } := by
  unfold State.countUpdate; split <;> rfl

/-- The count rises by 1 exactly when a Status Block field has another value or a patrol has begun. -/
theorem State.countUpdate_updateCount : (s.countUpdate old).pool.updateCount =
    if s.statusFields = old.statusFields ∧ s.patrolBegan old = false then s.pool.updateCount
    else s.pool.updateCount + 1 := by
  unfold State.countUpdate; split <;> rfl

/-- No patrol begins in an event that leaves the Sleep Controller alone. -/
theorem State.patrolBegan_of_sleep_eq (h : s.sleep = old.sleep) : s.patrolBegan old = false := by
  simp only [State.patrolBegan, h]
  cases old.sleep.phase <;> simp

/-- The end of an event changes the events on their way and the update count, and nothing else. -/
theorem State.publish_eq : s.publish old =
    { s with
      pool := { s.pool with updateCount := (s.publish old).pool.updateCount }
      transit := (s.report old).transit } := by
  unfold State.publish
  rw [State.countUpdate_eq]
  rfl

@[simp] theorem State.publish_clock : (s.publish old).clock = s.clock := by rw [State.publish_eq]
@[simp] theorem State.publish_inputs : (s.publish old).inputs = s.inputs := by rw [State.publish_eq]
@[simp] theorem State.publish_link : (s.publish old).link = s.link := by rw [State.publish_eq]
@[simp] theorem State.publish_alerts : (s.publish old).alerts = s.alerts := by rw [State.publish_eq]
@[simp] theorem State.publish_chain : (s.publish old).chain = s.chain := by rw [State.publish_eq]
@[simp] theorem State.publish_seq : (s.publish old).seq = s.seq := by rw [State.publish_eq]
@[simp] theorem State.publish_sensing : (s.publish old).sensing = s.sensing := by rw [State.publish_eq]
@[simp] theorem State.publish_table : (s.publish old).table = s.table := by rw [State.publish_eq]
@[simp] theorem State.publish_prot : (s.publish old).prot = s.prot := by rw [State.publish_eq]
@[simp] theorem State.publish_cont : (s.publish old).cont = s.cont := by rw [State.publish_eq]
@[simp] theorem State.publish_sleep : (s.publish old).sleep = s.sleep := by rw [State.publish_eq]
@[simp] theorem State.publish_store : (s.publish old).store = s.store := by rw [State.publish_eq]
@[simp] theorem State.publish_pending : (s.publish old).pending = s.pending := by rw [State.publish_eq]
@[simp] theorem State.publish_memory : (s.publish old).pool.memory = s.pool.memory := by rw [State.publish_eq]
@[simp] theorem State.publish_poolTable : (s.publish old).pool.table = s.pool.table := by rw [State.publish_eq]
@[simp] theorem State.publish_orderQueue : (s.publish old).pool.orderQueue = s.pool.orderQueue := by rw [State.publish_eq]
@[simp] theorem State.publish_resultQueue : (s.publish old).pool.resultQueue = s.pool.resultQueue := by
  rw [State.publish_eq]
@[simp] theorem State.publish_releaseList : (s.publish old).pool.releaseList = s.pool.releaseList := by
  rw [State.publish_eq]
@[simp] theorem State.publish_transitAlerts : (s.publish old).transit.alerts = s.transit.alerts := by
  rw [State.publish_eq]; rfl
@[simp] theorem State.publish_transitDemands : (s.publish old).transit.demands = s.transit.demands := by
  rw [State.publish_eq]; rfl

@[simp] theorem State.publish_entry (n : Nat) : (s.publish old).pool.entry n = s.pool.entry n := by simp [Pool.entry]

@[simp] theorem State.publish_readBuffer (n o : Nat) : (s.publish old).pool.readBuffer n o = s.pool.readBuffer n o := by
  simp [Pool.readBuffer]

end

/-! ## Alerts on their way (R142) -/

/-- A raised alert joins the alerts on their way, and nothing else changes. -/
theorem State.raise_eq (kind : AlertKind) (payload : List Byte) (s : State) : s.raise kind payload =
    { s with transit := { s.transit with alerts := s.transit.alerts ++ [(kind, payload)] } } := rfl

/-! ## Buffers (R119, R122, R124) -/

/-- The arbiter moves a waiting request to the one in progress, and changes nothing else (R122). -/
theorem Pool.grant_eq (p : Pool) : p.grant =
    { p with
      waitingLink := p.grant.waitingLink, waitingSampler := p.grant.waitingSampler
      waitingAlert := p.grant.waitingAlert, inProgress := p.grant.inProgress } := by
  unfold Pool.grant
  repeat' split
  all_goals rfl

/-- ALERT is granted before SAMPLER, and SAMPLER before LINK (R122). -/
theorem Pool.grant_inProgress (p : Pool) : p.grant.inProgress =
    match p.inProgress with
    | some r => some r
    | none => if p.waitingAlert then some (.alert, 1)
      else (p.waitingSampler.map fun n => (Requester.sampler, n)).or (p.waitingLink.map fun n => (Requester.link, n)) := by
  unfold Pool.grant
  cases hi : p.inProgress <;> cases ha : p.waitingAlert <;> cases hs : p.waitingSampler <;> cases hl : p.waitingLink <;>
    simp [hi]

/-- A grant neither loses a requester's request nor makes one. -/
theorem Pool.grant_hasRequest (p : Pool) (r : Requester) (h : p.inProgress = none) :
    p.grant.hasRequest r = p.hasRequest r := by
  unfold Pool.grant Pool.hasRequest
  cases ha : p.waitingAlert <;> cases hs : p.waitingSampler <;> cases hl : p.waitingLink <;> cases r <;> simp [*]

/-- A release that begins marks the buffer HELD and puts it on the release list's tail (R124). -/
theorem Pool.beginRelease_spec (p : Pool) {n : Nat} (h : 1 ≤ n ∧ n ≤ 40) :
    (p.beginRelease n).entry n = { p.entry n with state := .held, marked := true } ∧
    (p.beginRelease n).releaseList = p.releaseList ++ [n] ∧
    (∀ m, m ≠ n → (p.beginRelease n).entry m = p.entry m) ∧
    (p.beginRelease n).memory = p.memory ∧ (p.beginRelease n).orderQueue = p.orderQueue ∧
    (p.beginRelease n).resultQueue = p.resultQueue ∧ (p.beginRelease n).alertQueue = p.alertQueue := by
  refine ⟨Pool.entry_setEntry_self p _ h, ?_, fun m hm => Pool.entry_setEntry_other p _ hm, ?_, ?_, ?_, ?_⟩ <;>
    simp [Pool.beginRelease]

/-- A result joins the Result Queue's tail (R119). -/
theorem Pool.queueResult_spec (p : Pool) {n : Nat} (h : 1 ≤ n ∧ n ≤ 40) :
    (p.queueResult n).entry n = { p.entry n with state := .resultQueued } ∧
    (p.queueResult n).resultQueue = p.resultQueue ++ [n] ∧
    (∀ m, m ≠ n → (p.queueResult n).entry m = p.entry m) ∧
    (p.queueResult n).memory = p.memory ∧ (p.queueResult n).orderQueue = p.orderQueue ∧
    (p.queueResult n).releaseList = p.releaseList ∧ (p.queueResult n).alertQueue = p.alertQueue := by
  refine ⟨Pool.entry_setEntry_self p _ h, ?_, fun m hm => Pool.entry_setEntry_other p _ hm, ?_, ?_, ?_, ?_⟩ <;>
    simp [Pool.queueResult]

/-! ## The completion of an order (R141) -/

/-- The ten bytes of the header that a completion writes. -/
def completionHeader (s : State) (code : Completion) (detail : Word) (clamped truncated : Bool) : List Byte :=
  BitVec.ofNat 8 (completionCode code) :: BitVec.ofNat 8 (boolCode clamped + 2 * boolCode truncated) ::
    (leBytes 4 s.now.toNat ++ leBytes 4 detail.toNat)

@[simp] theorem completionHeader_length (s : State) (code : Completion) (detail : Word) (clamped truncated : Bool) :
    (completionHeader s code detail clamped truncated).length = 10 := by simp [completionHeader, leBytes]

/-- The pool after the answer and the header bytes, before the buffer joins a list. -/
def Pool.completed (p : Pool) (n : Nat) (answer header : List Byte) : Pool :=
  (p.writeBuffer n 16 answer).writeBuffer n 6 header

@[simp] theorem Pool.completed_entry (p : Pool) (n m : Nat) (answer header : List Byte) :
    (p.completed n answer header).entry m = p.entry m := by simp [Pool.completed]

/-- A completion changes the pool alone: the bytes of the answer and the header, then the release or the Result Queue. -/
theorem State.complete_eq (n : Nat) (code : Completion) (detail : Word) (s : State) (answer : List Byte)
    (clamped truncated : Bool) : s.complete n code detail answer clamped truncated =
      { s with pool :=
        let q := s.pool.completed n answer (completionHeader s code detail clamped truncated)
        if s.quiet n && code == .ok then q.beginRelease n else q.queueResult n } := rfl

/-- The first six bytes of the header stay as the host wrote them (R141). -/
theorem Pool.completed_low {p : Pool} {n : Nat} (answer header : List Byte) (hd : (p.entry n).pages.Nodup) {i : Nat}
    (hi : i < 6) : (p.completed n answer header).readBuffer n i = p.readBuffer n i := by
  unfold Pool.completed
  rw [Pool.readBuffer_writeBuffer_other header (by simpa using hd) (by omega),
    Pool.readBuffer_writeBuffer_other answer hd (by omega)]

/-- The header bytes from offset 6 on are those of the completion (R141). -/
theorem Pool.completed_header {p : Pool} {n : Nat} (answer header : List Byte) (hw : Memory.wf p.memory = true)
    (hp : ∀ q ∈ (p.entry n).pages, q < 96) (hd : (p.entry n).pages.Nodup) {i : Nat} (hi : i < header.length)
    (hc : 6 + i < (p.entry n).capacity) : (p.completed n answer header).readBuffer n (6 + i) = header[i] := by
  unfold Pool.completed
  exact Pool.readBuffer_writeBuffer header (Pool.writeBuffer_wf 16 answer hw hp) (by simpa using hp) (by simpa using hd)
    hi (by simpa using hc)

/-- The answer's bytes stand behind the header (R141). -/
theorem Pool.completed_answer {p : Pool} {n : Nat} (answer header : List Byte) (hw : Memory.wf p.memory = true)
    (hp : ∀ q ∈ (p.entry n).pages, q < 96) (hd : (p.entry n).pages.Nodup) {i : Nat} (hh : header.length ≤ 10)
    (hi : i < answer.length) (hc : 16 + i < (p.entry n).capacity) :
    (p.completed n answer header).readBuffer n (16 + i) = answer[i] := by
  unfold Pool.completed
  rw [Pool.readBuffer_writeBuffer_other header (by simpa using hd) (by omega)]
  exact Pool.readBuffer_writeBuffer answer hw hp hd hi hc

/-- A completion keeps exchange memory canonical. -/
theorem Pool.completed_wf {p : Pool} {n : Nat} (answer header : List Byte) (hw : Memory.wf p.memory = true)
    (hp : ∀ q ∈ (p.entry n).pages, q < 96) : Memory.wf (p.completed n answer header).memory = true :=
  Pool.writeBuffer_wf 6 header (Pool.writeBuffer_wf 16 answer hw hp) (by simpa using hp)

/-! ## The window (R136) -/

/-- With no write-behind byte held there is nothing to store. -/
theorem State.storeWriteBehind_none {s : State} (h : s.link.writeBehind = none) : s.storeWriteBehind = s := by
  simp [State.storeWriteBehind, h]

/-! ## Node Table entries (R14) -/

@[simp] theorem Chain.node_zero (c : Chain) : c.node 0 = .reset := rfl

theorem Chain.node_setNode_self (c : Chain) {n : Nat} (e : NodeEntry) (h : 1 ≤ n ∧ n ≤ 20) :
    (c.setNode n e).node n = e := by
  have h0 : n ≠ 0 := by omega
  have h1 : n - 1 < 20 := by omega
  simp [Chain.setNode, Chain.node, h0, h1]

theorem Chain.node_setNode_other (c : Chain) {n m : Nat} (e : NodeEntry) (h : m ≠ n) :
    (c.setNode n e).node m = c.node m := by
  by_cases h0 : n = 0
  · simp [Chain.setNode, h0]
  · by_cases h1 : m = 0
    · simp [h1]
    · have : n - 1 ≠ m - 1 := by omega
      simp [Chain.setNode, Chain.node, h0, h1, this]

/-- An update of one entry changes the Node Table alone. -/
theorem Chain.setNode_eq (c : Chain) (n : Nat) (e : NodeEntry) :
    c.setNode n e = { c with nodes := (c.setNode n e).nodes } := by
  unfold Chain.setNode; split <;> rfl

theorem Chain.node_mapNodes (c : Chain) (f : Nat → NodeEntry → NodeEntry) {n : Nat} (h : 1 ≤ n ∧ n ≤ 20) :
    (c.mapNodes f).node n = f n (c.node n) := by
  have h0 : n ≠ 0 := by omega
  have h1 : n - 1 < 20 := by omega
  have h2 : n - 1 + 1 = n := by omega
  simp [Chain.mapNodes, Chain.node, h0, h1, h2]

/-! ## The transaction engine (R4, R6, R8) -/

/-- A grant puts the frame at its port with its retries; its transmission begins unless the port is in the quiet time. -/
theorem State.startTransaction_eq (s : State) (r : ChainRequester) (f : ChainFrame) (port : Port) (retries : Nat) :
    s.startTransaction r f port retries = { s with chain := { s.chain with
      engine := some ⟨r, f, port, .sending, retries, s.profile.replyTimeout, 0, 0, .noError⟩
      txTimer := if s.chain.quiet port then none else some f.duration
      replyTimer := none, watchTimer := none, idleTimer := none } } := rfl

/-! ## Trips (R81, R83) -/

/-- A trip of a kind whose latch is set has no effect (R83). -/
theorem State.trip_set {s : State} {k : TripKind} {a : TripAction} (r : TripReport) (h : s.prot.latch k = some a) :
    s.trip k r = s := by simp [State.trip, h]

/-- A trip of a kind whose latch is clear sets it with the action that applies now (R83). -/
theorem State.trip_clear {s : State} {k : TripKind} (r : TripReport) (h : s.prot.latch k = none) :
    s.trip k r = { s with
      prot := s.prot.setLatch k (some (s.profile.actionOf k))
      transit := { s.transit with
        alerts := s.transit.alerts ++ [(.trip, tripPayload k (s.profile.actionOf k) r)]
        demands := s.transit.demands + if s.profile.actionOf k = .orderlyOpen then 1 else 0 } } := by
  simp only [State.trip, h]
  split <;> simp_all [State.raise, State.onTransit, State.onProt]

theorem tripKindCode_lt (k : TripKind) : tripKindCode k < 11 := by cases k <;> decide

theorem tripKindCode_inj {j k : TripKind} (h : tripKindCode j = tripKindCode k) : j = k := by
  cases j <;> cases k <;> first | rfl | exact absurd h (by decide)

/-- Setting a latch leaves the others. -/
theorem Protection.latch_setLatch (p : Protection) (j k : TripKind) (a : Option TripAction) :
    (p.setLatch k a).latch j = if j = k then a else p.latch j := by
  by_cases h : j = k
  · subst h
    simp [Protection.latch, Protection.setLatch, tripKindCode_lt]
  · have : tripKindCode k ≠ tripKindCode j := fun e => h (tripKindCode_inj e).symm
    simp [Protection.latch, Protection.setLatch, h, this]

/-- Judging a kind that cannot be judged has no effect (R78). -/
@[simp] theorem State.judgeKind_unjudged (s : State) (k : TripKind) (r : TripReport) :
    s.judgeKind k .unjudged r = s := rfl

/-- A passing judgement sets the counter to 0 (R81). -/
theorem State.judgeKind_passing (s : State) (k : TripKind) (r : TripReport) :
    s.judgeKind k .passing r = { s with prot := s.prot.setCounter k 0 } := rfl

/-! ## The kill gate at the sequencer (R85, R112) -/

/-- With no assertion waiting there is nothing to take. -/
theorem State.takeWaitingKill_none {s : State} (h : true ∉ s.transit.killEdges) : s.takeWaitingKill = s := by
  unfold State.takeWaitingKill
  rw [if_neg (by simpa using h)]

/-- A waiting assertion is taken, and the edges that wait with it go. -/
theorem State.takeWaitingKill_some {s : State} (h : true ∈ s.transit.killEdges) :
    s.takeWaitingKill = State.takeKill { s with transit := { s.transit with killEdges := [] } } := by
  unfold State.takeWaitingKill
  rw [if_pos (by simpa using h)]
  rfl

/-- The event alone, or, where it deasserts the gate over an assertion that waits, the event after the taking. -/
theorem State.afterKill_cases (s : State) (f : State → State) :
    s.afterKill f = f s ∨ (s.killGate = true ∧ (f s).killGate = false ∧ true ∈ s.transit.killEdges ∧
      s.afterKill f = f (State.takeKill { s with transit := { s.transit with killEdges := [] } })) := by
  by_cases hw : true ∈ s.transit.killEdges
  · cases hg : s.killGate <;> cases hf : (f s).killGate <;>
      simp [State.afterKill, hg, hf, hw, State.takeWaitingKill_some hw]
  · exact .inl (by simp [State.afterKill, State.takeWaitingKill_none hw])

/-- An event that leaves the gate asserted, or finds it deasserted, stands alone. -/
theorem State.afterKill_of_gate {s : State} {f : State → State} (h : s.killGate = false ∨ (f s).killGate = true) :
    s.afterKill f = f s := by
  rcases h with h | h <;> simp [State.afterKill, h]

/-! ## What follows an event at once (R8, R32) -/

/-- With no list ready and no request the engine could serve, nothing follows. -/
theorem State.settleStep_of_workIdle {s : State} (h : s.workIdle) : s.settleStep = none := by
  obtain ⟨hl, he⟩ := h
  have hg : s.grantChain = none := by
    rcases he with he | ⟨h1, h2, h3, h4⟩
    · simp [State.grantChain, he]
    · unfold State.grantChain State.candidate
      split
      · rfl
      · simp [h1, h2, h3, h4]
  unfold State.settleStep
  cases hf : s.seq.frame with
  | none => exact hg
  | some f =>
    have := hl f (by simp [hf])
    simp [this.1, this.2, hg]

theorem State.settle_of_settleStep {s : State} (h : s.settleStep = none) : s.settle = s := by
  unfold State.settle State.settleN
  rw [h]

theorem State.settle_of_workIdle {s : State} (h : s.workIdle) : s.settle = s :=
  State.settle_of_settleStep (State.settleStep_of_workIdle h)

/-! ## The low-power clock (R151) -/

/-- `k` ticks of ASLEEP in which nothing happens: pack time, the staleness timer and the two counts move. -/
def State.quietTicks (k : Nat) (s : State) : State :=
  { s with
    clock := if k = 0 then s.clock else ⟨s.clock.packTime + BitVec.ofNat 32 (1000 * k), 1000⟩
    prot := { s.prot with stalenessTimer := s.prot.stalenessTimer.run (1000 * k) }
    sleep := { s.sleep with maxCount := s.sleep.maxCount + k, wakeCount := s.sleep.wakeCount + k } }

/-- The next tick of ASLEEP finds nothing to do: no tamper latch, WAKE_IN low, neither timer at its compare value after
`k` ticks. -/
abbrev State.quietFor (s : State) (k : Nat) : Prop :=
  s.sleep.power = .asleep ∧ s.sleep.timersRunning = true ∧ s.sleep.tamperLatch = none ∧
  s.inputs.pins.wakeIn = false ∧ s.sleep.maxCount + k < 1000 * s.sleep.settings.maxSleep ∧
  s.sleep.wakeCount + k < 1000 * s.sleep.settings.interval

theorem State.quietTicks_zero (s : State) : s.quietTicks 0 = s := by
  cases s with
  | mk clock inputs link pool alerts chain seq sensing table prot cont sleep store transit pending =>
    cases prot with
    | mk counters latches stale timer last held => cases timer <;> rfl

/-- Quiet ticks add up. -/
theorem State.quietTicks_succ (s : State) (k : Nat) : (s.quietTicks 1).quietTicks k = s.quietTicks (1 + k) := by
  have h1 : 1000 * (1 + k) = 1000 + 1000 * k := by omega
  have h2 : s.clock.packTime + BitVec.ofNat 32 (1000 + 1000 * k) =
      s.clock.packTime + 1000#32 + BitVec.ofNat 32 (1000 * k) := by rw [BitVec.ofNat_add, BitVec.add_assoc]
  have h3 : (s.prot.stalenessTimer.run 1000).run (1000 * k) = s.prot.stalenessTimer.run (1000 + 1000 * k) := by
    cases s.prot.stalenessTimer <;> simp [Timer.run, Nat.sub_sub]
  by_cases hk : k = 0
  · subst hk; exact State.quietTicks_zero _
  · simp [State.quietTicks, h1, h2, h3, hk, Nat.add_assoc]

/-- One tick of ASLEEP that finds nothing to do. -/
theorem State.passTick_tickWork_quiet {s : State} (h : s.quietFor 1) : s.passTick.tickWork = s.quietTicks 1 := by
  obtain ⟨hp, ht, hl, hw, hm, hk⟩ := h
  have hm : ¬ 1000 * s.sleep.settings.maxSleep ≤ s.sleep.maxCount + 1 := by omega
  have hk : ¬ 1000 * s.sleep.settings.interval ≤ s.sleep.wakeCount + 1 := by omega
  simp [State.passTick, State.tickWork, State.sampleWakeIn, State.countMaxSleep, State.countWake, State.sleepTimersRun,
    State.quietTicks, State.onClock, State.onProt, State.onSleep, hp, ht, hl, hw, hm, hk]

/-- The ticks that find nothing to do pass at once; the rest follow from the state they leave. -/
theorem State.runTicks_quiet {s : State} (k m : Nat) (h : s.quietFor k) :
    s.runTicks (k + m) = (s.quietTicks k).runTicks m := by
  induction k generalizing s with
  | zero => rw [State.quietTicks_zero, Nat.zero_add]
  | succ k ih =>
    obtain ⟨hp, ht, hl, hw, hm, hk⟩ := h
    have h1 : s.quietFor 1 := ⟨hp, ht, hl, hw, by omega, by omega⟩
    have h2 : (s.quietTicks 1).quietFor k :=
      ⟨hp, ht, hl, hw, by simp only [State.quietTicks]; omega, by simp only [State.quietTicks]; omega⟩
    have h3 : (s.quietTicks 1).sleep.power = s.sleep.power := rfl
    rw [Nat.add_right_comm, State.runTicks, State.passTick_tickWork_quiet h1]
    simp only [h3, if_true]
    rw [ih h2, State.quietTicks_succ, Nat.add_comm 1 k]

/-! ## Leaving PATROL (R55) -/

/-- Outside PATROL there is no burst to end. -/
theorem State.leavePatrol_of_ne {s : State} (h : s.sleep.power ≠ .patrol) : s.leavePatrol = s := by
  simp [State.leavePatrol, h]

/-- In PATROL the burst timer and the request on its way are all that changes. -/
theorem State.leavePatrol_patrol {s : State} (h : s.sleep.power = .patrol) : s.leavePatrol = { s with
    sensing := { s.sensing with burstTimer := none }, transit := { s.transit with burst := false } } := by
  simp [State.leavePatrol, h, State.onSensing, State.onTransit]

@[simp] theorem State.leavePatrol_sleep (s : State) : s.leavePatrol.sleep = s.sleep := by
  unfold State.leavePatrol; split <;> rfl
@[simp] theorem State.leavePatrol_chain (s : State) : s.leavePatrol.chain = s.chain := by
  unfold State.leavePatrol; split <;> rfl
@[simp] theorem State.leavePatrol_pool (s : State) : s.leavePatrol.pool = s.pool := by
  unfold State.leavePatrol; split <;> rfl
@[simp] theorem State.leavePatrol_history (s : State) : s.leavePatrol.sensing.history = s.sensing.history := by
  unfold State.leavePatrol; split <;> rfl

/-- Where a burst runs in PATROL alone, none runs once PATROL is left. -/
theorem State.leavePatrol_noBurst {s : State} (h : s.burstInPatrol) :
    s.leavePatrol.sensing.burstTimer = none ∧ s.leavePatrol.transit.burst = false := by
  by_cases hp : s.sleep.power = .patrol
  · simp [State.leavePatrol_patrol hp]
  · rw [State.leavePatrol_of_ne hp]
    exact ⟨Decidable.byContradiction fun hb => hp (h (.inl hb)),
      Bool.eq_false_iff.2 fun hb => hp (h (.inr hb))⟩

/-! ## The frame of an event -/

theorem State.event_taking {s : State} (f : State → State) (h : s.taking) : s.event f = .next ((f s).publish s) := by
  simp [State.event, show s.inputs.inReset = false from h]

theorem State.localEvent_taking {s : State} (f : State → State) (h : s.taking) : s.localEvent f = .next (f s) := by
  simp [State.localEvent, show s.inputs.inReset = false from h]

end Sys2Proof.Machine
end

