-- ==== Sys2Proof/Laws/PerInstr.lean ====
section
/-! SUPPORT. The family `Operands`: for every command, its well-formedness in terms of what its operands may be (R48, R175). -/

namespace Sys2Proof.Laws.Operands

open Sys2Proof

/-- What the operands of a command may be: an illegal command's code is none of 1 to 5, a raw current is at most 2,200,000 mA either way; every other operand is free. -/
def allowed : Instr → Prop
  | .illegalCommand code _ => code.toNat ≠ 1 ∧ code.toNat ≠ 2 ∧ code.toNat ≠ 3 ∧ code.toNat ≠ 4 ∧ code.toNat ≠ 5
  | .sampleTimerExpiry r => r.current.natAbs ≤ 2200000
  | .burstRequest r => r.current.natAbs ≤ 2200000
  | .burstSample r => r.current.natAbs ≤ 2200000
  | _ => True

/-- A command is well formed exactly when its operands are allowed. -/
def Statement (i : Instr) : Prop := i.wellFormed = true ↔ allowed i

theorem raw_current (r : RawSample) : r.wellFormed = true ↔ r.current.natAbs ≤ 2200000 := by
  simp only [RawSample.wellFormed, decide_eq_true_eq]
  omega

theorem powerOnReset (pins : PinLevels) : Statement (.powerOnReset pins) := ⟨fun _ => trivial, fun _ => rfl⟩
theorem resetNAssertion (levels : ResetLevels) : Statement (.resetNAssertion levels) := ⟨fun _ => trivial, fun _ => rfl⟩
theorem resetNRelease (pins : PinLevels) : Statement (.resetNRelease pins) := ⟨fun _ => trivial, fun _ => rfl⟩
theorem spiVoidTransaction (command : Byte) : Statement (.spiVoidTransaction command) := ⟨fun _ => trivial, fun _ => rfl⟩
theorem spiTransactionEnd : Statement .spiTransactionEnd := ⟨fun _ => trivial, fun _ => rfl⟩
theorem registerWrite (register : ReadOnlyRegister) (value : Word) : Statement (.registerWrite register value) := ⟨fun _ => trivial, fun _ => rfl⟩
theorem attnWrite (value : Word) : Statement (.attnWrite value) := ⟨fun _ => trivial, fun _ => rfl⟩
theorem attnMaskWrite (value : Word) : Statement (.attnMaskWrite value) := ⟨fun _ => trivial, fun _ => rfl⟩
theorem selectWrite (value : Word) : Statement (.selectWrite value) := ⟨fun _ => trivial, fun _ => rfl⟩
theorem dataRead : Statement .dataRead := ⟨fun _ => trivial, fun _ => rfl⟩
theorem dataWrite (value : Byte) : Statement (.dataWrite value) := ⟨fun _ => trivial, fun _ => rfl⟩
theorem allocate (argument : Half) : Statement (.allocate argument) := ⟨fun _ => trivial, fun _ => rfl⟩
theorem submit (argument : Half) : Statement (.submit argument) := ⟨fun _ => trivial, fun _ => rfl⟩
theorem takeResult (argument : Half) : Statement (.takeResult argument) := ⟨fun _ => trivial, fun _ => rfl⟩
theorem takeAlert (argument : Half) : Statement (.takeAlert argument) := ⟨fun _ => trivial, fun _ => rfl⟩
theorem release (argument : Half) : Statement (.release argument) := ⟨fun _ => trivial, fun _ => rfl⟩
theorem illegalCommand (code : Byte) (argument : Half) : Statement (.illegalCommand code argument) := by
  have h : code = 0#8 ↔ code.toNat = 0 := by rw [← BitVec.toNat_inj]; simp
  simp only [Statement, allowed, Instr.wellFormed, Bool.or_eq_true, beq_iff_eq, decide_eq_true_eq, h]
  omega
theorem allocationComplete : Statement .allocationComplete := ⟨fun _ => trivial, fun _ => rfl⟩
theorem releaseComplete : Statement .releaseComplete := ⟨fun _ => trivial, fun _ => rfl⟩
theorem orderHeadExamine (wakeIn : Bool) (tamperIn : Bool) : Statement (.orderHeadExamine wakeIn tamperIn) := ⟨fun _ => trivial, fun _ => rfl⟩
theorem enumerateChain : Statement .enumerateChain := ⟨fun _ => trivial, fun _ => rfl⟩
theorem readChainStatus : Statement .readChainStatus := ⟨fun _ => trivial, fun _ => rfl⟩
theorem writeNode : Statement .writeNode := ⟨fun _ => trivial, fun _ => rfl⟩
theorem readNode : Statement .readNode := ⟨fun _ => trivial, fun _ => rfl⟩
theorem startSampling : Statement .startSampling := ⟨fun _ => trivial, fun _ => rfl⟩
theorem stopSampling : Statement .stopSampling := ⟨fun _ => trivial, fun _ => rfl⟩
theorem singleFrame : Statement .singleFrame := ⟨fun _ => trivial, fun _ => rfl⟩
theorem selectList : Statement .selectList := ⟨fun _ => trivial, fun _ => rfl⟩
theorem snapshotHistory : Statement .snapshotHistory := ⟨fun _ => trivial, fun _ => rfl⟩
theorem clearTrips (tamperIn : Bool) : Statement (.clearTrips tamperIn) := ⟨fun _ => trivial, fun _ => rfl⟩
theorem closePack : Statement .closePack := ⟨fun _ => trivial, fun _ => rfl⟩
theorem openPack : Statement .openPack := ⟨fun _ => trivial, fun _ => rfl⟩
theorem enterSleep (wakeIn : Bool) : Statement (.enterSleep wakeIn) := ⟨fun _ => trivial, fun _ => rfl⟩
theorem updateBegin : Statement .updateBegin := ⟨fun _ => trivial, fun _ => rfl⟩
theorem updateChunk : Statement .updateChunk := ⟨fun _ => trivial, fun _ => rfl⟩
theorem updateFinish : Statement .updateFinish := ⟨fun _ => trivial, fun _ => rfl⟩
theorem updateAbort : Statement .updateAbort := ⟨fun _ => trivial, fun _ => rfl⟩
theorem activateProfile : Statement .activateProfile := ⟨fun _ => trivial, fun _ => rfl⟩
theorem readProfileInfo : Statement .readProfileInfo := ⟨fun _ => trivial, fun _ => rfl⟩
theorem transmissionEnd : Statement .transmissionEnd := ⟨fun _ => trivial, fun _ => rfl⟩
theorem replyReceived (port : Port) (frame : List Byte) : Statement (.replyReceived port frame) := ⟨fun _ => trivial, fun _ => rfl⟩
theorem chainBytePause (port : Port) : Statement (.chainBytePause port) := ⟨fun _ => trivial, fun _ => rfl⟩
theorem replyTimeout : Statement .replyTimeout := ⟨fun _ => trivial, fun _ => rfl⟩
theorem ringWatchExpiry : Statement .ringWatchExpiry := ⟨fun _ => trivial, fun _ => rfl⟩
theorem ringFrameReturn (frame : List Byte) : Statement (.ringFrameReturn frame) := ⟨fun _ => trivial, fun _ => rfl⟩
theorem keepaliveIdleExpiry : Statement .keepaliveIdleExpiry := ⟨fun _ => trivial, fun _ => rfl⟩
theorem wakeToneQuietExpiry (port : Port) : Statement (.wakeToneQuietExpiry port) := ⟨fun _ => trivial, fun _ => rfl⟩
theorem chainOrderWaitTimeout : Statement .chainOrderWaitTimeout := ⟨fun _ => trivial, fun _ => rfl⟩
theorem frameTimerExpiry : Statement .frameTimerExpiry := ⟨fun _ => trivial, fun _ => rfl⟩
theorem waitExpiry : Statement .waitExpiry := ⟨fun _ => trivial, fun _ => rfl⟩
theorem holdUntilExpiry : Statement .holdUntilExpiry := ⟨fun _ => trivial, fun _ => rfl⟩
theorem repollDelayExpiry : Statement .repollDelayExpiry := ⟨fun _ => trivial, fun _ => rfl⟩
theorem sampleTimerExpiry (sample : RawSample) : Statement (.sampleTimerExpiry sample) := raw_current sample
theorem historyEntryAtProtection : Statement .historyEntryAtProtection := ⟨fun _ => trivial, fun _ => rfl⟩
theorem historyEntryAtContactor : Statement .historyEntryAtContactor := ⟨fun _ => trivial, fun _ => rfl⟩
theorem burstRequest (sample : RawSample) : Statement (.burstRequest sample) := raw_current sample
theorem burstSample (sample : RawSample) : Statement (.burstSample sample) := raw_current sample
theorem stalenessTimerExpiry : Statement .stalenessTimerExpiry := ⟨fun _ => trivial, fun _ => rfl⟩
theorem contactorStateReport : Statement .contactorStateReport := ⟨fun _ => trivial, fun _ => rfl⟩
theorem nodeLostReport : Statement .nodeLostReport := ⟨fun _ => trivial, fun _ => rfl⟩
theorem safeOpenAssertion : Statement .safeOpenAssertion := ⟨fun _ => trivial, fun _ => rfl⟩
theorem safeOpenDeassertion : Statement .safeOpenDeassertion := ⟨fun _ => trivial, fun _ => rfl⟩
theorem tamperEventAtProtection : Statement .tamperEventAtProtection := ⟨fun _ => trivial, fun _ => rfl⟩
theorem killGateAssertion : Statement .killGateAssertion := ⟨fun _ => trivial, fun _ => rfl⟩
theorem killGateDeassertion : Statement .killGateDeassertion := ⟨fun _ => trivial, fun _ => rfl⟩
theorem orderlyOpenDemand : Statement .orderlyOpenDemand := ⟨fun _ => trivial, fun _ => rfl⟩
theorem auxInputEdge (contactor : Contactor) (closed : Bool) : Statement (.auxInputEdge contactor closed) := ⟨fun _ => trivial, fun _ => rfl⟩
theorem auxLevelTaken (contactor : Contactor) : Statement (.auxLevelTaken contactor) := ⟨fun _ => trivial, fun _ => rfl⟩
theorem stepTimerExpiry : Statement .stepTimerExpiry := ⟨fun _ => trivial, fun _ => rfl⟩
theorem prechargeTimerExpiry : Statement .prechargeTimerExpiry := ⟨fun _ => trivial, fun _ => rfl⟩
theorem auxWatchExpiry (contactor : Contactor) : Statement (.auxWatchExpiry contactor) := ⟨fun _ => trivial, fun _ => rfl⟩
theorem alertArrival : Statement .alertArrival := ⟨fun _ => trivial, fun _ => rfl⟩
theorem alertRecordWritten : Statement .alertRecordWritten := ⟨fun _ => trivial, fun _ => rfl⟩
theorem lowPowerTick (wakeIn : Bool) (tamperIn : Bool) : Statement (.lowPowerTick wakeIn tamperIn) := ⟨fun _ => trivial, fun _ => rfl⟩
theorem maxSleepExpiry : Statement .maxSleepExpiry := ⟨fun _ => trivial, fun _ => rfl⟩
theorem wakeTimerExpiry : Statement .wakeTimerExpiry := ⟨fun _ => trivial, fun _ => rfl⟩
theorem tamperInEdge : Statement .tamperInEdge := ⟨fun _ => trivial, fun _ => rfl⟩
theorem tamperEventAtProfile : Statement .tamperEventAtProfile := ⟨fun _ => trivial, fun _ => rfl⟩
theorem eraseComplete (succeeded : Bool) : Statement (.eraseComplete succeeded) := ⟨fun _ => trivial, fun _ => rfl⟩
theorem programComplete (succeeded : Bool) : Statement (.programComplete succeeded) := ⟨fun _ => trivial, fun _ => rfl⟩
theorem verifyComplete : Statement .verifyComplete := ⟨fun _ => trivial, fun _ => rfl⟩
theorem activationConditionReport : Statement .activationConditionReport := ⟨fun _ => trivial, fun _ => rfl⟩
theorem activationWaitTimeout : Statement .activationWaitTimeout := ⟨fun _ => trivial, fun _ => rfl⟩
theorem firstReplyByte (port : Port) : Statement (.firstReplyByte port) := ⟨fun _ => trivial, fun _ => rfl⟩

end Sys2Proof.Laws.Operands
end

