-- ==== Sys2Proof/Tests/Slice0.lean ====
section
/-! SUPPORT. Tests: ill-formed terms are refused, small steps give the values that the manual's rules and worked cases
give, and every statement's hypotheses are met by a concrete state. -/

namespace Sys2Proof.Tests

set_option Elab.async false

open Sys2Proof Sys2Proof.Machine

/-! ## Small states -/

/-- The next state of an answer. -/
def nextOf (a : Answer) : Option State :=
  match a with
  | .next s => some s
  | .fault _ => none
  | .refused _ => none

/-- A figure of the state after one command. -/
def after {α : Type} (c : Instr) (s : State) (f : State → α) : Option α := (nextOf (exec c s)).map f

/-- The reset state with the chain idle. -/
def calm : State := State.reset.onChain fun _ => Chain.reset false

/-- A node that is PRESENT on path A. -/
def nodeA (hops cells : Nat) : NodeEntry := { NodeEntry.reset with
  state := .present, path := .pathA, hops := hops, cells := cells }

/-- The engine in a phase, with its timers as given. -/
def engineOf (who : ChainRequester) (f : ChainFrame) (port : Port) (phase : EnginePhase) (left : Nat) : Engine :=
  ⟨who, f, port, phase, left, 120, 0, 0, .noError⟩

def busy (e : Engine) (s : State) : State := s.onChain fun c => { c with
  engine := some e, txTimer := some 30, replyTimer := some 120, watchTimer := some 120, idleTimer := none,
  nodes := c.nodes.setIfInBounds 0 (nodeA 1 1), found := 1 }

/-- A buffer 1 of the pages given, in a state, with bytes from its start. -/
def buffer1 (st : BufferState) (pages : List Nat) (bytes : List Byte) (s : State) : State := s.onPool fun p =>
  (p.setEntry 1 ⟨st, pages, .link, false⟩).writeBuffer 1 0 bytes

/-- An order in buffer 1 at the head of the Order Queue. -/
def order1 (kind flags length : Nat) (body : List Nat) (s : State) : State :=
  (buffer1 .orderQueued [4] ([BitVec.ofNat 8 kind, BitVec.ofNat 8 flags, 0, 0, BitVec.ofNat 8 length, 0, 0, 0, 0, 0,
    0, 0, 0, 0, 0, 0] ++ body.map (BitVec.ofNat 8 ·)) s).onPool fun p => { p with orderQueue := [1] }

/-- An order that is in service in buffer 1. -/
def service1 (s : State) : State := buffer1 .inService [4] [1, 0] s

/-- The bytes of a CONVERT element at index 0 of slot A. -/
def convertList (s : State) : State := s.onPool fun p => { p with
  memory := [(256, 1), (260, 3), (263, 4)] }

def withCont (f : Contactors → Contactors) (s : State) : State := s.onCont f

def inState (st : ContactorState) (c : Triple Bool) (aux : Triple Bool) (s : State) : State := s.onCont fun x => { x with
  state := st, commands := c, aux := aux, stepTimer := some 30000 }

/-- CLOSED, SAFE_OPEN asserted with no latch, and the gate's assertion not yet taken. -/
def closedUnderWaitingKill : State :=
  ((inState .closed ⟨true, true, false⟩ ⟨true, true, false⟩ calm).onInputs fun i => { i with
    pins := { i.pins with safeOpen := true } }).onTransit fun t => { t with killEdges := [true] }

def asleep (s : State) : State := s.onSleep fun x => { x with
  power := .asleep, timersRunning := true, nodesAsleep := true
  settings := ⟨60, 86400, .slotA, 0, 0⟩ }

def entry (current : Int) (pack link : Nat) : HistoryEntry := ⟨7, current, pack, link, false, false⟩

/-! ## The statements' hypotheses are met

One theorem for each statement with hypotheses, named after it; each clause has a state of its own, where its range has a
boundary the boundary value. -/

theorem witness_StepRunsFrontCommandOrDueEvent : State.reset.pending = [] := by decide +kernel

theorem witness_EveryStepKeepsCoilCommandsOfTheState :
    State.reset.commandsMatch ∧ (nextOf (step State.reset)).isSome = true ∧ State.reset.gateOk ∧
    (closedUnderWaitingKill.commandsMatch ∧ closedUnderWaitingKill.killGate = true) ∧
    (nextOf (exec .safeOpenDeassertion closedUnderWaitingKill)).map (·.killGate) = some false :=
  ⟨by decide +kernel, by decide +kernel, by unfold State.gateOk; decide +kernel, by decide +kernel, by decide +kernel⟩

theorem witness_EveryStepKeepsCoilCommandsOfTheState_waiting : closedUnderWaitingKill.gateOk := by
  unfold State.gateOk; decide +kernel

theorem witness_PosOutputNeedsNegOutput :
    (inState .closed ⟨true, true, false⟩ ⟨true, true, false⟩ calm).commandsMatch ∧
    (inState .closed ⟨true, true, false⟩ ⟨true, true, false⟩ calm).coilOutput .pos = true ∧
    (inState .precharging ⟨false, true, true⟩ ⟨false, true, false⟩ calm).commandsMatch ∧
    (inState .precharging ⟨false, true, true⟩ ⟨false, true, false⟩ calm).coilOutput .pre = true := by decide +kernel

theorem witness_EveryStepKeepsMemoryCanonical :
    State.reset.memoryOk ∧ (nextOf (step State.reset)).isSome = true := by decide +kernel

theorem witness_EveryStepKeepsHistoryBounded :
    State.reset.historyBounded ∧ State.reset.burstInPatrol ∧ (nextOf (step State.reset)).isSome = true := by
  decide +kernel

theorem witness_VersionFloorNeverDecreases :
    State.reset.sessionSound ∧ (nextOf (step State.reset)).isSome = true :=
  ⟨⟨fun h => by rcases h with h | h | h | h | ⟨_, h⟩ <;> simp [State.reset, ProfileStore.factory] at h,
    fun n h => by simp [State.reset, ProfileStore.factory] at h⟩, by decide +kernel⟩

theorem witness_CommandsLeaveTheQueueAlone : (nextOf (exec .spiTransactionEnd State.reset)).isSome = true := by
  decide +kernel

theorem witness_OnlyIllFormedCommandsAreRefused :
    Instr.wellFormed (.spiVoidTransaction 0x87) = true ∧ Instr.wellFormed (.illegalCommand 6 0) = true ∧
    (1 ≤ (1#8).toNat ∧ (1#8).toNat ≤ 5) ∧ (1 ≤ (5#8).toNat ∧ (5#8).toNat ≤ 5) := by decide

theorem witness_ResetLineResetsAndReleases :
    State.reset.taking ∧
    (let s := ((calm.onChain fun c => { c with ringState := .opened }).onInputs fun i => { i with inReset := true }).onProt
       fun p => p.setLatch .safeLine (some .immediateOpen)
     s.inputs.inReset = true ∧ s.seq.frame = none ∧ s.chain.engine = none ∧ s.chain.location = none ∧
     s.chain.seqRequest = none ∧ s.chain.quietA = none ∧ s.sleep.power ≠ .asleep) := by decide +kernel

theorem witness_ResetChoosesOneActiveBank :
    ProfileStore.factory.bankA.state = .active ∧
    (let p := { ProfileStore.factory with bankB := ⟨.active, 1, 2, 136, Profile.vendorImage⟩ }
     p.bankA.state = .active ∧ p.bankB.state = .active ∧ p.bankA.sequence.toNat < p.bankB.sequence.toNat) ∧
    (let p := { ProfileStore.factory with bankB := ⟨.active, 1, 0, 136, Profile.vendorImage⟩ }
     p.bankA.state = .active ∧ p.bankB.state = .active ∧ p.bankB.sequence.toNat < p.bankA.sequence.toNat) := by
  decide +kernel

theorem witness_ResetAndUnpoweredLinkTakeNothing :
    (let s := State.reset.onInputs fun i => { i with inReset := true }
     s.inputs.inReset = true ∧ Instr.wellFormed (.allocate 1) = true) ∧
    (asleep calm).taking ∧ (asleep calm).sleep.power = .asleep ∧
    (calm.onSleep fun x => { x with power := .patrol }).taking := by decide +kernel

theorem witness_RegisterWritesChangeTheirOwnFields :
    State.reset.linkSettled ∧ (0x08#8 &&& 0x78#8 ≠ 0#8) ∧ (0x40#8 &&& 0x78#8 ≠ 0#8) ∧
    ((0x87#8 &&& 0x78#8 = 0#8) ∧ (0x87#8).getLsbD 7 = true ∧ (0x87#8).toNat % 8 ≠ 4) ∧
    ((0x00#8 &&& 0x78#8 = 0#8) ∧ (0x00#8).getLsbD 7 = false ∧ (0x00#8).toNat % 8 ≠ 4) := by decide +kernel

theorem witness_AttentionAndQueueStateFollowTheQueues :
    (let s := calm.onPool fun p => { p with resultQueue := [40], alertQueue := [1], orderQueue := [2] }
     s.pool.resultQueue.headD 0 < 64 ∧ s.pool.resultQueue.length < 64 ∧ s.pool.alertQueue.headD 0 < 64 ∧
     s.pool.alertQueue.length < 64 ∧ s.pool.orderQueue.length < 64) := by decide +kernel

theorem witness_SelectAndDataReadFetchAhead :
    State.reset.linkSettled ∧ State.reset.link.readAhead ≠ .discarded ∧
    (State.reset.onLink fun l => { l with readAhead := .refused }).linkSettled := by decide +kernel

/-- An event that writes a field and raises the count, a row that writes none and leaves it, and three bytes at reset. -/
theorem witness_StatusBlockShowsItsFieldsAndCountsUpdates :
    (let s := State.reset
     let t := (s.onSeq fun q => { q with sampler := .halted }).publish s
     t.exchangeByte 5 ≠ s.exchangeByte 5 ∧ t.pool.updateCount = s.pool.updateCount + 1) ∧
    (State.reset.taking ∧ ∃ t, exec .spiTransactionEnd State.reset = .next t ∧
      t.pool.updateCount = State.reset.pool.updateCount) ∧
    State.reset.exchangeByte 12 = 92 ∧ State.reset.exchangeByte 13 = 40 ∧ State.reset.exchangeByte 40 = 4 := by
  refine ⟨?_, ⟨by decide, _, rfl, rfl⟩, ?_, ?_, ?_⟩ <;> decide +kernel

theorem witness_DataWritesAreTestedAndStored :
    State.reset.linkSettled ∧
    (let s := State.reset.onLink fun l => { l with offset := 256 }
     s.linkSettled ∧ s.writable 0 256 = true) ∧
    (let s := State.reset.onLink fun l => { l with offset := 255 }
     s.linkSettled ∧ s.writable 0 255 = false) ∧
    (let s := State.reset.onLink fun l => { l with transaction := .dataWrite, offset := 767 }
     s.taking ∧ s.linkPowered = true ∧ s.link.writeBehind = none ∧ s.link.transaction = .dataWrite ∧
     s.writable 0 767 = true) ∧
    (let s := (buffer1 .held [4] [] State.reset).onLink fun l => { l with number := 1, offset := 255 }
     s.linkSettled ∧ s.writable 1 255 = true) ∧
    (let s := (buffer1 .held [4] [] State.reset).onLink fun l => { l with
       transaction := .dataWrite, number := 1, offset := 1, writeBehind := some ⟨1, 0, 9⟩ }
     s.taking ∧ s.linkPowered = true ∧ s.memoryOk ∧ s.link.transaction = .dataWrite ∧
     s.link.writeBehind = some ⟨1, 0, 9⟩ ∧ s.storeAddress ⟨1, 0, 9⟩ = some 1024) ∧
    (let s := (buffer1 .orderQueued [4] [] State.reset).onLink fun l => { l with
       transaction := .dataWrite, number := 1, offset := 1, writeBehind := some ⟨1, 0, 9⟩ }
     s.taking ∧ s.linkPowered = true ∧ s.memoryOk ∧ s.storeAddress ⟨1, 0, 9⟩ = none) := by decide +kernel

theorem witness_DataWritesAreTestedAndStored_end :
    (let s := State.reset.onLink fun l => { l with transaction := .dataWrite, writeBehind := some ⟨0, 767, 9⟩ }
     s.taking ∧ s.linkPowered = true ∧ s.memoryOk ∧ s.link.writeBehind = some ⟨0, 767, 9⟩ ∧
     s.storeAddress ⟨0, 767, 9⟩ = some 767 ∧ (nextOf (exec .spiTransactionEnd s)).isSome = true) ∧
    (let s := (buffer1 .held [4] [] State.reset).onLink fun l => { l with writeBehind := some ⟨1, 255, 9⟩ }
     s.memoryOk ∧ s.storeAddress ⟨1, 255, 9⟩ = some 1279 ∧ (s.pool.entry 1).hostHeld = true) ∧
    (let s := (buffer1 .orderQueued [4] [] State.reset).onLink fun l => { l with writeBehind := some ⟨1, 0, 9⟩ }
     s.memoryOk ∧ s.storeAddress ⟨1, 0, 9⟩ = none ∧ (s.pool.entry 1).hostHeld = false) := by decide +kernel

theorem witness_AllocateRequestsPagesAndRefusalsChangeOnlyTheirRecord :
    State.reset.commandReady ∧ State.reset.pool.hasRequest .link = false ∧ State.reset.pool.inProgress = none ∧
    (1#16).toNat = 1 ∧ (2048#16).toNat = 2048 ∧ (2049#16).toNat = 2049 ∧
    (let s := State.reset.onPool fun p => { p with inProgress := some (.link, 1) }
     s.commandReady ∧ s.pool.hasRequest .link = true) ∧
    6 ≤ (6#8).toNat ∧ 6 ≤ (7#8).toNat ∧ 6 ≤ (254#8).toNat ∧ (State.reset.onSleep fun x => { x with power := .waking }).linkSettled ∧
    (State.reset.onSleep fun x => { x with power := .waking }).sleep.power ≠ .active := by decide +kernel

theorem witness_SubmitQueuesAHeldBuffer :
    (buffer1 .held [4] [] State.reset).commandReady ∧ ((buffer1 .held [4] [] State.reset).pool.entry 1).state = .held ∧
    State.reset.commandReady ∧ (State.reset.pool.entry 40).state ≠ .held := by decide +kernel

theorem witness_TakeCommandsRemoveTheHead :
    (let s := (buffer1 .resultQueued [4] [] State.reset).onPool fun p => { p with resultQueue := [1] }
     s.commandReady ∧ s.pool.resultQueue = [1] ∧ s.pool.hostRelease = none ∧ s.sleep.wakeCompletion ≠ 1) ∧
    (let s := (buffer1 .alertQueued [4] [] State.reset).onPool fun p => { p with
       alertQueue := [1], hostRelease := some 2 }
     s.commandReady ∧ s.pool.alertQueue ≠ [] ∧ s.pool.hostRelease ≠ none) ∧
    State.reset.commandReady ∧ State.reset.pool.resultQueue = [] ∧
    (let s := ((buffer1 .resultQueued [4] [] State.reset).onPool fun p => { p with resultQueue := [1] }).onSleep
       fun x => { x with wakeCompletion := 1, wakeOut := true }
     s.commandReady ∧ s.pool.resultQueue = 1 :: [] ∧ s.sleep.wakeCompletion = 1) := by decide +kernel

theorem witness_ReleaseBeginsAHostRelease :
    (buffer1 .held [4] [] State.reset).commandReady ∧ (buffer1 .held [4] [] State.reset).pool.hostRelease = none ∧
    (State.reset.onPool fun p => { p with hostRelease := some 3 }).commandReady := by decide +kernel

theorem witness_AllocationsAndReleasesComplete :
    (let s := State.reset.onPool fun p => { p with inProgress := some (.link, 8) }
     s.taking ∧ s.workIdle ∧ s.memoryOk ∧ s.pool.allocFailure .link 8 s.profile.alertReserve = none) ∧
    (let s := State.reset.onPool fun p => { p with inProgress := some (.sampler, 85) }
     s.workIdle ∧ s.memoryOk ∧ s.seq.frame = none ∧
     s.pool.allocFailure .sampler 85 s.profile.alertReserve = some .noPages) ∧
    (let s := State.reset.onPool fun p => { p with inProgress := some (.alert, 1) }
     s.workIdle ∧ s.memoryOk ∧ s.pool.allocFailure .alert 1 s.profile.alertReserve = none) ∧
    (let s := (buffer1 .held (List.range' 4 92) [] State.reset).onPool fun p => { p with inProgress := some (.alert, 1) }
     s.workIdle ∧ s.memoryOk ∧ s.pool.allocFailure .alert 1 s.profile.alertReserve = some .noPages) := by
  refine ⟨?_, ?_, ?_, ?_⟩ <;> decide +kernel

theorem witness_AllocationsAndReleasesComplete_release :
    (let s := (buffer1 .held [4] [] State.reset).onPool fun p => { p with releaseList := [1], hostRelease := some 1 }
     s.taking ∧ s.pool.releaseList = 1 :: [] ∧ s.sleep.phase ≠ .entryRelease) := by decide +kernel

theorem witness_ExaminationJudgesTheHead_rows :
    (order1 11 0 0 [] State.reset).taking ∧ (order1 11 0 0 [] State.reset).workIdle ∧
    (order1 11 0 0 [] State.reset).headOrder.map Prod.snd = some (some .closePack) ∧
    State.reset.headOrder.map Prod.snd ≠ some (some .closePack) := by decide +kernel

/-- What the order statements ask of the state besides the kind. -/
def ordersReady (s : State) : Bool := decide (s.memoryOk ∧ s.pool.sound 1 ∧ s.workIdle)

theorem witness_ExaminationJudgesTheHead :
    (let s := order1 20 0 0 [] State.reset
     s.activeNow = true ∧ s.pool.orderQueue.head? = some 1 ∧ ordersReady s = true ∧
     orderKindOf (s.orderByte 1 0) = none) ∧
    (let s := (order1 11 0 0 [] State.reset).onCont fun c => { c with closeSlot := some 2 }
     s.activeNow = true ∧ ordersReady s = true ∧ s.slotFree .closePack = false) ∧
    (let s := order1 11 2 0 [] State.reset
     s.activeNow = true ∧ ordersReady s = true ∧ s.slotFree .closePack = true ∧ s.headerCheck 1 .closePack = 1) ∧
    (order1 11 1 1 [] State.reset).headerCheck 1 .closePack = 2 ∧
    (order1 15 0 241 [] State.reset).headerCheck 1 .updateChunk = 3 ∧
    (order1 15 0 240 [] State.reset).headerCheck 1 .updateChunk = 0 := by decide +kernel

theorem witness_EnumerateChainResetsTheTable :
    (let s := order1 1 0 0 [] State.reset
     s.orderTaken 1 .enumerateChain ∧ s.memoryOk ∧ s.pool.sound 1 ∧ s.seq.sampler = .stopped ∧ s.onlyOrderWaits) ∧
    (let s := (order1 1 0 0 [] State.reset).onSeq fun q => { q with sampler := .waiting }
     s.orderTaken 1 .enumerateChain ∧ s.memoryOk ∧ s.pool.sound 1 ∧ s.workIdle) := by decide +kernel

/-- The first FORGET is granted at once, and waits behind a transaction or a quiet time. -/
theorem witness_EnumerateChainResetsTheTable_grant :
    (let s := order1 1 0 0 [] calm
     s.orderTaken 1 .enumerateChain ∧ ordersReady s = true ∧ s.seq.sampler = .stopped ∧ s.onlyOrderWaits ∧
     s.chain.engine = none ∧ s.chain.quietA = none ∧ after .enumerateChain s (fun t => t.chain.txTimer) = some (some 15)) ∧
    (let s := order1 1 0 0 [] (calm.onChain fun c => { c with quietA := some 7 })
     s.orderTaken 1 .enumerateChain ∧ ordersReady s = true ∧ s.onlyOrderWaits ∧ s.chain.quietA ≠ none ∧
     after .enumerateChain s (fun t => t.chain.waitTimer) = some (some 2000000)) := by
  refine ⟨?_, ?_⟩ <;> decide +kernel

/-- An enumeration in buffer 1, with its transaction in a phase. -/
def enumerating (job : ChainJob) (f : ChainFrame) (phase : EnginePhase) (declared : Nat) : State :=
  ((service1 (busy (engineOf .order f .a phase 0) calm)).onChain fun c => { c with
    enumStatus := .running, slot := some ⟨1, job, .openEnded, [], false⟩ }).onStore fun p => { p with
      inUse := { p.inUse with declared := declared } }

/-- IDENTITY replies of node 1: one cell, no temperatures, 40 µs; and no cell. -/
def identityReply : List Byte := withCrc [0x21, 1, 0, 0, 4, 0, 9, 0, 1, 0, 0, 0, 40]
def emptyIdentity : List Byte := withCrc [0x21, 1, 0, 0, 4, 0, 9, 0, 0, 0, 0, 0, 40]

theorem witness_EnumerateChainResetsTheTable_results :
    (let s := enumerating (.identity 1) (.read 1 .identity 4) .awaiting 1
     s.taking ∧ s.onlyOrderWaits ∧ s.chain.slot = some ⟨1, .identity 1, .openEnded, [], false⟩ ∧
     s.seq.sampler ≠ .running ∧ s.sleep.power ≠ .asleep ∧ s.chain.quietA = none) ∧
    judgeReply (.read 1 .identity 4) identityReply = some (.data 0 false [9, 1, 0, 40]) ∧
    judgeReply (.read 1 .identity 4) emptyIdentity = some (.data 0 false [9, 0, 0, 40]) ∧
    (let s := enumerating .ringTest .keepalive .watching 1
     s.taking ∧ s.onlyOrderWaits ∧ s.chain.watchTimer = some 120) ∧
    (let s := enumerating (.assign 2) (.enumerate 2) .awaiting 2
     s.taking ∧ s.onlyOrderWaits ∧ s.chain.replyTimer = some 120 ∧ s.chain.ringMode = false ∧ s.memoryOk ∧
     s.pool.sound 1 ∧ s.chain.found = 1 ∧ s.profile.declared = 2) := by
  refine ⟨?_, ?_, ?_, ?_, ?_⟩ <;> decide +kernel

/-- An enumeration in ring mode at address 20, with an attempt held. -/
def enumerating20 (job : ChainJob) (f : ChainFrame) : State :=
  (enumerating job f .awaiting 20).onChain fun c => { c with
    ringMode := true
    engine := some { engineOf .order f .a .awaiting 0 with crcHeld := 1, lastHeld := .crc } }

/-- The replies of address 20, its identity read's failure, and the failing ENUMERATE of ring mode. -/
theorem witness_EnumerateChainResetsTheTable_addresses :
    (let s := enumerating20 (.assign 20) (.enumerate 20)
     s.taking ∧ s.onlyOrderWaits ∧ s.seq.sampler ≠ .running ∧ s.sleep.power ≠ .asleep ∧ s.chain.quietA = none ∧
     s.chain.slot = some ⟨1, .assign 20, .openEnded, [], false⟩ ∧ s.chain.ringMode = true) ∧
    judgeReply (.enumerate 20) (withCrc [0x22, 20]) = some .ack ∧
    (let s := enumerating20 (.identity 20) (.read 20 .identity 4)
     s.taking ∧ s.onlyOrderWaits ∧ s.seq.sampler ≠ .running ∧ s.memoryOk ∧ s.pool.sound 1) ∧
    judgeReply (.read 20 .identity 4) (withCrc [0x21, 20, 0, 0, 4, 0, 9, 0, 16, 0, 4, 1, 0]) =
      some (.data 0 false [9, 16, 4, 256]) ∧
    judgeReply (.read 20 .identity 4) (withCrc [0x23, 20, 2]) = some (.nack true) ∧
    (enumerating20 (.assign 2) (.enumerate 2)).lastAttemptFails
      { engineOf .order (.enumerate 2) .a .awaiting 0 with crcHeld := 1, lastHeld := .crc } .replyTimeout
      ((enumerating20 (.assign 2) (.enumerate 2)).elapse 120) false := by
  refine ⟨?_, ?_, ?_, ?_, ?_, rfl, .inr (.inr ⟨120, rfl, rfl, ?_, rfl, rfl⟩)⟩ <;> decide +kernel

theorem witness_AnsweringOrdersFillTheirRoom_status :
    (let s := order1 2 0 4 [1, 0, 0, 0] State.reset
     s.orderTaken 1 .readChainStatus ∧ ordersReady s = true ∧ s.quiet 1 = false ∧ s.body8 1 0 % 2 = 1) ∧
    (let s := order1 2 0 4 [0, 0, 0, 0] State.reset
     s.orderTaken 1 .readChainStatus ∧ ordersReady s = true ∧ s.quiet 1 = false ∧ s.body8 1 0 % 2 = 0) := by
  decide +kernel

/-- One node on the chain, and a transaction of another requester in progress. -/
def oneNode (s : State) : State := busy (engineOf .ringCheck .keepalive .a .sending 0) s

theorem witness_NodeOrdersAreTestedThenWait :
    (let s := order1 4 0 4 [1, 1, 16, 0] (oneNode State.reset)
     s.orderTaken 1 .readNode ∧ ordersReady s = true ∧ s.onlyOrderWaits ∧ (s.chain.node 1).path ≠ .noPath ∧
     s.body8 1 0 = 1 ∧ s.body8 1 2 = 16 ∧ s.chain.engine.isSome = true) ∧
    (let s := order1 4 0 4 [1, 1, 17, 0] (oneNode State.reset)
     s.orderTaken 1 .readNode ∧ ordersReady s = true ∧ s.onlyOrderWaits ∧ 16 < s.body8 1 2) ∧
    (let s := order1 4 0 4 [20, 3, 1, 0] (oneNode State.reset)
     s.orderTaken 1 .readNode ∧ s.onlyOrderWaits ∧ (s.chain.node 20).state = .absent) ∧
    (let s := order1 3 0 4 [1, 3, 9, 0] (oneNode State.reset)
     s.orderTaken 1 .writeNode ∧ ordersReady s = true ∧ s.onlyOrderWaits ∧ (s.chain.node 1).path ≠ .noPath) ∧
    (let s := order1 3 0 4 [21, 3, 9, 0] (oneNode State.reset)
     s.orderTaken 1 .writeNode ∧ s.onlyOrderWaits ∧ 20 < s.body8 1 0) ∧
    (let s := order1 4 0 4 [1, 1, 16, 0] (calm.onChain fun c => c.setNode 1 { nodeA 1 1 with path := .noPath })
     s.orderTaken 1 .readNode ∧ ordersReady s = true ∧ s.onlyOrderWaits ∧ (s.chain.node 1).path = .noPath ∧
     s.chain.engine = none ∧ s.seq.sampler ≠ .running) := by
  refine ⟨?_, ?_, ?_, ?_, ?_, ?_⟩ <;> decide +kernel

/-- An order's transaction is granted at once on A, to a LOST node on B, and waits for port B's quiet time. -/
theorem witness_NodeOrdersAreTestedThenWait_grant :
    (let s := order1 4 0 4 [3, 1, 4, 0] (calm.onChain fun c => c.setNode 3 (nodeA 3 4))
     s.orderTaken 1 .readNode ∧ ordersReady s = true ∧ s.onlyOrderWaits ∧ s.chain.engine = none ∧
     s.seq.sampler ≠ .running ∧ s.chain.quietA = none ∧ s.profile.retryLimit ≠ 0) ∧
    (let s := order1 3 0 4 [3, 1, 2, 9] (calm.onChain fun c =>
       c.setNode 3 { nodeA 3 4 with path := .pathB, state := .lost })
     s.orderTaken 1 .writeNode ∧ ordersReady s = true ∧ s.onlyOrderWaits ∧ s.chain.engine = none ∧
     s.chain.quietB = none ∧ after .writeNode s (fun t => t.chain.engine.map fun e => (e.port, e.attemptsLeft)) =
       some (some (.b, 0))) ∧
    (let s := order1 4 0 4 [3, 1, 4, 0] (calm.onChain fun c =>
       { c.setNode 3 { nodeA 3 4 with path := .pathB } with quietB := some 4 })
     s.orderTaken 1 .readNode ∧ ordersReady s = true ∧ s.onlyOrderWaits ∧ s.chain.quietB = some 4 ∧
     after .readNode s (fun t => t.chain.waitTimer) = some (some 2000000)) := by
  refine ⟨?_, ?_, ?_⟩ <;> decide +kernel

/-- A chain that is enumerated without mismatch, with a CONVERT at index 0 of slot A. -/
def sampling (s : State) : State := (convertList (oneNode s)).onChain fun c => { c with enumStatus := .matched }

/-- An order whose buffer keeps the list in the slot. -/
def orderOver (kind flags length : Nat) (body : List Nat) (s : State) : State := order1 kind flags length body s

theorem witness_SamplingOrdersStartAFrameOrFollowTheSampler_frames :
    (let s := orderOver 5 0 8 [0, 0, 31, 0, 10, 0, 0, 0] (sampling State.reset)
     s.memoryOk ∧ s.pool.sound 1 ∧ s.quiet 1 = false ∧ s.rangeOf 1 0 = some (.slotA, 0, 31) ∧
     s.chain.enumStatus = .matched ∧ s.chain.engine.isSome = true ∧ s.seq.pendingSwitch = none ∧
     (elementOf (s.elementBytes .slotA 0)).kind = 1 ∧ (elementOf (s.elementBytes .slotA 0)).trapReason = 0 ∧
     s.orderTaken 1 .startSampling ∧ s.seq.sampler = .stopped) ∧
    (let s := orderOver 7 0 4 [0, 0, 0, 0] (sampling State.reset)
     s.memoryOk ∧ s.pool.sound 1 ∧ s.rangeOf 1 0 = some (.slotA, 0, 0) ∧ s.orderTaken 1 .singleFrame ∧
     s.seq.sampler = .stopped) := by decide +kernel

/-- The frame's pages are asked for at once, and wait behind another allocation. -/
theorem witness_SamplingOrdersStartAFrameOrFollowTheSampler_size :
    (let s := orderOver 5 0 8 [0, 0, 31, 0, 10, 0, 0, 0] (sampling State.reset)
     s.pool.inProgress = none ∧ s.pool.waitingAlert = false ∧
     after .startSampling s (fun t => t.pool.inProgress) = some (some (.sampler, 1))) ∧
    (let s := (orderOver 7 0 4 [0, 0, 0, 0] (sampling State.reset)).onPool fun p => { p with inProgress := some (.link, 3) }
     s.memoryOk ∧ s.pool.sound 1 ∧ s.orderTaken 1 .singleFrame ∧ s.pool.inProgress ≠ none ∧
     after .singleFrame s (fun t => t.pool.waitingSampler) = some (some 1)) := by
  refine ⟨?_, ?_⟩ <;> decide +kernel

theorem witness_SamplingOrdersStartAFrameOrFollowTheSampler :
    (let s := order1 5 0 8 [0, 0, 32, 0, 10, 0, 0, 0] State.reset
     ordersReady s = true ∧ s.orderTaken 1 .startSampling ∧ s.rangeOf 1 0 = none) ∧
    (let s := order1 7 0 4 [1, 31, 31, 0] State.reset
     ordersReady s = true ∧ s.orderTaken 1 .singleFrame ∧ s.rangeOf 1 0 = some (.slotB, 31, 31) ∧
     s.chain.enumStatus ≠ .matched) ∧
    (let s := order1 8 0 4 [0, 0, 0, 0] State.reset
     ordersReady s = true ∧ s.orderTaken 1 .selectList ∧ s.seq.sampler = .stopped) ∧
    (let s := (order1 6 0 0 [] State.reset).onSeq fun q => { q with sampler := .waiting, frameTimer := some 5 }
     ordersReady s = true ∧ s.orderTaken 1 .stopSampling ∧ s.quiet 1 = false ∧ s.seq.sampler ≠ .running) ∧
    (let s := (order1 6 0 0 [] State.reset).onSeq fun q => { q with sampler := .running }
     ordersReady s = true ∧ s.orderTaken 1 .stopSampling ∧ s.seq.sampler = .running) ∧
    (let s := (order1 8 0 4 [1, 0, 31, 0] State.reset).onSeq fun q => { q with sampler := .running }
     ordersReady s = true ∧ s.orderTaken 1 .selectList ∧ s.rangeOf 1 0 = some (.slotB, 0, 31)) := by
  refine ⟨?_, ?_, ?_, ?_, ?_, ?_⟩ <;> decide +kernel

theorem witness_AnsweringOrdersFillTheirRoom_history :
    (let s := (order1 9 0 4 [128, 0, 0, 0] State.reset).onSensing fun x => { x with history := [entry 5 6 7] }
     s.orderTaken 1 .snapshotHistory ∧ ordersReady s = true ∧ s.quiet 1 = false ∧ s.historyBounded ∧
     s.body16 1 0 = 128) ∧
    (let s := order1 9 0 4 [129, 0, 0, 0] State.reset
     s.orderTaken 1 .snapshotHistory ∧ ordersReady s = true ∧ s.quiet 1 = false ∧ 128 < s.body16 1 0) := by
  decide +kernel

/-- The bounds of a history entry's fields. -/
theorem witness_AnsweringOrdersFillTheirRoom_entry :
    (let e : HistoryEntry := ⟨5, -2147483648, 16777215, 0, true, false⟩;
     -2 ^ 31 ≤ e.current ∧ e.current < 2 ^ 31 ∧ e.packMv < 2 ^ 24 ∧ e.linkMv < 2 ^ 24) ∧
    (let e : HistoryEntry := ⟨5, 2147483647, 0, 16777215, false, true⟩;
     -2 ^ 31 ≤ e.current ∧ e.current < 2 ^ 31 ∧ e.packMv < 2 ^ 24 ∧ e.linkMv < 2 ^ 24) := by
  refine ⟨?_, ?_⟩ <;> decide +kernel

theorem witness_ClearTripsClearsWhatItCan :
    (let s := (order1 10 0 4 [255, 15, 0, 0] State.reset).onProt fun p => p.setLatch .cellOv (some .alertOnly)
     s.orderTaken 1 .clearTrips ∧ ordersReady s = true ∧ s.quiet 1 = false ∧ s.body32 1 0 = 4095) ∧
    (let s := order1 10 0 4 [0, 16, 0, 0] State.reset
     s.orderTaken 1 .clearTrips ∧ ordersReady s = true ∧ s.body32 1 0 = 4096) ∧
    (let s := (order1 10 0 4 [0, 8, 0, 0] State.reset).onCont fun c => { c with state := .faulted, faults := 1 }
     s.orderTaken 1 .clearTrips ∧ ordersReady s = true ∧ (s.body32 1 0).testBit 11 = true ∧
     s.cont.aux = ⟨false, false, false⟩ ∧ s.killGate = false) ∧
    (let s := ((order1 10 0 4 [255, 7, 0, 0] (inState .closed ⟨true, true, false⟩ ⟨true, true, false⟩
       calm)).onProt fun p => p.setLatch .safeLine (some .immediateOpen)).onTransit fun t => { t with killEdges := [true] }
     s.orderTaken 1 .clearTrips ∧ ordersReady s = true ∧ s.killGate = true ∧ true ∈ s.transit.killEdges) := by
  refine ⟨?_, ?_, ?_, ?_⟩ <;> decide +kernel

/-- Of each cause in R76's table one that stands and one that is gone. -/
theorem witness_ClearTripsClearsWhatItCan_causes :
    (let s := (order1 10 0 4 [255, 15, 0, 0] (oneNode calm)).onProt fun p => { p with
       counters := Vector.replicate 8 1, stale := true }
     s.orderTaken 1 .clearTrips ∧ ordersReady s = true ∧ s.causeStands true .cellOv ∧ s.causeStands true .currentCharge ∧
     s.causeStands true .supervisionLoss ∧ s.causeStands true .tamper ∧ ¬ s.causeStands true .safeLine) ∧
    (let s := ((order1 10 0 4 [255, 15, 0, 0] calm).onInputs fun i => { i with
       pins := { i.pins with safeOpen := true } }).onProt fun p => { p with stale := false }
     s.orderTaken 1 .clearTrips ∧ ordersReady s = true ∧ ¬ s.causeStands false .cellOv ∧ ¬ s.causeStands false .tamper ∧
     s.causeStands false .safeLine) :=
  ⟨⟨by decide +kernel, by decide +kernel, by unfold State.causeStands; decide +kernel,
     by unfold State.causeStands; decide +kernel, .inl (by decide +kernel), rfl, by unfold State.causeStands; decide +kernel⟩,
    by decide +kernel, by decide +kernel, by unfold State.causeStands; decide +kernel, Bool.false_ne_true, rfl⟩

theorem witness_ClosePackIsTestedThenCloses :
    (let s := (order1 11 0 0 [] State.reset).onProt fun p => { p with stale := false }
     s.orderTaken 1 .closePack ∧ ordersReady s = true ∧ s.cont.state = .opened ∧ s.killGate = false ∧
     s.prot.latches = Protection.reset.latches ∧ s.prot.stale = false) ∧
    (let s := (order1 11 0 0 [] State.reset).onProt fun p => { p with lastEvaluation := some 0xFFFFFC18 }
     s.orderTaken 1 .closePack ∧ ordersReady s = true ∧ s.prot.stale = true ∧ s.evaluationAge = 1) ∧
    (let s := (order1 11 0 0 [] State.reset).onProt fun p => p.setLatch .tempHigh (some .orderlyOpen)
     s.orderTaken 1 .closePack ∧ ordersReady s = true ∧ s.killGate = false ∧
     s.prot.latch .tempHigh = some .orderlyOpen) ∧
    (let s := (order1 11 0 0 [] State.reset).onProt fun p => p.setLatch .currentDischarge (some .immediateOpen)
     s.orderTaken 1 .closePack ∧ ordersReady s = true ∧ s.killGate = true) := by decide +kernel

theorem witness_OpenPackFollowsTheState :
    (let s := order1 12 0 4 [1, 0, 0, 0] (inState .closed ⟨true, true, false⟩ ⟨true, true, false⟩ State.reset)
     s.orderTaken 1 .openPack ∧ ordersReady s = true ∧ s.quiet 1 = false ∧ s.cont.openSlot = none ∧
     s.body32 1 0 = 1 ∧ s.profile.holdoff ≠ 0) ∧
    (let s := order1 12 0 4 [0, 0, 0, 0] (inState .closed ⟨true, true, false⟩ ⟨true, true, false⟩ State.reset)
     s.orderTaken 1 .openPack ∧ ordersReady s = true ∧ s.body32 1 0 = 0 ∧ s.cont.aux.pos = true) ∧
    (let s := order1 12 0 4 [2, 0, 0, 0] State.reset
     s.orderTaken 1 .openPack ∧ ordersReady s = true ∧ 2 ≤ s.body32 1 0) ∧
    (let s := order1 12 0 4 [0, 0, 0, 0] (inState .precharging ⟨false, true, true⟩ ⟨false, true, true⟩ State.reset)
     s.orderTaken 1 .openPack ∧ ordersReady s = true ∧ s.cont.state.closing = true) ∧
    (let s := order1 12 0 4 [0, 0, 0, 0] (inState .negOpening ⟨false, false, false⟩ ⟨false, true, false⟩ State.reset)
     s.orderTaken 1 .openPack ∧ ordersReady s = true ∧ s.cont.state = .negOpening) ∧
    (let s := (order1 12 0 4 [0, 0, 0, 0] State.reset).onCont fun c => { c with openSlot := some 2 }
     s.orderTaken 1 .openPack ∧ ordersReady s = true ∧ s.cont.openSlot ≠ none) ∧
    (let s := (order1 12 0 4 [1, 0, 0, 0] (inState .closed ⟨true, true, false⟩ ⟨false, true, false⟩
       State.reset)).onStore fun p => { p with inUse := { p.inUse with holdoff := 0 } }
     s.orderTaken 1 .openPack ∧ ordersReady s = true ∧ s.profile.holdoff = 0 ∧ s.cont.aux.pos = false) := by
  refine ⟨?_, ?_, ?_, ?_, ?_, ?_, ?_⟩ <;> decide +kernel

/-- A CLOSE_PACK in service in buffer 2, with an entry above the interrupt limit delivered. -/
def closeWaits (s : State) : State := (s.onCont fun c => { c with
  closeSlot := some 2, entry := some (entry 50001 0 0) }).onPool fun p =>
    (p.setEntry 2 ⟨.inService, [5], .link, false⟩).writeBuffer 2 0 [11]

theorem witness_OpenPackFollowsTheState_abort :
    (let s := closeWaits (order1 12 0 4 [0, 0, 0, 0] (inState .posClosing ⟨true, true, true⟩ ⟨false, true, true⟩
       State.reset))
     s.orderTaken 1 .openPack ∧ ordersReady s = true ∧ s.pool.sound 2 ∧ s.cont.state.posOn = true ∧
     s.currentAlert .posClosing (some .openOrder) ≠ []) ∧
    (let s := closeWaits (order1 12 0 4 [0, 0, 0, 0] (inState .negClosing ⟨false, true, false⟩ ⟨false, true, false⟩
       State.reset))
     s.orderTaken 1 .openPack ∧ ordersReady s = true ∧ s.pool.sound 2 ∧ s.cont.state.posOn = false ∧
     s.cont.aux.neg = true) ∧
    (let s := closeWaits (order1 12 0 4 [0, 0, 0, 0] (inState .negClosing ⟨false, true, false⟩ ⟨false, false, false⟩
       State.reset))
     s.orderTaken 1 .openPack ∧ ordersReady s = true ∧ s.pool.sound 2 ∧ s.cont.closeSlot = some 2 ∧
     s.cont.aux = ⟨false, false, false⟩ ∧
     ∀ page ∈ (s.pool.entry 2).pages, page ∉ (s.pool.entry 1).pages) :=
  ⟨by decide +kernel, by decide +kernel, by decide +kernel⟩

/-- An ENTER_SLEEP with interval 1 s, maximum sleep 60 s, slot A, range 0 to 31. -/
def sleepOrder (flags : Nat) (s : State) : State :=
  order1 13 flags 12 [1, 0, 0, 0, 60, 0, 0, 0, 0, 0, 31, 0] s

theorem witness_EnterSleepIsTestedThenEnters :
    (let s := sleepOrder 0 State.reset
     s.orderTaken 1 .enterSleep ∧ s.memoryOk ∧ s.pool.sound 1 ∧ s.listIdle ∧ s.chain.noRequest ∧
     s.rangeOf 1 8 = some (.slotA, 0, 31) ∧ s.body32 1 0 = 1 ∧ s.body32 1 4 = 60) ∧
    (let s := sleepOrder 1 State.reset
     s.orderTaken 1 .enterSleep ∧ s.memoryOk ∧ s.pool.sound 1 ∧ s.listIdle ∧ s.chain.noRequest ∧
     s.quiet 1 = true) ∧
    (let s := (sleepOrder 0 State.reset).onPool fun p => { p with waitingLink := some 1 }
     s.orderTaken 1 .enterSleep ∧ s.memoryOk ∧ s.pool.sound 1 ∧ s.pool.hasRequest .link = true) :=
  ⟨by decide +kernel, by decide +kernel, by decide +kernel⟩

/-- A chain order in buffer 2, an enumeration in progress. -/
def chainOrder2 (s : State) : State := (s.onPool fun p =>
  (p.setEntry 2 ⟨.inService, [5], .link, false⟩).writeBuffer 2 0 [1]).onChain fun c => { c with
    enumStatus := .running, slot := some ⟨2, .assign 1, .openEnded, [], false⟩ }

/-- An ENTER_SLEEP over a chain order: its transaction under way, and the order waiting for a port in its quiet time. -/
theorem witness_EnterSleepIsTestedThenEnters_order :
    (let s := sleepOrder 0 (chainOrder2 (busy (engineOf .order (.enumerate 1) .a .awaiting 0) calm))
     s.orderTaken 1 .enterSleep ∧ s.memoryOk ∧ s.pool.sound 1 ∧ s.workIdle ∧ s.pool.sound 2 ∧ s.quiet 1 = false ∧
     after (.enterSleep false) s (fun t => (t.orderByte 2 6, t.pool.resultQueue)) = some (completionCode .aborted, [2]) ∧
     after (.enterSleep false) s (fun t => (t.chain.enumStatus, t.chain.engine.map (·.requester))) =
       some (.needed, some .discarded)) ∧
    (let s := sleepOrder 0 ((chainOrder2 calm).onChain fun c => { c with quietA := some 7 })
     s.orderTaken 1 .enterSleep ∧ s.memoryOk ∧ s.pool.sound 1 ∧ s.chain.engine = none ∧ s.chain.slot ≠ none ∧
     s.onlyOrderWaits ∧ s.quiet 1 = false ∧ s.cont.state = .opened ∧ s.seq.sampler = .stopped ∧
     s.store.session = .idle ∧ s.store.slot = none ∧ s.pool.orderQueue.tail = [] ∧
     s.rangeOf 1 8 = some (.slotA, 0, 31) ∧
     ∀ page ∈ (s.pool.entry 2).pages, page ∉ (s.pool.entry 1).pages) := by
  refine ⟨?_, ?_⟩ <;> decide +kernel

/-- A session in a state, on bank B, with a version above the floor. -/
def session (st : SessionState) (s : State) : State := s.onStore fun p => { p with
  session := st, declVersion := 1, declLength := 136, bankB := ⟨.writing, 1, 0, 136, Profile.vendorImage⟩ }

theorem witness_UpdateOrdersFollowTheSession :
    (let s := order1 14 0 8 [1, 0, 0, 0, 64, 0, 0, 0] State.reset
     ordersReady s = true ∧ s.orderTaken 1 .updateBegin ∧ s.body32 1 4 = 64 ∧ s.store.floor.toNat < s.body32 1 0) ∧
    (let s := order1 14 0 8 [1, 0, 0, 0, 1, 32, 0, 0] State.reset
     ordersReady s = true ∧ s.orderTaken 1 .updateBegin ∧ s.body32 1 4 = 8193) ∧
    (let s := order1 14 0 8 [0, 0, 0, 0, 0, 32, 0, 0] State.reset
     ordersReady s = true ∧ s.orderTaken 1 .updateBegin ∧ s.body32 1 4 = 8192 ∧ s.body32 1 0 = 0) ∧
    (let s := order1 15 0 5 [0, 0, 0, 0, 9] (session .receiving State.reset)
     ordersReady s = true ∧ s.orderTaken 1 .updateChunk ∧ s.body32 1 0 = s.store.nextOffset) ∧
    (let s := order1 15 0 5 [1, 0, 0, 0, 9] (session .receiving State.reset)
     ordersReady s = true ∧ s.orderTaken 1 .updateChunk ∧ s.body32 1 0 ≠ s.store.nextOffset) ∧
    (let s := (order1 16 0 0 [] (session .receiving State.reset)).onStore fun p => { p with nextOffset := 136 }
     ordersReady s = true ∧ s.orderTaken 1 .updateFinish ∧ s.quiet 1 = false ∧ s.store.nextOffset = s.store.declLength) ∧
    (let s := order1 17 0 0 [] (session .verified State.reset)
     ordersReady s = true ∧ s.orderTaken 1 .updateAbort ∧ s.quiet 1 = false) ∧
    (let s := order1 17 0 0 [] (session .locked State.reset)
     ordersReady s = true ∧ s.orderTaken 1 .updateAbort ∧ s.store.session = .locked) := by
  refine ⟨?_, ?_, ?_, ?_, ?_, ?_, ?_, ?_⟩ <;> decide +kernel

theorem witness_ActivateProfileCommitsOrWaits :
    (let s := order1 18 0 0 [] (session .verified State.reset)
     s.orderTaken 1 .activateProfile ∧ ordersReady s = true ∧ s.quiet 1 = false ∧ s.seq.slot = none ∧
     s.cont.state = .opened ∧ s.seq.sampler ≠ .running) ∧
    (let s := (order1 18 0 0 [] (session .verified State.reset)).onSeq fun q => { q with sampler := .running }
     s.orderTaken 1 .activateProfile ∧ ordersReady s = true ∧ s.quiet 1 = false ∧ s.seq.slot = none) ∧
    (let s := order1 18 0 0 [] State.reset
     s.orderTaken 1 .activateProfile ∧ ordersReady s = true ∧ s.store.session ≠ .verified) := by decide +kernel

/-- A verified image with another CHAIN section, over a pending SELECT_LIST in buffer 2. -/
def activatingOverSwitch : State :=
  (((order1 18 0 0 [] (session .verified State.reset)).onStore fun p => { p with
    bankB := { p.bankB with image := Profile.vendorImage.set 32 9 } }).onSeq fun q => { q with
      sampler := .waiting, activeSlot := some .slotB, slot := some (.select 2), pendingSwitch := some ⟨.slotA, 0, 31⟩
      frameTimer := some 10000 }).onPool fun p => (p.setEntry 2 ⟨.inService, [5], .link, false⟩).writeBuffer 2 0 [8]

theorem witness_ActivateProfileCommitsOrWaits_switch :
    activatingOverSwitch.orderTaken 1 .activateProfile ∧ ordersReady activatingOverSwitch = true ∧
    activatingOverSwitch.pool.sound 2 ∧ activatingOverSwitch.store.session = .verified ∧
    (sectionsOf activatingOverSwitch.store.target.image).chain ≠
      (sectionsOf activatingOverSwitch.store.active.image).chain ∧
    activatingOverSwitch.cont.state = .opened ∧
    (∀ page ∈ (activatingOverSwitch.pool.entry 2).pages, page ∉ (activatingOverSwitch.pool.entry 1).pages) ∧
    (after .activateProfile activatingOverSwitch fun t => (t.seq.sampler, t.orderByte 2 6, t.orderWord 2 12)) =
      some (.stopped, completionCode .aborted, 0) := by decide +kernel

/-- An activation that changes CHAIN, made at once with the enumeration RUNNING and the sampler HALTED. -/
theorem witness_ActivateProfileCommitsOrWaits_changed :
    (let s := (order1 18 0 0 [] (session .verified State.reset)).onStore fun p => { p with
       bankB := { p.bankB with image := Profile.vendorImage.set 32 9 } }
     let s := (s.onSeq fun q => { q with sampler := .halted }).onChain fun c => { c with enumStatus := .running }
     s.orderTaken 1 .activateProfile ∧ ordersReady s = true ∧ s.seq.slot = none ∧ s.cont.state = .opened ∧
     (sectionsOf s.store.target.image).chain ≠ (sectionsOf s.store.active.image).chain ∧
     after .activateProfile s (fun t => (t.seq.sampler, t.orderWord 1 12)) = some (.stopped, 0x1010002)) := by decide +kernel

theorem witness_ReadProfileInfoAnswersInEverySession :
    (let s := order1 19 0 0 [] (session .locked State.reset)
     s.orderTaken 1 .readProfileInfo ∧ ordersReady s = true ∧ s.quiet 1 = false) := by decide +kernel

/-- A CONVERT that leaves its last port: port B in ring mode, or port A in open-ended mode. -/
def lastConvert (who : ChainRequester) (port : Port) : State :=
  ((busy (engineOf who (.convert 1 .both) port .sending 0) calm).onChain fun c => { c with
    ringMode := port == .b }).onSeq fun q => { q with
      sampler := .running
      frame := some { Frame.start .normal .slotA 0 31 false 0 [] with
        index := 31, phase := .converting, result := .asked } }

theorem witness_FramesLeaveThePort_ends :
    (let s := lastConvert .sequencer .b
     s.taking ∧ s.listIdle ∧ s.chain.noRequest ∧ s.table.align = .idle ∧ s.chain.txTimer = some 30 ∧
     s.seq.frame.map (fun f => (f.phase, f.index == f.last, f.result)) = some (.converting, true, .asked)) ∧
    (let s := lastConvert .discarded .a
     s.taking ∧ s.listIdle ∧ s.chain.noRequest ∧ s.chain.ringMode = false) ∧
    (let s := (enumerating (.forget .a) .forget .sending 1).onChain fun c => { c with ringMode := true }
     s.taking ∧ s.onlyOrderWaits ∧ s.chain.txTimer = some 30 ∧ s.seq.sampler ≠ .running ∧ s.sleep.power ≠ .asleep ∧
     s.chain.quietA = none ∧ s.chain.quietB = none) := by decide +kernel

theorem witness_FramesLeaveThePort :
    (let s := busy (engineOf .order (.read 1 .cells 1) .a .sending 3) calm
     s.taking ∧ s.listIdle ∧ s.chain.engine = some (engineOf .order (.read 1 .cells 1) .a .sending 3) ∧
     s.chain.txTimer = some 30) ∧
    (let s := (busy (engineOf .sequencer (.convert 1 .both) .a .sending 0) calm).onChain fun c => { c with
       ringMode := true }
     s.taking ∧ s.listIdle ∧ s.chain.ringMode = true ∧ s.chain.txTimer = some 30) ∧
    (let s := (busy (engineOf .sleepController .wakeTone .a .sending 0) calm).onChain fun c => { c with
       ringMode := true }
     s.taking ∧ s.listIdle ∧ s.chain.ringMode = true) ∧
    (let s := busy (engineOf .order (.read 1 .cells 1) .a .awaiting 3) calm
     s.taking ∧ s.listIdle ∧ s.chain.engine.map (fun e => (e.port, e.phase)) = some (.a, .awaiting)) := by
  decide +kernel

/-- A good DATA reply of node 1: tag 5, not busy, the word 8,000h. -/
def dataReply : List Byte := withCrc [0x21, 1, 5, 0, 1, 0x80, 0x00]

/-- A good NACK of node 1, BAD_VALUE. -/
def nackReply : List Byte := withCrc [0x23, 1, 2]

theorem witness_FailedAttemptsAreCountedAndSentAgain :
    (let s := busy (engineOf .order (.read 1 .cells 1) .a .receiving 1) calm
     s.taking ∧ s.listIdle ∧ s.chain.engine = some (engineOf .order (.read 1 .cells 1) .a .receiving 1) ∧
     s.chain.quiet .a = false ∧ judgeReply (.read 1 .cells 1) [0x21, 1, 5, 0, 1, 0x80, 0x00, 0, 0] = none) ∧
    (let s := busy (engineOf .order (.write 20 .status 7) .b .awaiting 7) calm
     s.taking ∧ s.listIdle ∧ s.chain.engine = some (engineOf .order (.write 20 .status 7) .b .awaiting 7) ∧
     s.chain.quiet .b = false ∧ s.chain.replyTimer = some 120) := by decide +kernel

/-- A READ_NODE of node 1 whose reply is awaited. -/
def reading : State := (service1 (busy (engineOf .order (.read 1 .cells 1) .a .awaiting 0) calm)).onChain fun c =>
  { c with slot := some ⟨1, .readNode 1 .cells 1, .openEnded, [], false⟩ }

theorem witness_NodeReadCompletesWithItsReply :
    (reading.taking ∧ reading.listIdle ∧ reading.memoryOk ∧ reading.pool.sound 1 ∧ reading.quiet 1 = false) ∧
    (reading.chain.engine = some (engineOf .order (.read 1 .cells 1) .a .awaiting 0) ∧
     reading.chain.slot = some ⟨1, .readNode 1 .cells 1, .openEnded, [], false⟩ ∧ reading.chain.location = none ∧
     reading.chain.seqRequest = none ∧ reading.chain.sleepRequest = none) ∧
    judgeReply (.read 1 .cells 1) dataReply = some (.data 5 false [0x8000]) ∧
    judgeReply (.read 1 .cells 1) nackReply = some (.nack true) := by
  refine ⟨?_, ?_, ?_, ?_⟩ <;> decide +kernel

/-- A WRITE_NODE of node 1 whose ACK is awaited, with no attempt left; and its reply. -/
def writing : State := (service1 (busy (engineOf .order (.write 1 .status 9) .a .awaiting 0) calm)).onChain fun c =>
  { c with slot := some ⟨1, .writeNode 1 .status 9, .openEnded, [], false⟩ }

def ackReply : List Byte := withCrc [0x22, 1]

theorem witness_NodeReadCompletesWithItsReply_write :
    (writing.taking ∧ writing.listIdle ∧ writing.memoryOk ∧ writing.pool.sound 1 ∧ writing.quiet 1 = false ∧
     writing.chain.location = none ∧ writing.chain.seqRequest = none ∧ writing.chain.sleepRequest = none ∧
     writing.chain.replyTimer = some 120) ∧
    judgeReply (.write 1 .status 9) ackReply = some .ack ∧ judgeReply (.write 1 .status 9) [] = none := by decide +kernel

/-- A last attempt fails: no reply, a bad reply, and a byte pause inside one. -/
theorem witness_lastAttemptFails :
    writing.lastAttemptFails (engineOf .order (.write 1 .status 9) .a .awaiting 0) .replyTimeout (writing.elapse 120)
      false ∧
    reading.lastAttemptFails (engineOf .order (.read 1 .cells 1) .a .awaiting 0) (.replyReceived .a []) reading true ∧
    reading.lastAttemptFails (engineOf .order (.read 1 .cells 1) .a .receiving 0) (.chainBytePause .a) reading true :=
  ⟨⟨rfl, .inr (.inr ⟨120, rfl, rfl, by decide +kernel, rfl, rfl⟩)⟩,
    ⟨rfl, .inl ⟨[], rfl, .inl rfl, by decide +kernel, rfl, rfl⟩⟩, rfl, .inr (.inl ⟨rfl, rfl, rfl, rfl⟩)⟩

/-- A KEEPALIVE that is watched for in ring mode. -/
def watching (f : ChainFrame) (who : ChainRequester) (st : RingState) : State :=
  (busy (engineOf who f .a .watching 0) calm).onChain fun c => { c with ringMode := true, ringState := st }

theorem witness_RingWatchDecidesTheRing :
    (let s := watching .keepalive .ringCheck .closed
     s.taking ∧ s.listIdle ∧ s.chain.noRequest ∧ s.chain.watchTimer = some 120 ∧ s.chain.ringState = .closed ∧
     (s.chain.node 1).state ≠ .absent ∧ 1 ≤ s.chain.found ∧ s.chain.quietA = none ∧ s.sleep.power ≠ .asleep) ∧
    (let s := watching .keepalive .ringCheck .opened
     s.taking ∧ s.listIdle ∧ s.chain.noRequest ∧ s.chain.watchTimer = some 120 ∧ s.chain.ringState = .opened) ∧
    (let s := watching (.convert 1 .both) .sequencer .opened
     s.taking ∧ s.listIdle ∧ s.chain.watchTimer = some 120 ∧ s.chain.ringState = .opened) := by decide +kernel

/-- A frame's CONVERT that is watched for, at the list's last index. -/
def watchedConvert (st : RingState) : State := (watching (.convert 1 .both) .sequencer st).onSeq fun q => { q with
  sampler := .running
  frame := some { Frame.start .normal .slotA 0 0 false 0 [] with phase := .converting, result := .asked } }

/-- A CONVERT of the frame, in a ring that is CLOSED and one that is OPEN; then that of a dropped patrol frame. -/
theorem witness_RingWatchDecidesTheRing_convert :
    (let s := watchedConvert .closed
     s.taking ∧ s.chain.noRequest ∧ s.table.align = .idle ∧ s.chain.watchTimer = some 120 ∧
     s.chain.ringState = .closed ∧ s.seq.frame.map (fun f => (f.phase, f.index == f.last, f.result)) =
       some (.converting, true, .asked)) ∧
    (let s := watchedConvert .opened
     s.taking ∧ s.chain.noRequest ∧ s.table.align = .idle ∧ s.chain.ringState = .opened) ∧
    (let s := watching (.convert 1 .both) .discarded .closed
     s.taking ∧ s.listIdle ∧ s.chain.noRequest ∧ s.chain.watchTimer = some 120 ∧ s.chain.ringState = .closed ∧
     (s.chain.node 1).state ≠ .absent ∧ 1 ≤ s.chain.found ∧ s.chain.quietA = none ∧ s.sleep.power ≠ .asleep) :=
  ⟨by decide +kernel, by decide +kernel, by decide +kernel⟩

/-- A break location probing node 1. -/
def locating (l : Location) (port : Port) (phase : EnginePhase) : State :=
  (busy (engineOf .breakLocation (.read 1 .status 1) port phase 0) calm).onChain fun c => { c with
    ringMode := true, ringState := .opened, location := some l }

theorem witness_RingWatchDecidesTheRing_location :
    (let s := locating ⟨false, 1, 0, 2⟩ .a .receiving
     s.taking ∧ s.listIdle ∧ s.sleep.power ≠ .asleep ∧ s.chain.location = some ⟨false, 1, 0, 2⟩ ∧ s.chain.found = 1 ∧
     s.chain.seqRequest = none ∧ s.chain.sleepRequest = none ∧ s.chain.slot = none) ∧
    judgeReply (.read 1 .status 1) dataReply = some (.data 5 false [0x8000]) ∧
    (let s := locating ⟨true, 1, 0, 2⟩ .b .awaiting
     s.taking ∧ s.listIdle ∧ s.sleep.power ≠ .asleep ∧ s.chain.replyTimer = some 120 ∧
     (s.chain.node 1).timeoutCount ≠ 14 ∧ s.chain.slot = none) :=
  ⟨by decide +kernel, by decide +kernel, by decide +kernel⟩

/-- Nodes 1 and 3 of three on the chain: the probe of 3 on A, past the ABSENT node 2; on B after a failure, and from there
down to node 1; and each of the two ends. -/
def locating3 (l : Location) (port : Port) : State := (locating l port .awaiting).onChain fun c =>
  { c.setNode 3 (nodeA 3 1) with
    found := 3, engine := some (engineOf .breakLocation (.read l.addr .status 1) port .awaiting 0) }

theorem witness_RingWatchDecidesTheRing_probes :
    (let s := locating3 ⟨false, 1, 0, 4⟩ .a
     s.taking ∧ s.listIdle ∧ s.chain.location = some ⟨false, 1, 0, 4⟩ ∧ s.chain.quietA = none ∧ s.chain.quietB = none ∧
     s.chain.found ≤ 20 ∧
     after (.replyReceived .a dataReply) s (fun t => t.chain.location) = some (some ⟨false, 3, 1, 4⟩) ∧
     after (.replyReceived .a nackReply) s (fun t => t.chain.location) = some (some ⟨true, 3, 0, 4⟩)) ∧
    (let s := locating3 ⟨false, 3, 1, 4⟩ .a
     s.taking ∧ s.listIdle ∧ judgeReply (.read 3 .status 1) (withCrc [0x21, 3, 5, 0, 1, 0, 0]) = some (.data 5 false [0]) ∧
     after (.replyReceived .a (withCrc [0x21, 3, 5, 0, 1, 0, 0])) s (fun t => (t.chain.location, t.chain.breakPos)) =
       some (none, 3) ∧
     after .replyTimeout s (fun t => t.chain.location) = some (some ⟨true, 3, 1, 4⟩)) ∧
    (let s := locating3 ⟨true, 3, 0, 4⟩ .b
     s.taking ∧ s.listIdle ∧ s.chain.engine = some (engineOf .breakLocation (.read 3 .status 1) .b .awaiting 0) ∧
     after (.replyReceived .b (withCrc [0x21, 3, 5, 0, 1, 0, 0])) s (fun t => t.chain.location) =
       some (some ⟨true, 1, 0, 3⟩) ∧
     after .replyTimeout s (fun t => (t.chain.location, t.transit.alerts)) = some (none, [(.chainBreak, [1, 0])])) := by
  refine ⟨?_, ?_, ?_⟩ <;> decide +kernel

theorem witness_ChainTimersEnd :
    (let s := calm.onChain fun c => { c with ringMode := true, idleTimer := some 0 }
     s.taking ∧ s.chain.idleTimer = some 0 ∧ s.chain.ringMode = true ∧ s.sleep.power = .active ∧ s.chain.engine = none ∧
     s.chain.noRequest ∧ s.chain.quietA = none) ∧
    (calm.taking ∧ calm.chain.idleTimer = some 50000 ∧ calm.chain.ringMode = false) ∧
    (let s := calm.onChain fun c => { c with
       quietA := some 1000, engine := some (engineOf .order .forget .a .sending 0), txTimer := none }
     s.taking ∧ s.chain.quietTimer .a = some 1000 ∧ s.workIdle ∧ s.chain.txTimer = none) ∧
    (let s := (service1 calm).onChain fun c => { c with
       slot := some ⟨1, .forget .a, .openEnded, [], false⟩, waitTimer := some 2000000, enumStatus := .running }
     s.taking ∧ s.chain.waitTimer = some 2000000 ∧ s.memoryOk ∧ s.pool.sound 1) := by decide +kernel

theorem witness_SequencerTimersEnd_frame_timer :
    (let s := calm.onSeq fun q => { q with sampler := .running, frameTimer := some 10000 }
     s.taking ∧ s.seq.frameTimer = some 10000) ∧
    (let s := calm.onSeq fun q => { q with sampler := .halted, frameTimer := some 0 }
     s.taking ∧ s.seq.frameTimer = some 0) ∧
    (let s := (sampling State.reset).onSeq fun q => { q with
       sampler := .waiting, frameTimer := some 10000, activeSlot := some .slotA, first := 0, last := 31 }
     s.taking ∧ s.seq.frameTimer = some 10000 ∧ s.runsNext .slotA 0 31 ∧ s.chain.engine.isSome = true ∧
     s.seq.first ≤ s.seq.last ∧ (elementOf (s.elementBytes .slotA 0)).kind = 1 ∧
     (elementOf (s.elementBytes .slotA 0)).trapReason = 0 ∧
     groupOf (elementOf (s.elementBytes .slotA 0)).group = some .both) := by decide +kernel

/-- The frame timer ends in WAITING with a switch from slot B to the list of slot A pending. -/
def switching : State := (service1 (sampling State.reset)).onSeq fun q => { q with
  sampler := .waiting, frameTimer := some 10000, activeSlot := some .slotB, first := 3, last := 4
  pendingSwitch := some ⟨.slotA, 0, 31⟩, slot := some (.select 1) }

theorem witness_SequencerTimersEnd_switch :
    switching.taking ∧ switching.runsNext .slotA 0 31 ∧ switching.chain.engine.isSome = true ∧ switching.pool.sound 1 ∧
    switching.quiet 1 = false ∧ (switching.element .slotA 0).kind = 1 ∧ (switching.element .slotA 0).trapReason = 0 ∧
    groupOf (switching.element .slotA 0).group = some .both :=
  ⟨by decide +kernel, by decide +kernel, by decide +kernel⟩

/-- A frame at index 31, the last of its range, in a phase. -/
def frameIn (p : ListPhase) : Frame := { Frame.start .normal .slotA 0 31 false 0 [] with index := 31, phase := p }

def inFrame (p : ListPhase) : State := (oneNode calm).onSeq fun q => { q with
  sampler := .running, frame := some (frameIn p), elementTimer := some 9, repollTimer := some 20 }

theorem witness_SequencerTimersEnd :
    ((inFrame .waiting).taking ∧ (inFrame .waiting).chain.engine.isSome = true ∧
     (inFrame .waiting).seq.frame = some (frameIn .waiting) ∧ (frameIn .waiting).result = .asked ∧
     (inFrame .waiting).table.align = .idle ∧ (frameIn .waiting).index = (frameIn .waiting).last ∧ (inFrame .waiting).seq.elementTimer = some 9) ∧
    ((inFrame .holding).taking ∧ (frameIn .holding).result = .asked) ∧
    ((inFrame (.gathering 1 false 1)).taking ∧ (inFrame (.gathering 1 false 1)).seq.repollTimer = some 20) := by
  decide +kernel

/-- A frame of slot A at an index, with the list's bytes and the frame's fields as given. -/
def inList (f : Frame) (list : List Host.Cell) (s : State) : State :=
  ((oneNode s).onSeq fun q => { q with sampler := .running, frame := some f, elementTimer := some 9 }).onPool
    fun p => { p with memory := list }

/-- A GATHER of node 1's CELLS whose read is awaited. -/
def gatherFrame (repolls : Nat) : Frame := { frameIn (.gathering 1 false repolls) with
  element := ⟨2, 0, 1, 1, 1, 0, 5⟩ }

def gathering (repolls : Nat) : State :=
  (busy (engineOf .sequencer (.read 1 .cells 1) .a .awaiting 0) calm).onSeq fun q => { q with
    sampler := .running, tag := 5, frame := some (gatherFrame repolls) }

/-- A list of two elements: a WAIT at index 0, and bytes that are no legal element, or an ALIGN, at index 1. -/
def waitThen (kind : FrameKind) (result : ResultBuffer) (last : Nat) (slot : Slot) : Frame :=
  { Frame.start kind slot 0 last false 0 [] with phase := .waiting, result := result }

def alignList : List Host.Cell := [(264, 6), (271, 6)]

/-- An ALIGN at index 1 and a WAIT of 7 µs at index 2. -/
def alignWaitList : List Host.Cell := [(264, 6), (271, 6), (272, 4), (277, 7), (279, 11)]

/-- A MARK, a HALT and a WRITE of 9 to STATUS of nodes 1 and 2, at index 1. -/
def markList : List Host.Cell := [(264, 7), (269, 31), (271, 38)]
def haltList : List Host.Cell := [(264, 8), (269, 31), (271, 39)]
def writeList : List Host.Cell := [(264, 3), (266, 1), (267, 2), (268, 3), (269, 9), (271, 18)]

/-- A WRITE of nodes 1 to a last one, whose ACK from node 1 is awaited; both nodes are PRESENT on A. -/
def writeFrame (last : Nat) : Frame := { frameIn (.writing 1) with element := ⟨3, 0, 1, last, 3, 9, 18⟩ }

def writingList (last : Nat) : State :=
  ((busy (engineOf .sequencer (.write 1 .status 9) .a .awaiting 0) calm).onChain fun c =>
    c.setNode 2 (nodeA 2 1)).onSeq fun q => { q with sampler := .running, frame := some (writeFrame last) }

theorem witness_SequencerTimersEnd_elements :
    (let f := waitThen .normal .asked 1 .slotA
     let at1 (list : List Host.Cell) : Element := (inList f list calm).element .slotA 1
     ((inList f markList calm).waits f 9 ∧ (inList f markList calm).chain.engine.isSome = true ∧ f.index + 1 = f.last) ∧
     ((at1 markList).kind = 7 ∧ (at1 markList).trapReason = 0 ∧ (at1 markList).argument = 31) ∧
     ((at1 haltList).kind = 8 ∧ (at1 haltList).trapReason = 0) ∧
     ((at1 writeList).kind = 3 ∧ (at1 writeList).trapReason = 0 ∧ blockOf (at1 writeList).group = some .status)) ∧
    (let s := writingList 2
     s.taking ∧ s.chain.noRequest ∧ s.seq.frame = some (writeFrame 2) ∧ s.table.align = .idle ∧
     (s.chain.node 2).path = .pathA ∧ (s.chain.node 2).state = .present ∧ s.chain.quietA = none ∧
     s.sleep.power ≠ .asleep ∧ s.chain.replyTimer = some 120) ∧
    ((writingList 1).seq.frame = some (writeFrame 1) ∧ (writeFrame 1).element.lastNode = 1 ∧
     (writeFrame 1).index = (writeFrame 1).last) := by
  refine ⟨?_, ?_, ?_⟩ <;> decide +kernel

theorem witness_GatherMarksAndTraps :
    (let s := gathering 2
     s.taking ∧ s.chain.noRequest ∧ s.seq.frame = some (gatherFrame 2) ∧
     (gatherFrame 2).phase = .gathering 1 false 2 ∧ (gatherFrame 2).result = .asked ∧
     (gatherFrame 2).index = (gatherFrame 2).last ∧ s.table.align = .idle ∧ (gatherFrame 2).element.lastNode = 1 ∧
     (gatherFrame 2).element.hasTemps = false ∧ (s.chain.node 1).cells = 1 ∧ s.seq.tag = 5) ∧
    judgeReply (.read 1 .cells 1) (withCrc [0x21, 1, 5, 1, 1, 0x80, 0x00]) = some (.data 5 true [0x8000]) ∧
    (let f := waitThen .normal .asked 1 .slotA
     let s := inList f [(264, 10)] calm
     s.waits f 9 ∧ f.index < f.last ∧ (s.element f.slot 1).trapReason = 1) :=
  ⟨by decide +kernel, by decide +kernel, by decide +kernel⟩

theorem witness_AlignEvaluationIsJudged :
    (let f := waitThen .normal .asked 1 .slotA
     let s := inList f alignList calm
     s.waits f 9 ∧ f.index + 1 = f.last ∧ (s.element f.slot f.last).kind = 6 ∧
     (s.element f.slot f.last).trapReason = 0) := by decide +kernel

/-- A frame that holds buffer 1, at the WAIT of its last index. -/
def endingFrame (kind : FrameKind) (result : ResultBuffer) : Frame := { waitThen kind result 0 .slotA with
  stopArea := 4, stopCodes := [31] }

def endingIn (f : Frame) : State := (inList f [] (buffer1 .filling [4] [] calm)).onChain fun c =>
  c.setNode 1 { nodeA 1 1 with failedMark := true, failedFrames := 3 }

theorem witness_FramesEndWithTheirResult :
    (let f := endingFrame .normal (.granted 1)
     (endingIn f).waits f 9 ∧ f.index = f.last ∧ (endingIn f).memoryOk ∧ (endingIn f).seq.slot = none ∧
     (endingIn f).seq.startDue = false ∧ (endingIn f).pool.sound 1 ∧
     ((endingIn f).resultBytes f).length ≤ ((endingIn f).pool.entry 1).capacity) ∧
    (let f := endingFrame .single .dropped
     let s := (endingIn f).onSeq fun q => { q with slot := some (.single 1) }
     s.waits f 9 ∧ s.memoryOk ∧ s.pool.sound 1 ∧ s.seq.slot = some (.single 1)) ∧
    (let f := endingFrame .normal .dropped
     let s := (endingIn f).onSeq fun q => { q with slot := some (.stop 1) }
     s.waits f 9 ∧ s.memoryOk ∧ s.pool.sound 1 ∧ s.seq.slot = some (.stop 1)) ∧
    (let f := endingFrame .normal .dropped
     let s := (convertList (endingIn f)).onSeq fun q => { q with
       startDue := true, activeSlot := some .slotA, first := 0, last := 31 }
     s.waits f 9 ∧ s.memoryOk ∧ s.runsNext .slotA 0 31 ∧ s.chain.engine.isSome = true ∧ s.seq.slot = none ∧
     (s.element .slotA 0).kind = 1 ∧ (s.element .slotA 0).trapReason = 0 ∧
     groupOf (s.element .slotA 0).group = some .both) ∧
    (let f := { endingFrame .normal .asked with phase := .ended }
     let s := ((oneNode calm).onSeq fun q => { q with sampler := .running, frame := some f }).onPool fun p => { p with
       inProgress := some (.sampler, 1) }
     s.taking ∧ s.memoryOk ∧ s.seq.slot = none ∧ s.seq.startDue = false ∧ s.chain.engine.isSome = true ∧
     (s.resultBytes f).length ≤ 256 * 1 ∧ s.pool.allocFailure .sampler 1 s.profile.alertReserve = none) := by
  refine ⟨?_, ?_, ?_, ?_, ?_⟩ <;> decide +kernel

/-- The same with an order in service in buffer 2; node 2 was LOST and recovers. -/
def endingOver (f : Frame) (o : SequencerOrder) : State := (((endingIn f).onPool fun p =>
  (p.setEntry 2 ⟨.inService, [5], .link, false⟩).writeBuffer 2 0 [6]).onSeq fun q => { q with slot := some o }).onChain
    fun c => c.setNode 2 { nodeA 2 1 with state := .lost, failedFrames := 4 }

/-- STOP_SAMPLING and SINGLE_FRAME behind a result: the result and then the order are queued, and both nodes' alerts
raised. -/
theorem witness_FramesEndWithTheirResult_orders :
    (let f := endingFrame .normal (.granted 1)
     let s := endingOver f (.stop 2)
     s.waits f 9 ∧ s.memoryOk ∧ s.pool.sound 2 ∧ s.pool.sound 1 ∧ s.seq.slot = some (.stop 2) ∧
     (s.resultBytes f).length ≤ (s.pool.entry 1).capacity ∧
     (∀ page ∈ (s.pool.entry 2).pages, page ∉ (s.pool.entry 1).pages) ∧
     after .waitExpiry s (fun t => (t.pool.resultQueue, t.transit.alerts.map Prod.fst)) =
       some ([1, 2], [.nodeLost, .nodeRecovered])) ∧
    (let f := endingFrame .single (.granted 1)
     let s := endingOver f (.single 2)
     s.waits f 9 ∧ s.memoryOk ∧ s.seq.slot = some (.single 2)) ∧
    (endingOver (endingFrame .single .dropped) (.single 2)).resultApart (endingFrame .single .dropped) 2 :=
  ⟨by decide +kernel, by decide +kernel, fun _ h => nomatch h⟩

/-- A HALT ends the frame over a pending switch; and a late start takes one; each behind a result. -/
def haltedSwitch : State :=
  (endingOver { endingFrame .normal (.granted 1) with halted := true } (.select 2)).onSeq fun q => { q with
    pendingSwitch := some ⟨.slotB, 0, 3⟩ }

def lateSwitch : State :=
  (endingOver (endingFrame .normal (.granted 1)) (.select 2)).onSeq fun q => { q with
    startDue := true, activeSlot := some .slotB, pendingSwitch := some ⟨.slotA, 0, 31⟩ }

def lateList : State := lateSwitch.onPool fun p => { p with
  memory := [(256, 1), (260, 3), (263, 4)] ++ p.memory }

theorem witness_FramesEndWithTheirResult_switch :
    (haltedSwitch.waits { endingFrame .normal (.granted 1) with halted := true } 9 ∧ haltedSwitch.memoryOk ∧
     haltedSwitch.pool.sound 2 ∧ haltedSwitch.quiet 2 = false ∧
     after .waitExpiry haltedSwitch (fun t => t.pool.resultQueue) = some [1, 2]) ∧
    (lateList.waits (endingFrame .normal (.granted 1)) 9 ∧ lateList.memoryOk ∧ lateList.pool.sound 2 ∧
     lateList.quiet 2 = false ∧ lateList.chain.engine.isSome = true ∧ (lateList.element .slotA 0).kind = 1 ∧
     (lateList.element .slotA 0).trapReason = 0 ∧ groupOf (lateList.element .slotA 0).group = some .both ∧
     after .waitExpiry lateList (fun t => t.pool.resultQueue) = some [1, 2]) ∧
    lateList.runsNext .slotA 0 31 :=
  ⟨by decide +kernel, by decide +kernel, by decide +kernel⟩

/-- A late start behind a result: its pages are asked for at once, and wait where an allocation is in progress. -/
theorem witness_FramesEndWithTheirResult_size :
    (lateList.pool.inProgress = none ∧ lateList.pool.waitingAlert = false ∧
     after .waitExpiry lateList (fun t => t.pool.inProgress) = some (some (.sampler, 1))) ∧
    (let s := lateList.onPool fun p => { p with inProgress := some (.link, 2) }
     s.waits (endingFrame .normal (.granted 1)) 9 ∧ s.memoryOk ∧ s.pool.inProgress ≠ none ∧
     after .waitExpiry s (fun t => t.pool.waitingSampler) = some (some 1)) := by
  refine ⟨?_, ?_⟩ <;> decide +kernel

theorem witness_CurrentIsCalibratedAndBounded :
    (-2200000 ≤ (2200000 : Int) ∧ (2200000 : Int) ≤ 2200000) ∧ (-2200000 < (2199999 : Int) ∧
    (2199999 : Int) < 2200000) ∧ (-2200000 < (-2199999 : Int)) := by decide

/-- A GOOD block of one code with an issue time. -/
def goodSlot : NodeSlot := { NodeSlot.reset with
  cellMark := .good, codes := [36480], capture := some ⟨.pathA, 3, 40, some 1000000⟩ }

/-- Two entries 250 µs apart. -/
def twoEntries : List HistoryEntry :=
  [⟨1000000, 240000, 0, 0, false, false⟩, ⟨1000250, 260000, 0, 0, false, false⟩]

theorem witness_CellsAreCalibratedPlacedAndCompensated :
    (goodSlot.cellMark = .good ∧ goodSlot.capture = some ⟨.pathA, 3, 40, some 1000000⟩ ∧ goodSlot.codes[0]? = some 36480) ∧
    (NodeSlot.reset.cellMark = .notGathered ∧ { goodSlot with cellMark := .stale }.codes ≠ [] ∧
     { goodSlot with capture := some ⟨.pathA, 3, 40, none⟩ }.capture = some ⟨.pathA, 3, 40, none⟩) ∧
    (twoEntries.head?.map (·.tag) = some 1000000 ∧ twoEntries.getLast?.map (·.tag) = some 1000250) ∧
    (1 ≤ age 1000251 1000250 ∧ age 1000251 1000250 < 2 ^ 31) ∧
    (¬ (1 ≤ age 999999 1000250 ∧ age 999999 1000250 < 2 ^ 31) ∧ age 1000250 1000000 < age 1000250 999999) ∧
    (¬ (1 ≤ age 1000001 1000250 ∧ age 1000001 1000250 < 2 ^ 31) ∧ 0 < age 1000250 1000001 ∧
     age 1000250 1000001 < age 1000250 1000000 ∧ age 1000250 1000000 ≤ age 1000250 1000000) ∧
    twoEntries.Pairwise (fun a b => age 1000250 b.tag < age 1000250 a.tag) := by
  refine ⟨?_, ?_, ?_, ?_, ?_, ?_, ?_⟩ <;> decide +kernel

/-- One declared node of one cell and two sensors, the first of them absent, gathered in a frame with a CONVERT. -/
def gathered (pack : Nat) (vSat : Bool) : State :=
  (((calm.onChain fun c => c.setNode 1 { nodeA 1 1 with temps := 2 }).onTable fun t =>
    { t.setSlot 1 { goodSlot with tempMark := .good, temps := [0x8000, 0xFFF6] } with issueA := some 1000001 }).onSensing
    fun x => { x with history := twoEntries.map fun e => { e with packMv := pack, vSat := vSat } })

/-- Each figure is present, and each reason of R71's list and both outcomes have a state; the cell total is 3,648 mV. -/
theorem witness_AggregatesAndPlausibilityFollowTheValidCells :
    (let s := gathered 8648 false
     (s.evaluate false).2.cells.map (fun c => (c.minVc, c.sumVc)) = some (⟨36480, 1, 1⟩, 36480) ∧
     (s.evaluate false).2.temps.map (·.minTemp) = some ⟨-10, 1, 2⟩ ∧ s.table.issueA = some 1000001 ∧
     s.sensing.history ≠ [] ∧ ((s.evaluate false).2.outcome, (s.evaluate false).2.cellMv) = (.pass, 3648)) ∧
    ((gathered 8649 false).evaluate false).2.outcome = .violation ∧
    ((gathered 1000000 true).evaluate false).2.reason = .vSat ∧
    (((gathered 8648 false).onSensing fun x => { x with history := [] }).evaluate false).2.reason = .noHistory ∧
    (((gathered 8648 false).onTable fun t => { t with issueA := none }).evaluate false).2.reason = .noIssue ∧
    (((gathered 8648 false).onChain fun c => c.setNode 1 { nodeA 1 1 with state := .lost }).evaluate false).2.reason =
      .incomplete := by
  refine ⟨?_, ?_, ?_, ?_, ?_, ?_⟩ <;> decide +kernel

theorem witness_SamplesEnterTheHistory :
    (State.reset.taking ∧ State.reset.historyBounded ∧ State.reset.sensing.sampleTimer = some 250) ∧
    (let s := State.reset.onSensing fun x => { x with history := List.replicate 128 (entry 0 0 0) }
     s.taking ∧ s.historyBounded ∧ s.sensing.history.length = 128) ∧
    (let s := (State.reset.onSleep fun x => { x with power := .patrol }).onSensing fun x => { x with
       burstTimer := some 0, burstCount := 6 }
     s.taking ∧ s.historyBounded ∧ s.sensing.burstTimer = some 0 ∧ s.sleep.power = .patrol ∧
     s.sensing.burstCount + 1 < 8) ∧
    (let s := State.reset.onSensing fun x => { x with burstTimer := some 250 }
     s.taking ∧ s.historyBounded ∧ s.sleep.power ≠ .patrol) := by decide +kernel

/-- A kind's counter one short of its persistence at the least, with an entry that violates the discharge limit. -/
def tripping (k : TripKind) : State := (State.reset.onTransit fun t => { t with
  toProtection := [entry 1500001 0 0] }).onProt fun p => p.setCounter k 14

theorem witness_HistoryEntriesAreJudged :
    (let s := State.reset.onTransit fun t => { t with toProtection := [entry 1500001 0 0] }
     s.taking ∧ s.transit.toProtection = entry 1500001 0 0 :: [] ∧ (s.profile.dischargeMax : Int) = 1500000) ∧
    (let s := State.reset.onTransit fun t => { t with toProtection := [entry (-1950000) 0 0] }
     s.taking ∧ -(s.profile.chargeMax : Int) = -1950000) ∧
    (let s := tripping .currentDischarge
     s.taking ∧ s.transit.toProtection = entry 1500001 0 0 :: [] ∧
     s.profile.persistenceOf .currentDischarge ≤ min 15 (s.prot.counter .currentDischarge + 1)) := by decide +kernel

/-- An entry on its way to the contactors. -/
def arriving (e : HistoryEntry) (s : State) : State := s.onTransit fun t => { t with toContactors := [e] }

theorem witness_EntriesEndTheContactorTests :
    (let s := arriving (entry 0 100 95) ((inState .precharging ⟨false, true, true⟩ ⟨false, true, true⟩ calm).onCont
       fun c => { c with stepTimer := none })
     s.taking ∧ s.transit.toContactors = [entry 0 100 95] ∧ s.cont.stepTimer = none ∧ s.profile.ratio = 95) ∧
    (let s := arriving (entry (-50000) 0 0) (inState .holdoff ⟨true, true, false⟩ ⟨true, true, false⟩ calm)
     s.taking ∧ s.profile.interrupt = 50000 ∧ s.cont.aux.pos = true) ∧
    (let s := arriving (entry 0 100 49) (inState .weldCheck ⟨false, true, false⟩ ⟨false, true, false⟩ calm)
     s.taking ∧ 49 * 100 < 100 * s.profile.weldFraction ∧ s.cont.aux.neg = true) ∧
    (let s := arriving (entry 0 100 50) (inState .weldCheck ⟨false, true, false⟩ ⟨false, true, false⟩ calm)
     s.taking ∧ s.sleep.power = .active ∧ ¬ 50 * 100 < 100 * s.profile.weldFraction) ∧
    (let s := arriving (entry 0 0 0) (asleep calm)
     s.taking ∧ s.transit.toContactors = [entry 0 0 0] ∧ s.sleep.power ≠ .active) := by decide +kernel

theorem witness_SupervisionLineAndTamperTrip :
    (let s := (inState .closed ⟨true, true, false⟩ ⟨true, true, false⟩ calm).onProt fun p => { p with
       stale := false, stalenessTimer := some 500000 }
     s.taking ∧ s.prot.stalenessTimer = some 500000 ∧ s.cont.state ≠ .opened) ∧
    (let s := calm.onProt fun p => { p with stalenessTimer := some 0 }
     s.taking ∧ s.prot.stalenessTimer = some 0 ∧ s.cont.state = .opened) ∧
    (let s := calm.onTransit fun t => { t with openReports := [true], nodeLosses := [20] }
     s.taking ∧ s.transit.openReports = true :: [] ∧ s.prot.stale = true ∧ s.transit.nodeLosses = 20 :: [] ∧
     s.profile.openOnLoss = true) ∧
    (calm.taking ∧ calm.inputs.pins.safeOpen = false ∧ calm.sleep.power = .active) ∧
    (let s := calm.onInputs fun i => { i with pins := { i.pins with safeOpen := true } }
     s.taking ∧ s.inputs.pins.safeOpen = true) ∧
    (closedUnderWaitingKill.taking ∧ closedUnderWaitingKill.killGate = true ∧ closedUnderWaitingKill.commandsMatch ∧
     true ∈ closedUnderWaitingKill.transit.killEdges) ∧
    (let s := (asleep calm).onProt fun p => { p with stalenessTimer := some 1500 }
     s.taking ∧ s.prot.stalenessTimer = some 1500 ∧ s.sleep.power = .asleep ∧ s.cont.state = .opened ∧ s.workIdle ∧
     s.sleep.timersRunning = true ∧ s.sleep.tamperLatch = none ∧ s.inputs.pins.wakeIn = false ∧
     s.sleep.maxCount + 2 < 1000 * s.sleep.settings.maxSleep ∧
     s.sleep.wakeCount + 2 < 1000 * s.sleep.settings.interval) ∧
    (asleep calm).taking ∧ (asleep calm).sleep.power ≠ .active := by
  refine ⟨?_, ?_, ?_, ?_, ?_, ?_, ?_, ?_, ?_⟩ <;> decide +kernel

theorem witness_KillsAndDemandsOpenThePack :
    (let s := inState .closed ⟨true, true, false⟩ ⟨true, true, false⟩ calm
     s.taking ∧ s.commandsMatch ∧ s.cont.aux.pos = true ∧ s.profile.holdoff ≠ 0) ∧
    (let s := inState .posClosing ⟨true, true, true⟩ ⟨false, true, true⟩ calm
     s.taking ∧ s.commandsMatch ∧ s.cont.state.closing = true) ∧
    (let s := inState .weldCheck ⟨false, true, false⟩ ⟨false, true, false⟩ calm
     s.taking ∧ s.commandsMatch) ∧ (calm.taking ∧ calm.commandsMatch) ∧
    (let s := closeWaits (inState .preReleasing ⟨true, true, false⟩ ⟨true, true, true⟩ calm)
     s.taking ∧ s.commandsMatch ∧ s.cont.state.closing = true ∧ s.cont.closeSlot = some 2 ∧ s.cont.openSlot = none ∧
     s.memoryOk ∧ s.pool.sound 2) ∧
    (let s := (inState .closed ⟨true, true, false⟩ ⟨true, true, false⟩ calm).onStore fun p => { p with
       inUse := { p.inUse with holdoff := 0 } }
     s.taking ∧ s.commandsMatch ∧ s.profile.holdoff = 0) ∧
    (let s := ((order1 10 0 4 [255, 7, 0, 0] (inState .closed ⟨true, true, false⟩ ⟨true, true, false⟩
       calm)).onProt fun p => p.setLatch .safeLine (some .immediateOpen)).onTransit fun t => { t with killEdges := [true] }
     s.taking ∧ s.commandsMatch ∧ s.orderTaken 1 .clearTrips ∧ s.memoryOk ∧ s.pool.sound 1 ∧ s.workIdle ∧
     s.killGate = true ∧ true ∈ s.transit.killEdges ∧
     (nextOf (exec (.clearTrips false) s)).map (·.killGate) = some false) := by
  refine ⟨?_, ?_, ?_, ?_, ?_, ?_, ?_⟩ <;> decide +kernel

/-- A kill finds each place where the open path begins, POS already OPEN and every contact OPEN among them. -/
theorem witness_KillsAndDemandsOpenThePack_kills :
    (let s := inState .closed ⟨true, true, false⟩ ⟨false, true, false⟩ calm
     s.taking ∧ s.commandsMatch ∧ after .killGateAssertion s (fun t => t.cont.state) = some .negOpening) ∧
    (let s := inState .holdoff ⟨true, true, false⟩ ⟨true, true, false⟩ calm
     s.taking ∧ s.commandsMatch ∧ after .killGateAssertion s (fun t => t.cont.state) = some .posOpening) ∧
    (let s := inState .posOpening ⟨false, true, false⟩ ⟨true, true, false⟩ calm
     s.taking ∧ s.commandsMatch ∧ after .killGateAssertion s (fun t => t.cont.commands.neg) = some false) ∧
    (let s := closeWaits (inState .negClosing ⟨false, true, false⟩ ⟨false, false, false⟩ calm)
     s.taking ∧ s.commandsMatch ∧ s.cont.closeSlot = some 2 ∧ s.pool.sound 2 ∧
     after .killGateAssertion s (fun t => (t.cont.state, t.transit.openReports, t.pool.resultQueue)) =
       some (.opened, [false], [2])) ∧
    (let s := inState .weldCheck ⟨false, true, false⟩ ⟨false, false, true⟩ calm
     s.taking ∧ s.commandsMatch ∧
     after .killGateAssertion s (fun t => (t.cont.state, t.cont.weldUnchecked)) = some (.negOpening, true)) := by
  refine ⟨?_, ?_, ?_, ?_, ?_⟩ <;> decide +kernel

/-- A level of one contactor that has been held. -/
def holding (st : ContactorState) (cmd aux : Triple Bool) (k : Contactor) (level : Bool) : State :=
  ((inState st cmd aux calm).onCont fun c => { c with holds := c.holds.set k (some ⟨0, 0⟩) }).onInputs fun i =>
    { i with pins := PinLevels.setAux i.pins k level }

theorem witness_AuxLevelsAreHeldAndTaken :
    ((holding .negClosing ⟨false, true, false⟩ ⟨false, false, false⟩ .neg true).taking ∧
     (holding .negClosing ⟨false, true, false⟩ ⟨false, false, false⟩ .neg true).cont.holds.get .neg = some ⟨0, 0⟩) ∧
    (holding .precharging ⟨false, true, true⟩ ⟨false, true, false⟩ .pre true).taking ∧
    (holding .posClosing ⟨true, true, true⟩ ⟨false, true, true⟩ .pos true).taking ∧
    (let s := (service1 (holding .preReleasing ⟨true, true, false⟩ ⟨true, true, true⟩ .pre false)).onCont fun c =>
       { c with closeSlot := some 1 }
     s.taking ∧ s.memoryOk ∧ s.pool.sound 1 ∧ s.quiet 1 = false ∧ s.cont.holds.get .pre = some ⟨0, 0⟩) ∧
    (holding .posOpening ⟨false, true, false⟩ ⟨true, true, false⟩ .pos false).taking ∧
    (holding .negOpening ⟨false, false, false⟩ ⟨false, true, false⟩ .neg false).taking ∧
    (let s := (holding .opened ⟨false, false, false⟩ ⟨false, false, false⟩ .pos true).onCont fun c => { c with
       logs := ⟨List.replicate 4 ⟨true, 0⟩, [], []⟩ }
     s.taking ∧ (s.cont.logs.get .pos).length = 4) ∧
    (calm.taking ∧ (PinLevels.aux calm.inputs.pins).get .pre = false) := by
  refine ⟨?_, ?_, ?_, ?_, ?_, ?_, ?_, ?_⟩ <;> decide +kernel

/-- An OPEN_PACK in service in buffer 1. -/
def openWaits (s : State) : State := (service1 s).onCont fun c => { c with openSlot := some 1 }

/-- After a kill, and in NEG_OPENING, with one contactor and with none left to open. -/
theorem witness_AuxLevelsAreHeldAndTaken_opening :
    (let s := openWaits (holding .posOpening ⟨false, false, false⟩ ⟨true, true, false⟩ .pos false)
     s.taking ∧ s.cont.holds.get .pos = some ⟨0, 0⟩ ∧ s.cont.commands.neg = false ∧ s.cont.aux.neg = true) ∧
    (let s := openWaits (holding .posOpening ⟨false, false, false⟩ ⟨true, false, false⟩ .pos false)
     s.taking ∧ s.cont.aux.neg = false ∧ s.cont.aux.pre = false ∧ s.memoryOk ∧ s.pool.sound 1) ∧
    (let s := openWaits (holding .negOpening ⟨false, false, false⟩ ⟨false, true, true⟩ .pre false)
     s.taking ∧ s.cont.holds.get .pre = some ⟨0, 0⟩ ∧ s.cont.aux.neg = true) ∧
    (let s := openWaits (holding .negOpening ⟨false, false, false⟩ ⟨false, false, true⟩ .pre false)
     s.taking ∧ s.cont.aux.neg = false ∧ s.memoryOk ∧ s.pool.sound 1) ∧
    (let s := holding .closed ⟨true, true, false⟩ ⟨true, true, false⟩ .pos false
     s.taking ∧ s.cont.holds.get .pos = some ⟨0, 0⟩) := by
  refine ⟨?_, ?_, ?_, ?_, ?_⟩ <;> decide +kernel

/-- A watch starts, goes on and stops with the level taken, and restarts with the state. -/
theorem witness_AuxLevelsAreHeldAndTaken_watches :
    (let s := holding .closed ⟨true, true, false⟩ ⟨true, true, false⟩ .pos false
     s.taking ∧ s.cont.watches.get .pos = none ∧ s.cont.holds.get .pos = some ⟨0, 0⟩ ∧ (s.cont.logs.get .pos).length ≤ 4 ∧
     after (.auxLevelTaken .pos) s (fun t => t.cont.watches.get .pos) = some (some ⟨1000 * s.profile.window, 0⟩)) ∧
    (let s := (holding .closed ⟨true, true, false⟩ ⟨false, true, false⟩ .pos true).onCont fun c => { c with
       watches := ⟨some ⟨9, 0⟩, none, some ⟨8, 0⟩⟩ }
     s.taking ∧ s.cont.watches.get .pos ≠ none ∧
     after (.auxLevelTaken .pos) s (fun t => t.cont.watches) = some ⟨none, none, some ⟨8, 0⟩⟩) ∧
    (let s := (holding .closed ⟨true, true, false⟩ ⟨false, true, false⟩ .pos false).onCont fun c => { c with
       watches := ⟨some ⟨9, 0⟩, none, none⟩ }
     s.taking ∧ after (.auxLevelTaken .pos) s (fun t => t.cont.watches.get .pos) = some (some ⟨9, 0⟩)) ∧
    (let s := (holding .negClosing ⟨false, true, false⟩ ⟨true, false, false⟩ .neg true).onCont fun c => { c with
       watches := ⟨some ⟨9, 0⟩, none, none⟩ }
     s.taking ∧ after (.auxLevelTaken .neg) s (fun t => t.cont.watches.get .pos) =
       some (some ⟨1000 * s.profile.window, 0⟩)) := by
  refine ⟨?_, ?_, ?_, ?_⟩ <;> decide +kernel

/-- The hold-off passes with POS already OPEN; the weld check with NEG and PRE already OPEN, an OPEN_PACK waiting. -/
theorem witness_EntriesEndTheContactorTests_open :
    (let s := arriving (entry 0 0 0) (inState .holdoff ⟨true, true, false⟩ ⟨false, true, false⟩ calm)
     s.taking ∧ s.transit.toContactors = [entry 0 0 0] ∧ s.sleep.power = .active ∧ s.cont.aux.pos = false ∧
     after .historyEntryAtContactor s (fun t => t.cont.state) = some .weldCheck) ∧
    (let s := arriving (entry 0 100 49) (openWaits (inState .weldCheck ⟨false, true, false⟩ ⟨false, false, false⟩ calm))
     s.taking ∧ s.sleep.power = .active ∧ s.cont.aux = ⟨false, false, false⟩ ∧ s.memoryOk ∧ s.pool.sound 1 ∧
     after .historyEntryAtContactor s (fun t => (t.cont.state, t.transit.openReports, t.pool.resultQueue)) =
       some (.opened, [false], [1])) := by
  refine ⟨?_, ?_⟩ <;> decide +kernel

theorem witness_ContactorTimersFindFaults :
    (let s := inState .negClosing ⟨false, true, false⟩ ⟨false, false, false⟩ calm
     s.taking ∧ s.cont.stepTimer = some 30000 ∧ (s.cont.state, Contactor.neg) ∈ [(ContactorState.negClosing,
       Contactor.neg), (.precharging, .pre), (.posClosing, .pos), (.preReleasing, .pre)]) ∧
    (let s := inState .holdoff ⟨true, true, false⟩ ⟨true, true, false⟩ calm
     s.taking ∧ s.cont.aux.pos = true) ∧
    (let s := inState .posOpening ⟨false, true, false⟩ ⟨true, true, false⟩ calm
     s.taking ∧ s.cont.commands.neg = true) ∧
    (let s := inState .negOpening ⟨false, false, false⟩ ⟨false, true, true⟩ calm
     s.taking ∧ s.cont.aux.neg = true) ∧
    (let s := (inState .precharging ⟨false, true, true⟩ ⟨false, true, true⟩ calm).onCont fun c => { c with
       prechargeTimer := some 0 }
     s.taking ∧ s.cont.prechargeTimer = some 0) ∧
    (let s := (inState .closed ⟨true, true, false⟩ ⟨false, true, false⟩ calm).onCont fun c => { c with
       watches := ⟨some ⟨30000, 0⟩, none, none⟩ }
     s.taking ∧ s.cont.watches.get .pos = some ⟨30000, 0⟩ ∧ s.cont.faults = 0) := by
  refine ⟨?_, ?_, ?_, ?_, ?_, ?_⟩ <;> decide +kernel

/-- Every contactor's watch runs. -/
def watched (st : ContactorState) (cmd aux : Triple Bool) : State := (inState st cmd aux calm).onCont fun c => { c with
  watches := ⟨some ⟨30000, 0⟩, some ⟨0, 0⟩, some ⟨7, 0⟩⟩ }

theorem witness_ContactorTimersFindFaults_more :
    (let s := closeWaits (inState .preReleasing ⟨true, true, false⟩ ⟨true, true, true⟩ calm)
     s.taking ∧ s.cont.stepTimer = some 30000 ∧ s.cont.closeSlot = some 2 ∧ s.cont.openSlot = none ∧ s.memoryOk ∧
     s.pool.sound 2) ∧
    (let s := inState .weldCheck ⟨false, true, false⟩ ⟨false, true, false⟩ calm
     s.taking ∧ s.cont.stepTimer = some 30000) ∧
    (let s := openWaits (inState .negOpening ⟨false, false, false⟩ ⟨false, false, true⟩ calm)
     s.taking ∧ s.cont.aux.pre = true ∧ s.cont.openSlot = some 1 ∧ s.memoryOk ∧ s.pool.sound 1) ∧
    (let s := inState .posOpening ⟨false, false, false⟩ ⟨true, false, false⟩ calm
     s.taking ∧ s.cont.commands.neg = false) ∧
    ((inState .closed ⟨true, true, false⟩ ⟨true, true, false⟩ calm).cont.stepTimer = some 30000) ∧
    (let s := closeWaits (watched .posClosing ⟨true, true, true⟩ ⟨false, false, true⟩)
     s.taking ∧ s.cont.watches.get .neg = some ⟨0, 0⟩ ∧ s.cont.state.closing = true ∧ s.memoryOk ∧ s.pool.sound 2 ∧
     s.cont.tableLevel .neg = some true) ∧
    ((watched .holdoff ⟨true, true, false⟩ ⟨false, true, false⟩).cont.watches.get .pos = some ⟨30000, 0⟩) ∧
    ((watched .weldCheck ⟨false, true, false⟩ ⟨false, false, false⟩).cont.watches.get .neg = some ⟨0, 0⟩) ∧
    ((watched .faulted ⟨false, false, false⟩ ⟨true, false, false⟩).cont.watches.get .pre = some ⟨7, 0⟩) ∧
    ((watched .opened ⟨false, false, false⟩ ⟨true, false, false⟩).taking) := by
  refine ⟨?_, ?_, ?_, ?_, ?_, ?_, ?_, ?_, ?_, ?_⟩ <;> decide +kernel

/-- A watch that expires in OPEN reports the move out of it, and in CLOSED with POS already OPEN it skips that wait. -/
theorem witness_ContactorTimersFindFaults_watches :
    (let s := watched .opened ⟨false, false, false⟩ ⟨true, false, false⟩
     s.taking ∧ s.cont.watches.get .pos = some ⟨30000, 0⟩ ∧
     after (.auxWatchExpiry .pos) s (fun t => (t.cont.state, t.transit.openReports)) = some (.faulted, [true])) ∧
    (let s := watched .closed ⟨true, true, false⟩ ⟨false, true, false⟩
     s.taking ∧ s.cont.tableLevel .pos = some true ∧
     after (.auxWatchExpiry .pos) s (fun t => (t.cont.state, t.cont.faults)) = some (.weldCheck, 8)) ∧
    ((watched .precharging ⟨false, true, true⟩ ⟨true, true, true⟩).cont.tableLevel .pre = none ∧
     (watched .closed ⟨true, true, false⟩ ⟨true, true, true⟩).cont.tableLevel .pre = some false) := by
  refine ⟨?_, ?_, ?_⟩ <;> decide +kernel

/-- An alert, and a list of so many. -/
def anAlert : Alert := ⟨.tamper, 1, 0, .active, 0, [7]⟩

/-- The edges of a TRIP payload's fields, as the layout clause of the next statement asks. -/
theorem witness_AlertsArriveAndAreWritten_trip :
    (let r : TripReport := ⟨2, 15, 20, 16, -2 ^ 31, 2 ^ 31 - 1, 2 ^ 32 - 1⟩
     r.cause < 256 ∧ r.counter < 256 ∧ r.node < 256 ∧ r.channel < 256 ∧ -2 ^ 31 ≤ r.value ∧ r.value < 2 ^ 31 ∧
     -2 ^ 31 ≤ r.limit ∧ r.limit < 2 ^ 31 ∧ r.reference < 2 ^ 32) := by decide

theorem witness_AlertsArriveAndAreWritten :
    (let s := calm.onTransit fun t => { t with alerts := [(.tamper, [7])] }
     s.taking ∧ s.transit.alerts = (.tamper, [7]) :: [] ∧ s.alerts.pending.length < 16 ∧ s.alerts.writing = none) ∧
    (let s := (calm.onTransit fun t => { t with alerts := [(.tamper, [7])] }).onAlerts fun w => { w with
       pending := List.replicate 16 anAlert, lostCount := 65535 }
     s.taking ∧ 16 ≤ s.alerts.pending.length) ∧
    (let s := (buffer1 .filling [95] [] calm).onAlerts fun w => { w with writing := some (1, anAlert) }
     s.taking ∧ s.memoryOk ∧ s.pool.sound 1 ∧ 12 + anAlert.payload.length ≤ (s.pool.entry 1).capacity) ∧
    (let s := ((buffer1 .held (List.range' 4 92) [] calm).onPool fun p => { p with inProgress := some (.alert, 1) }).onAlerts
       fun w => { w with pending := [anAlert, anAlert] }
     s.taking ∧ s.alerts.pending = anAlert :: [anAlert] ∧ s.alerts.writing = none ∧ s.workIdle ∧
     s.pool.allocFailure .alert 1 s.profile.alertReserve ≠ none) := by decide +kernel

theorem witness_LowPowerClockCountsAndWakes :
    ((asleep calm).taking ∧ (asleep calm).workIdle ∧ (asleep calm).sleep.power = .asleep ∧
     (asleep calm).sleep.timersRunning = true ∧ (asleep calm).sleep.tamperLatch = none ∧
     (asleep calm).sleep.nodesAsleep = true) ∧
    (let s := (asleep calm).onSleep fun x => { x with maxCount := 86399998, wakeCount := 59998 }
     s.taking ∧ s.workIdle ∧ s.sleep.maxCount + 1 < 1000 * s.sleep.settings.maxSleep ∧
     s.sleep.wakeCount + 1 < 1000 * s.sleep.settings.interval) ∧
    (let s := (asleep calm).onSleep fun x => { x with maxCount := 86399999, wakeCount := 59999 }
     s.taking ∧ s.workIdle ∧ s.sleep.maxCount < 1000 * s.sleep.settings.maxSleep ∧
     s.sleep.wakeCount < 1000 * s.sleep.settings.interval ∧ s.inputs.pins.wakeIn = false ∧
     1000 * s.sleep.settings.maxSleep - s.sleep.maxCount ≤ 1000 * s.sleep.settings.interval - s.sleep.wakeCount) ∧
    (let s := (asleep calm).onSleep fun x => { x with maxCount := 86399998, wakeCount := 59999 }
     s.taking ∧ s.workIdle ∧
     1000 * s.sleep.settings.interval - s.sleep.wakeCount < 1000 * s.sleep.settings.maxSleep - s.sleep.maxCount) ∧
    (let s := (asleep calm).onSleep fun x => { x with tamperLatch := some 7, tamperEdges := 255 }
     s.taking ∧ s.workIdle ∧ s.sleep.tamperLatch = some 7 ∧ s.sleep.nodesAsleep = true) ∧
    (let s := (asleep calm).onSleep fun x => { x with power := .patrol, wakeCount := 59999 }
     s.taking ∧ s.workIdle ∧ s.sleep.timersRunning = true ∧
     s.sleep.maxCount + 1 < 1000 * s.sleep.settings.maxSleep ∧
     1000 * s.sleep.settings.interval ≤ s.sleep.wakeCount + 1) ∧
    (calm.taking ∧ calm.workIdle ∧ calm.sleep.power = .active) := by
  refine ⟨?_, ?_, ?_, ?_, ?_, ?_, ?_⟩ <;> decide +kernel

/-- The last transmission of the Sleep Controller in a power state and phase, with an ENTER_SLEEP in buffer 1. -/
def sleepFrame (f : ChainFrame) (power : PowerState) (phase : SleepPhase) : State :=
  ((service1 (busy (engineOf .sleepController f .a .sending 0) calm)).onSleep fun x => { x with
    power := power, phase := phase, slot := some ⟨1, true⟩, lastReason := .wakeLine, duration := 3, wakeOut := true }).onPool
    fun p => p.setEntry 2 ⟨.resultQueued, [5], .sampler, false⟩

/-- The release of buffer 2 is the last of a sleep entry. -/
def lastRelease (reason : Option WakeReason) (nodesAsleep : Bool) : State :=
  ((service1 calm).onPool fun p => { p.setEntry 2 ⟨.held, [5], .sampler, true⟩ with releaseList := [2] }).onSleep
    fun x => { x with
      power := .entering, phase := .entryRelease, slot := some ⟨1, false⟩, pendingReason := reason
      nodesAsleep := nodesAsleep }

/-- ENTERING with the SLEEP requested, or under way, or in the release step; buffer 2 is to be released. -/
def enteringIn (phase : SleepPhase) (request : Option ChainFrame) : State :=
  ((oneNode calm).onPool fun p => p.setEntry 2 ⟨.resultQueued, [5], .sampler, false⟩).onSleep (fun x => { x with
    power := .entering, phase := phase, slot := some ⟨1, false⟩ }) |>.onChain fun c => { c with sleepRequest := request }

theorem witness_LowPowerClockCountsAndWakes_entering :
    (let s := enteringIn .entrySleep none
     s.taking ∧ s.workIdle ∧ s.sleep.power = .entering ∧ s.chain.sleepRequest = none ∧
     after (.lowPowerTick true false) s (fun t => t.sleep.pendingReason) = some (some .wakeLine)) ∧
    (let s := enteringIn .entrySleep (some .sleep)
     s.taking ∧ s.workIdle ∧ s.sleep.pendingReason = none ∧ s.chain.sleepRequest ≠ none ∧ s.store.slot = none ∧
     s.pool.releaseList ++ s.releaseNumbers = [2]) ∧
    (let s := (service1 (enteringIn .entrySleep (some .sleep))).onPool fun p => p.setEntry 2 .reset
     s.workIdle ∧ s.pool.releaseList = [] ∧ s.releaseNumbers = [] ∧ s.pool.resultQueue = [] ∧
     s.sleep.nodesAsleep = false ∧ s.memoryOk ∧ s.pool.sound 1 ∧ s.quiet 1 = false) := by
  refine ⟨?_, ?_, ?_⟩ <;> decide +kernel

/-- A tamper edge in each power state that takes it at once, and the alerts that follow it. -/
theorem witness_LowPowerClockCountsAndWakes_tamper :
    (let s := calm.onSleep fun x => { x with tamperEdges := 255 }
     s.taking ∧ s.workIdle ∧ after .tamperInEdge s (fun t => t.transit.alerts) = some
       [(.updateLocked, [1]), (.trip, tripPayload .tamper .alertOnly .plain), (.tamper, [0, 0, 0, 0, 0, 0, 0, 0, 255, 1])]) ∧
    (let s := calm.onSleep fun x => { x with power := .waking }
     s.taking ∧ s.workIdle ∧ s.sleep.power = .waking) ∧
    (let s := (oneNode calm).onSleep fun x => { x with power := .patrol, phase := .patrolSleep, maxCount := 5999 }
     s.taking ∧ s.workIdle ∧ s.chain.sleepRequest = none ∧
     after .tamperInEdge s (fun t => (t.sleep.pendingReason, t.sleep.duration)) = some (some .tamper, 5)) ∧
    (let s := (oneNode calm).onSleep fun x => { x with power := .patrol, phase := .patrolFrame }
     s.taking ∧ s.workIdle ∧ s.chain.breakDue = false ∧ s.sleep.nodesAsleep = false ∧
     after .tamperInEdge s (fun t => t.transit.alerts.map Prod.fst) = some [.updateLocked, .tamper, .trip]) ∧
    (let s := (oneNode calm).onSleep fun x => { x with power := .patrol, phase := .patrolTone, nodesAsleep := true }
     s.taking ∧ s.workIdle ∧ s.sleep.nodesAsleep = true) := by
  refine ⟨?_, ?_, ?_, ?_, ?_⟩ <;> decide +kernel

/-- The frames of the Sleep Controller that end in a patrol, with a patrol due and a wake that waits. -/
theorem witness_SleepEntryAndWakeEnd_patrol :
    (let s := sleepFrame .wakeTone .patrol .patrolTone
     s.taking ∧ s.listIdle ∧ s.chain.noRequest ∧ s.chain.ringMode = false ∧ s.chain.txTimer = some 30 ∧
     after .transmissionEnd s (fun t => (t.sleep.phase, t.transit.burst)) = some (.patrolBurst, true)) ∧
    (let s := sleepFrame .sleep .patrol .patrolSleep
     s.taking ∧ s.listIdle ∧ s.chain.noRequest ∧ s.sleep.pendingReason = none ∧ s.sleep.patrolDue = false) ∧
    (let s := (sleepFrame .sleep .patrol .patrolSleep).onSleep fun x => { x with patrolDue := true }
     s.listIdle ∧ s.chain.noRequest ∧ s.chain.quietA = none ∧
     after .transmissionEnd s (fun t => (t.sleep.power, t.sleep.patrol.map (·.late))) = some (.patrol, some true)) ∧
    (let s := (sleepFrame .sleep .patrol .patrolSleep).onSleep fun x => { x with pendingReason := some .wakeLine }
     s.listIdle ∧ s.chain.noRequest ∧ s.chain.quietA = none ∧ s.sleep.pendingReason = some .wakeLine) := by
  refine ⟨?_, ?_, ?_, ?_⟩ <;> decide +kernel

theorem witness_SleepEntryAndWakeEnd :
    (let s := sleepFrame .sleep .entering .entrySleep
     s.taking ∧ s.listIdle ∧ s.chain.noRequest ∧
     s.chain.engine = some (engineOf .sleepController .sleep .a .sending 0) ∧ s.chain.ringMode = false ∧
     s.chain.txTimer = some 30 ∧ s.pool.releaseList ++ (List.range' 1 40).filter (fun n =>
       (s.pool.entry n).state == .resultQueued || (s.pool.entry n).hostHeld) = [2]) ∧
    (let s := sleepFrame .wakeTone .waking .wakeTone
     s.taking ∧ s.listIdle ∧ s.chain.noRequest ∧ s.chain.ringMode = false ∧ s.memoryOk ∧ s.pool.sound 1 ∧
     s.quiet 1 = false ∧ s.sleep.slot = some ⟨1, true⟩) ∧
    (let s := lastRelease none true
     s.taking ∧ s.workIdle ∧ s.sleep.power = .entering ∧ s.sleep.phase = .entryRelease ∧ s.pool.releaseList = [2] ∧
     s.sleep.pendingReason = none) ∧
    ((lastRelease (some .tamper) true).workIdle ∧ (lastRelease (some .tamper) true).sleep.nodesAsleep = true) ∧
    (let s := lastRelease (some .wakeLine) false
     s.workIdle ∧ s.memoryOk ∧ s.pool.sound 1 ∧ s.quiet 1 = false ∧ s.sleep.nodesAsleep = false) ∧
    ((asleep calm).taking ∧ (asleep calm).workIdle ∧ (asleep calm).sleep.nodesAsleep = true) := by
  refine ⟨?_, ?_, ?_, ?_, ?_, ?_⟩ <;> decide +kernel

/-- The end of SLEEP at sleep entry with nothing to release: asleep, and a wake that waits. -/
theorem witness_SleepEntryAndWakeEnd_empty :
    (let s := (sleepFrame .sleep .entering .entrySleep).onPool fun p => p.setEntry 2 .reset
     s.taking ∧ s.listIdle ∧ s.chain.noRequest ∧ s.chain.txTimer = some 30 ∧ s.pool.releaseList ++ s.releaseNumbers = [] ∧
     s.sleep.pendingReason = none ∧ after .transmissionEnd s (fun t => t.sleep.power) = some .asleep) ∧
    (let s := ((sleepFrame .sleep .entering .entrySleep).onPool fun p => p.setEntry 2 .reset).onSleep fun x => { x with
       pendingReason := some .tamper }
     s.taking ∧ s.listIdle ∧ s.chain.noRequest ∧ s.pool.releaseList ++ s.releaseNumbers = [] ∧ s.chain.quietA = none ∧
     after .transmissionEnd s (fun t => (t.sleep.power, t.link.readAhead)) = some (.waking, .captured 1)) := by
  refine ⟨?_, ?_⟩ <;> decide +kernel

/-- A patrol that has found nothing yet. -/
def aPatrol : Patrol := ⟨5, true, -7, false, 0, 0, none, .clear, none⟩

/-- A patrol in a phase, with the settings of slot A, index 0. -/
def patrolling (phase : SleepPhase) (p : Patrol) (s : State) : State := s.onSleep fun x => { x with
  power := .patrol, phase := phase, timersRunning := true, patrol := some p, settings := ⟨60, 86400, .slotA, 0, 0⟩ }

/-- A patrol's burst with three samples taken. -/
def burstUnderWay (s : State) : State := (patrolling .patrolBurst aPatrol s).onSensing fun x => { x with
  burstTimer := some 250, burstCount := 3, history := [entry 1 2 3] }

theorem witness_LowPowerClockCountsAndWakes_burst :
    (let s := burstUnderWay (service1 calm)
     s.taking ∧ s.workIdle ∧ s.sleep.power = .patrol ∧ s.sleep.phase = .patrolBurst ∧ s.sleep.nodesAsleep = false ∧
     s.burstInPatrol) := by decide +kernel

/-- A figure of cells for a patrol record. -/
def someCells : CellFigures := ⟨⟨38000, 1, 1⟩, ⟨38300, 1, 2⟩, ⟨37000, 1, 1⟩, ⟨37500, 1, 2⟩, 74500, 38150, 300⟩
def someRecord : Aggregate := ⟨9, 1, 2, some someCells, none, .notEvaluated, .patrol, 0, 0, false, false, [1]⟩

theorem witness_PatrolsAreJudged :
    (let s := (patrolling .patrolBurst aPatrol (sampling calm)).onSensing fun x => { x with
       burstTimer := some 250, burstCount := 7 }
     s.taking ∧ s.historyBounded ∧ s.sleep.patrol = some aPatrol ∧ s.sensing.burstTimer = some 250 ∧
     s.chain.enumStatus = .matched ∧ s.chain.engine.isSome = true ∧ (s.element .slotA 0).kind = 1 ∧
     (s.element .slotA 0).trapReason = 0 ∧ groupOf (s.element .slotA 0).group = some .both) ∧
    (let s := (patrolling .patrolBurst aPatrol (service1 calm)).onSensing fun x => { x with
       burstTimer := some 250, burstCount := 7 }
     s.taking ∧ s.historyBounded ∧ s.chain.enumStatus ≠ .matched ∧ s.workIdle ∧ s.sleep.nodesAsleep = false ∧
     aPatrol.breaches = .clear ∧ aPatrol.record = none) ∧
    (let f := waitThen .patrol .notAsked 2 .slotA
     let s := patrolling .patrolFrame aPatrol (inList f alignWaitList calm)
     s.waits f 9 ∧ s.sleep.patrol = some aPatrol ∧ f.index + 1 < f.last ∧ (s.element .slotA 1).kind = 6 ∧
     (s.element .slotA 1).trapReason = 0 ∧ (s.element .slotA 2).kind = 4 ∧ (s.element .slotA 2).trapReason = 0 ∧
     (s.element .slotA 2).argument = 7) ∧
    (let f := waitThen .patrol .notAsked 0 .slotA
     let p := { aPatrol with record := some someRecord }
     let s := patrolling .patrolFrame p (inList f [] calm)
     s.waits f 9 ∧ f.index = f.last ∧ p.mean.natAbs = 7 ∧ s.profile.drain = 0 ∧ s.sleep.nodesAsleep = false) ∧
    (let f := waitThen .patrol .notAsked 0 .slotA
     let p := { aPatrol with record := some someRecord, mean := 0 }
     let s := patrolling .patrolFrame p (inList f [] calm)
     s.waits f 9 ∧ ¬ s.profile.drain < p.mean.natAbs ∧ p.breaches = .clear ∧ p.trap = none ∧ p.record ≠ none ∧
     ∀ m ∈ allNodes, (s.chain.node m).failedMark = false) := by
  refine ⟨?_, ?_, ?_, ?_, ?_⟩ <;> decide +kernel

/-- An illegal element behind the WAIT of a patrol's list. -/
theorem witness_PatrolsAreJudged_trap :
    (let f := waitThen .patrol .notAsked 1 .slotA
     let p := { aPatrol with record := some someRecord, mean := 0 }
     let s := patrolling .patrolFrame p (inList f [(264, 10)] calm)
     s.waits f 9 ∧ f.index < f.last ∧ (s.element f.slot 1).trapReason = 1 ∧ s.sleep.patrol = some p ∧
     s.sleep.nodesAsleep = false ∧
     after .waitExpiry s (fun t => (t.sleep.lastReason, t.sleep.page.trap, t.transit.alerts)) =
       some (.supervision, some ⟨1, 10, 1⟩, [])) := by decide +kernel

/-- The Profile Store with an order in its slot. -/
def storing (o : ProfileOrder) (st : SessionState) : State :=
  (service1 (session st calm)).onStore fun p => { p with slot := some o }

/-- A verification of version 1 over the floor 0. -/
theorem witness_VersionFloorNeverDecreases_verifying :
    (storing (.verify 1) .verifying).sessionSound ∧ (storing (.verify 1) .verifying).inSession ∧
    (nextOf (exec .verifyComplete (storing (.verify 1) .verifying))).isSome = true :=
  ⟨⟨fun _ => by decide +kernel, fun _ _ => rfl⟩, .inr (.inl rfl), rfl⟩

theorem witness_EraseProgramAndTamperEndTheirOrders :
    (let s := storing (.erase 1) .idle
     s.taking ∧ s.memoryOk ∧ s.store.slot = some (.erase 1) ∧ s.pool.sound 1 ∧ s.quiet 1 = false) ∧
    (let s := storing (.program 1 0 [1, 2, 3]) .receiving
     s.taking ∧ s.memoryOk ∧ s.store.slot = some (.program 1 0 [1, 2, 3]) ∧ s.pool.sound 1 ∧ s.quiet 1 = false) ∧
    ((session .locked calm).taking ∧ (session .locked calm).memoryOk ∧ (session .locked calm).store.session = .locked) ∧
    (calm.taking ∧ calm.memoryOk ∧ calm.store.session ≠ .locked) := by decide +kernel

theorem witness_VerificationAndActivationEnd :
    (let s := storing (.verify 1) .verifying
     s.taking ∧ s.memoryOk ∧ s.pool.sound 1 ∧ s.quiet 1 = false ∧ s.store.slot = some (.verify 1)) ∧
    (let s := storing (.activate 1) .activationPending
     s.taking ∧ s.memoryOk ∧ s.pool.sound 1 ∧ s.quiet 1 = false ∧ s.store.session = .activationPending ∧
     s.activationReady = true ∧ s.workIdle ∧ s.seq.slot = none) ∧
    (let s := (storing (.activate 1) .activationPending).onStore fun p => { p with waitTimer := some 10000000 }
     s.store.waitTimer = some 10000000 ∧ s.store.session = .activationPending ∧ s.pool.sound 1) ∧
    (let s := (storing (.activate 1) .activationPending).onSeq fun q => { q with sampler := .running }
     s.taking ∧ s.activationReady = false) := by decide +kernel

/-- An activation at a report that changes CHAIN. -/
theorem witness_VerificationAndActivationEnd_changed :
    (let s := (storing (.activate 1) .activationPending).onStore fun p => { p with chainChange := true }
     s.taking ∧ s.memoryOk ∧ s.pool.sound 1 ∧ s.activationReady = true ∧ s.workIdle ∧ s.seq.slot = none ∧
     s.store.slot = some (.activate 1) ∧
     after .activationConditionReport s (fun t => t.chain.enumStatus) = some .needed) := by decide +kernel

/-- The vendor image with version 1, without its tag, and with the tag the integrity engine gives it. -/
def untagged : List Byte := (Profile.vendorImage.take 120).set 4 1
def tagged : List Byte := untagged ++ leBytes 16 (Config.keyedTag 0 untagged).toNat

theorem tagged_length : tagged.length = 136 := by decide +kernel

/-- The tag of the tagged image is right under key 0, as the tag clause of that statement asks. -/
theorem witness_VerificationAndActivationEnd_tag : tagOk 0 tagged 136 = true ∧ 16 ≤ 136 := by
  have ht : tagged.take (136 - 16) = untagged := List.take_left' (by decide +kernel)
  have hs : slice tagged (136 - 16) 16 = leBytes 16 (Config.keyedTag 0 untagged).toNat := rfl
  exact ⟨by rw [tagOk, ht, hs]; exact beq_self_eq_true _, by decide⟩

/-- Images for the clauses on the order of the checks: the tagged image passes them all; one whose version does not
exceed the floor, one with a field out of range, and an empty one fail VERSION, RANGE and STRUCTURE. -/
theorem witness_VerificationAndActivationEnd_order :
    ImageShape tagged 136 ∧ ImageVersion tagged 1 0 ∧ ¬ ImageVersion tagged 1 1 ∧ ImageRanges tagged ∧
    ¬ ImageRanges (tagged.set 25 16) ∧ ImageShape (tagged.set 25 16) 136 ∧ ¬ ImageShape [] 64 := by
  unfold ImageShape ImageVersion ImageRanges
  refine ⟨?_, ?_, ?_, ?_, ?_, ?_, ?_⟩ <;> decide +kernel

/-- A verification that passes, and one that fails whatever the tag. -/
theorem witness_VerificationAndActivationEnd_reasons :
    verifyReason 0 0 1 136 tagged = 0 ∧ verifyReason 0 0 1 64 [] ≠ 0 := by
  constructor
  · have h2 : structureOk tagged 136 = true := by decide +kernel
    have h3 : u32 tagged 4 = 1 := by decide +kernel
    have h4 : rangesOk tagged = true := by decide +kernel
    rw [verifyReason, witness_VerificationAndActivationEnd_tag.1, h2, h3, h4]; rfl
  · have h : structureOk [] 64 = false := by decide +kernel
    rw [verifyReason, h]
    split <;> simp

/-! ## Ill-formed terms are refused

The constants of R133, R175 and R48 at the edge of each check. -/

theorem test_illegal_command_1_is_ill_formed : Instr.wellFormed (.illegalCommand 1 0) = false := by decide

theorem test_illegal_command_5_is_ill_formed : Instr.wellFormed (.illegalCommand 5 0) = false := by decide

theorem test_sample_above_range_is_ill_formed :
    Instr.wellFormed (.sampleTimerExpiry ⟨2200001, 0, 0⟩) = false := by decide

theorem test_burst_request_below_range_is_ill_formed :
    Instr.wellFormed (.burstRequest ⟨-2200001, 0, 0⟩) = false := by decide

theorem test_burst_sample_above_range_is_ill_formed :
    Instr.wellFormed (.burstSample ⟨2200001, 0, 0⟩) = false := by decide

theorem test_ill_formed_terms_are_refused :
    exec (.illegalCommand 1 0) State.reset = .refused .illFormed ∧
    exec (.illegalCommand 5 0) State.reset = .refused .illFormed := ⟨rfl, rfl⟩

/-! ## The bytes of a transaction

Written out from R133 and R175: bit 7 a read, bits 0 to 2 the register, then four bytes, least significant first. -/

theorem test_transactions_decode :
    decodeTableWord 40 0x0258000105 = some (.allocate 0x0258) ∧ decodeTableWord 40 0x0000000905 = some (.illegalCommand 9 0) ∧
    decodeTableWord 40 0x00FA000603 = some (.selectWrite 0x00FA0006) ∧ decodeTableWord 40 0x0000002001 = some (.attnWrite 0x20) ∧
    decodeTableWord 16 0x2A04 = some (.dataWrite 0x2A) ∧ decodeTableWord 8 0x08 = some (.spiVoidTransaction 0x08) := by
  decide

/-! ## Words and figures

Expected values are the manual's own check values and worked cases. -/

/-- The check value of section 1.2: the nine ASCII bytes "123456789" give 29B1h. -/
theorem test_crc_check_value :
    crc16 [0x31, 0x32, 0x33, 0x34, 0x35, 0x36, 0x37, 0x38, 0x39] = 0x29B1#16 := by decide +kernel

/-- A KEEPALIVE is 3 bytes and a READ is 6, at 5 µs a byte; the tone takes 500 µs (R3, R4, R182). -/
theorem test_frame_durations : ChainFrame.keepalive.duration = 15 ∧ (ChainFrame.read 1 .cells 16).duration = 30 ∧
    ChainFrame.wakeTone.duration = 500 := by decide +kernel

/-- The six rows of section 3.1's table. -/
theorem test_current_calibration_rows :
    calibrateCurrent 240100 (-420) (-15) = (239984, false) ∧ calibrateCurrent 2000 250 0 = (2001, false) ∧
    calibrateCurrent (-2000) 250 0 = (-2001, false) ∧ calibrateCurrent 1999000 1000 0 = (2000000, true) ∧
    calibrateCurrent (-1999990) 0 (-20) = (-2000000, true) ∧ calibrateCurrent 2200000 (-32768) 0 = (2000000, true) := by
  decide +kernel

/-- The two burst means of section 3.4. -/
theorem test_burst_means : roundAway 22 8 = 3 ∧ roundAway (-20) 8 = -3 := by decide +kernel

/-- Section 4.4: nodes on two paths of one frame. -/
theorem test_sampling_instants : samplingInstant 2000000 2 2 40 = 2000044 ∧ samplingInstant 2000145 2 2 40 = 2000189 := by
  decide +kernel

/-- An entry with a tag and a current. -/
def tagged1 (tag : Word) (current : Int) : HistoryEntry := ⟨tag, current, 0, 0, false, false⟩

/-- Section 4.5: within the view, and across a wrap of pack time. -/
theorem test_placing_within_a_view :
    (place [tagged1 1000000 240000, tagged1 1000250 260000] HistoryEntry.current 1000046).value = 243680 ∧
    (place [tagged1 0xFFFFFF38 100000, tagged1 0x32 98000] HistoryEntry.current 0xFFFFFFD0).value = 98784 ∧
    interpolate 0 5 250 0 225 = 1 ∧ interpolate 0 (-5) 250 0 225 = -1 := by decide +kernel

/-- Section 4.5: the edges. -/
theorem test_placing_at_the_edges :
    (place [tagged1 5000000 9] HistoryEntry.current 5000120).ahead = true ∧
    (place [tagged1 7000 9] HistoryEntry.current 7000) = ⟨9, false, false, false, [tagged1 7000 9]⟩ ∧
    (place [tagged1 7000 9] HistoryEntry.current 6990).aged = true ∧
    (place [] HistoryEntry.current 6990).empty = true := by decide +kernel

/-- Section 4.6: node 3's cell 7 from raw code to compensated value. -/
theorem test_one_cell : calibrateCell 250 (-3) 36480 = (36486, false) ∧ compensate 36486 243680 800 = (38435, false) := by
  decide +kernel

/-- Section 4.7: the aggregates with a degraded and a lost node. -/
theorem test_aggregates :
    cellFigures [⟨1, 1, 36500, 38400⟩, ⟨1, 2, 36450, 38350⟩, ⟨1, 3, 36520, 38420⟩, ⟨2, 1, 36480, 38380⟩,
      ⟨2, 2, 36300, 38200⟩, ⟨2, 3, 36510, 38413⟩] =
    some { minVcomp := ⟨38200, 2, 2⟩, maxVcomp := ⟨38420, 1, 3⟩, minVc := ⟨36300, 2, 2⟩, maxVc := ⟨36520, 1, 3⟩,
           sumVc := 218760, meanVcomp := 38361, imbalance := 220 } := by decide +kernel

/-- Section 4.8: the cell total rounds half up. -/
theorem test_cell_total : roundUp 7712345 10 = 771235 := by decide +kernel

/-! ## One command each -/

/-- R14, R134: power-on leaves no node known, the reset cause POWER_ON and one update counted. -/
theorem test_power_on_reset :
    after (.powerOnReset State.reset.inputs.pins) State.reset (fun t =>
      (t.link.resetCause, t.chain.found, t.pool.updateCount)) = some (.powerOn, 0, 1) := by decide +kernel

/-- R85, R134: RESET_N sets its cause and takes every coil output off. -/
theorem test_reset_line_assertion :
    after (.resetNAssertion ⟨true, false⟩) (inState .closed ⟨true, true, false⟩ ⟨true, true, false⟩ calm) (fun t =>
      (t.link.resetCause, t.coilOutput .pos, t.chain.ringState)) = some (.resetLine, false, .closed) := by decide +kernel

/-- R46: the release starts the sample timer at 250 µs. -/
theorem test_reset_line_release :
    after (.resetNRelease State.reset.inputs.pins) (State.reset.onInputs fun i => { i with inReset := true })
      (fun t => (t.inputs.inReset, t.sensing.sampleTimer)) = some (false, some 250) := by decide +kernel

/-- R133: SDO reads as all ones in a void transaction. -/
theorem test_void_transaction : after (.spiVoidTransaction 0x78) calm (fun t => t.link.sdo) = some 0xFF := by
  decide +kernel

/-- R133, R175: a read of SELECT (buffer 6, offset 250) shifts out 00h, its four bytes, then 00h. -/
theorem test_register_read :
    after (.spiVoidTransaction 0x83) (calm.onLink fun l => { l with number := 6, offset := 250 }) (fun t =>
      (t.sdoByte 0, t.sdoByte 1, t.sdoByte 2, t.sdoByte 3, t.sdoByte 4, t.sdoByte 5)) =
    some (some 0, some 6, some 0, some 0xFA, some 0, some 0) := by decide +kernel

/-- R136: the byte held at a transaction's end is stored at its offset, and nothing is held after. -/
theorem test_transaction_end_stores :
    after .spiTransactionEnd ((buffer1 .held [4] [] calm).onLink fun l => { l with
      transaction := .dataWrite, number := 1, offset := 6, writeBehind := some ⟨1, 5, 0xAB⟩ })
      (fun t => (memRead t.pool.memory 1029, t.link.writeBehind)) = some (0xAB, none) := by decide +kernel

/-- R134: a write to ID changes no register. -/
theorem test_id_is_read_only :
    after (.registerWrite .id 0xFFFFFFFF) calm (fun t =>
      (t.link.resetCause, t.link.mask == calm.link.mask, t.link.command == calm.link.command, t.pool == calm.pool)) =
      some (.powerOn, true, true, true) := by decide +kernel

/-- R137, R144: write-1 to ALERT_LOST clears the flag and the record; ALLOC_DONE stays. -/
theorem test_attn_write :
    after (.attnWrite 0x20) ((calm.onLink fun l => { l with alertLost := true, allocDone := true }).onAlerts fun w =>
      { w with lostCount := 9, firstLost := some .trip })
      (fun t => (t.link.alertLost, t.link.allocDone, t.alerts.lostCount, t.alerts.firstLost)) =
      some (false, true, 0, none) := by decide +kernel

/-- R134, R137: the mask holds six bits. -/
theorem test_attn_mask_write : after (.attnMaskWrite 0xFFFFFFFF) calm (fun t => t.readAttnMask) = some 0x3F := by
  decide +kernel

/-- R135, R175: buffer 6, offset 250; SELECT reads back what was written. -/
theorem test_select_write : after (.selectWrite 0x00FA0006) calm (fun t =>
    (t.link.number, t.link.offset, t.link.readAhead, t.readSelect)) = some (6, 250, .refused, 0x00FA0006) := by
  decide +kernel

/-- R135: a DATA read of a refused fetch gives 00h with ACCESS_FAULT and moves the pointer on. -/
theorem test_data_read_refused :
    after .dataRead (calm.onLink fun l => { l with number := 41, offset := 0xFFFF, readAhead := .refused })
      (fun t => (t.link.sdo, t.link.accessFault, t.link.offset)) = some (0, true, 0) := by decide +kernel

/-- Section 8.2, bytes 6 and 7 of the stream: offset 255 of a one-page buffer is accepted, offset 256 is refused. -/
theorem test_data_write_at_the_end :
    after (.dataWrite 1) ((buffer1 .held [4] [] calm).onLink fun l => { l with number := 1, offset := 255 })
      (fun t => (t.link.writeBehind, t.link.accessFault)) = some (some ⟨1, 255, 1⟩, false) ∧
    after (.dataWrite 1) ((buffer1 .held [4] [] calm).onLink fun l => { l with number := 1, offset := 256 })
      (fun t => (t.link.writeBehind, t.link.accessFault)) = some (none, true) := by decide +kernel

/-- Section 7.7, step 1: 600 bytes ask for 3 pages, and COMMAND shows ALLOCATE, PENDING. -/
theorem test_allocate :
    after (.allocate 600) State.reset (fun t => (t.pool.inProgress, t.readCommand)) =
      some (some (.link, 3), 0x02580101) := by decide +kernel

/-- Section 7.7, step 2: buffer 1 with pages 4 to 6, 89 pages and 39 numbers left, ALLOC_DONE set. -/
theorem test_allocation_complete :
    after .allocationComplete (calm.onPool fun p => { p with inProgress := some (.link, 3) })
      (fun t => (t.pool.entry 1, t.pool.freePageCount, t.pool.freeNumberCount, t.link.allocDone)) =
      some (⟨.held, [4, 5, 6], .link, false⟩, 89, 39, true) := by decide +kernel

/-- Section 7.8: with 12 numbers and 9 free pages, 4 pages and the reserve of 8 do not fit. -/
theorem test_allocation_tests :
    calm.pool.allocFailure .link 85 8 = some .noPages ∧ calm.pool.allocFailure .link 8 8 = none ∧
    calm.pool.allocFailure .alert 1 8 = none := by decide +kernel

/-- Section 7.7, step 3. -/
theorem test_submit : after (.submit 1) (buffer1 .held [4] [] calm) (fun t =>
    ((t.pool.entry 1).state, t.pool.orderQueue)) = some (.orderQueued, [1]) := by decide +kernel

/-- Section 7.7, step 5: TAKE_RESULT keep. -/
theorem test_take_result_keep :
    after (.takeResult 0) ((buffer1 .resultQueued [4, 5, 6] [] calm).onPool fun p => { p with resultQueue := [1] })
      (fun t => ((t.pool.entry 1).state, t.pool.takenNumber, t.pool.takenRequester, t.pool.takenPages)) =
      some (.held, 1, .link, 3) := by decide +kernel

/-- R128: an empty Alert Queue refuses with REFUSED_EMPTY. -/
theorem test_take_alert_empty : after (.takeAlert 0) calm (fun t => t.link.command.outcome) = some .refusedEmpty := by
  decide +kernel

/-- Section 7.7, step 8: the buffer is HELD with its release mark, and the outcome is PENDING. -/
theorem test_release : after (.release 1) (buffer1 .held [4] [] calm) (fun t =>
    ((t.pool.entry 1).marked, t.pool.releaseList, t.link.command.outcome)) = some (true, [1], .pending) := by
  decide +kernel

/-- R126: a code that names no command. -/
theorem test_illegal_command : after (.illegalCommand 6 0) calm (fun t => t.link.command.outcome) = some .illegal := by
  decide +kernel

/-- Section 7.7, step 9: the buffer is FREE and 92 pages and 40 numbers are free. -/
theorem test_release_complete :
    after .releaseComplete ((buffer1 .held [4, 5, 6] [] calm).onPool fun p => { p with
      releaseList := [1], hostRelease := some 1, table := p.table.setIfInBounds 0 ⟨.held, [4, 5, 6], .link, true⟩ })
      (fun t => (t.pool.freePageCount, t.pool.freeNumberCount, t.pool.hostRelease)) = some (92, 40, none) := by
  decide +kernel

/-! Orders: the completion code at offset 6 and the detail word at offset 12 of the header (R141, R176). -/

/-- The code and detail of buffer 1 after a command. -/
def ended (c : Instr) (s : State) : Option (Nat × Nat) := after c s fun t => (t.orderByte 1 6, t.orderWord 1 12)

/-- R139, R141: no kind has code 20; the order completes ILLEGAL_ORDER (5). -/
theorem test_illegal_order : (ended (.orderHeadExamine false false) (order1 20 0 0 [] calm)).map Prod.fst = some 5 := by
  decide +kernel

/-- Section 1.10, steps 1 and 2: the table is cleared and FORGET goes out on A. -/
theorem test_enumerate_chain : after .enumerateChain (order1 1 0 0 [] calm) (fun t =>
    (t.chain.enumStatus, t.chain.engine.map fun e => (e.frame, e.port))) = some (.running, some (.forget, .a)) := by
  decide +kernel

/-- R23: the clear option sets the counts to 0. -/
theorem test_read_chain_status :
    after .readChainStatus ((order1 2 0 4 [1, 0, 0, 0] calm).onChain fun c => c.setNode 4 { nodeA 3 16 with
      timeoutCount := 8 }) (fun t => (t.orderByte 1 6, (t.chain.node 4).timeoutCount)) = some (0, 0) := by
  decide +kernel

/-- R22: a block that is not one of the four is RANGE (7). -/
theorem test_write_node_range : (ended .writeNode (order1 3 0 4 [1, 4, 0, 0] calm)).map Prod.fst = some 7 := by
  decide +kernel

/-- R21: 17 words are RANGE (7). -/
theorem test_read_node_range : (ended .readNode (order1 4 0 4 [1, 1, 17, 0] calm)).map Prod.fst = some 7 := by
  decide +kernel

/-- R41: STOP_SAMPLING with the sampler STOPPED completes OK at once, with the number of the last frame. -/
theorem test_stop_sampling_stopped :
    ended .stopSampling ((order1 6 0 0 [] calm).onSeq fun q => { q with frameNumber := 44 }) = some (0, 44) := by
  decide +kernel

/-- Section 3.6, count above 128: RANGE (7). -/
theorem test_snapshot_range : (ended .snapshotHistory (order1 9 0 4 [129, 0, 0, 0] calm)).map Prod.fst = some 7 := by
  decide +kernel

/-- Section 5.11: CLEAR_TRIPS naming CELL_OV with its counter at 4 is STILL_ACTIVE (15), CELL_OV remaining. -/
theorem test_clear_trips_still_active :
    ended (.clearTrips false) ((order1 10 0 4 [1, 0, 0, 0] calm).onProt fun p =>
      (p.setLatch .cellOv (some .orderlyOpen)).setCounter .cellOv 4) = some (15, 1) := by decide +kernel

/-- R99: with the staleness mark STALE the pack is not closed: NO_SUPERVISION (4). -/
theorem test_close_pack_stale : (ended .closePack (order1 11 0 0 [] calm)).map Prod.fst = some 4 := by decide +kernel

/-- Section 6.8 at 0 ms: NEG_CLOSING with NEG alone on. -/
theorem test_close_pack : after .closePack ((order1 11 0 0 [] calm).onProt fun p => { p with stale := false })
    (fun t => (t.cont.state, t.cont.commands)) = some (.negClosing, ⟨false, true, false⟩) := by decide +kernel

/-- Section 7.7, step 4: OPEN_PACK at OPEN completes OK at once. -/
theorem test_open_pack_open : (ended .openPack (order1 12 0 4 [0, 0, 0, 0] calm)).map Prod.fst = some 0 := by
  decide +kernel

/-- R163: a version that is not above the floor is STALE_VERSION (14). -/
theorem test_update_begin_stale :
    (ended .updateBegin (order1 14 0 8 [0, 0, 0, 0, 64, 0, 0, 0] calm)).map Prod.fst = some 14 := by decide +kernel

/-- R165: an offset other than the next is SEQUENCE_ERROR (10). -/
theorem test_update_chunk_sequence :
    (ended .updateChunk (order1 15 0 5 [1, 0, 0, 0, 9] (session .receiving calm))).map Prod.fst = some 10 := by
  decide +kernel

/-- R166: with bytes missing UPDATE_FINISH is INCOMPLETE (11). -/
theorem test_update_finish_incomplete :
    (ended .updateFinish (order1 16 0 0 [] (session .receiving calm))).map Prod.fst = some 11 := by decide +kernel

/-- R170: while LOCKED, UPDATE_ABORT is LOCKED_OUT (3). -/
theorem test_update_abort_locked :
    (ended .updateAbort (order1 17 0 0 [] (session .locked calm))).map Prod.fst = some 3 := by decide +kernel

/-- R168: with no image verified ACTIVATE_PROFILE is REFUSED_STATE (2). -/
theorem test_activate_idle : (ended .activateProfile (order1 18 0 0 [] calm)).map Prod.fst = some 2 := by
  decide +kernel

/-- R171: READ_PROFILE_INFO completes OK while LOCKED. -/
theorem test_read_profile_info :
    (ended .readProfileInfo (order1 19 0 0 [] (session .locked calm))).map Prod.fst = some 0 := by decide +kernel

/-! The chain. -/

/-- R10: a KEEPALIVE that has left port A is watched for. -/
theorem test_transmission_end_watches :
    after .transmissionEnd (busy (engineOf .ringCheck .keepalive .a .sending 0) calm) (fun t =>
      t.chain.engine.map (·.phase)) = some (some .watching) := by decide +kernel

/-- R6, R7: a bad reply is a CRC failure counted at the node, and the frame is sent again. -/
theorem test_bad_reply_is_counted :
    after (.replyReceived .a [0x21, 1, 5, 0, 1, 0x80, 0, 0, 0])
      (busy (engineOf .order (.read 1 .cells 1) .a .awaiting 3) calm) (fun t =>
        ((t.chain.node 1).crcCount, (t.chain.node 1).lastError, t.chain.engine.map (·.attemptsLeft))) =
      some (1, .crc, some 2) := by decide +kernel

/-- R7: a count of 15 stays at 15. -/
theorem test_timeout_count_saturates :
    after .replyTimeout ((busy (engineOf .order (.read 1 .cells 1) .a .awaiting 3) calm).onChain fun c =>
      c.setNode 1 { nodeA 1 1 with timeoutCount := 15 }) (fun t => (t.chain.node 1).timeoutCount) = some 15 := by
  decide +kernel

/-- Section 1.9, frame 100, step 2: nothing arrives within the watch, and the ring state becomes OPEN. -/
theorem test_ring_watch_opens :
    after .ringWatchExpiry (watching .keepalive .ringCheck .closed) (fun t => t.chain.ringState) = some .opened := by
  decide +kernel

/-- Section 1.9, frame 140: the frame comes round and the ring closes with break position 0. -/
theorem test_ring_return_closes :
    after (.ringFrameReturn (ChainFrame.bytes .keepalive)) (watching .keepalive .ringCheck .opened)
      (fun t => (t.chain.ringState, t.chain.breakPos)) = some (.closed, 0) := by decide +kernel

/-- R20: an order that waited its time completes TIMEOUT (9). -/
theorem test_chain_order_wait :
    (ended .chainOrderWaitTimeout ((service1 calm).onChain fun c => { c with
      slot := some ⟨1, .readNode 1 .cells 1, .openEnded, [], false⟩, waitTimer := some 5 })).map Prod.fst = some 9 := by
  decide +kernel

/-! Frames and samples. -/

/-- Section 2.9 at 10 ms: the timer expires while RUNNING, and start-due is set. -/
theorem test_frame_timer_running :
    after .frameTimerExpiry (calm.onSeq fun q => { q with sampler := .running, frameTimer := some 3, period := 10 })
      (fun t => (t.seq.startDue, t.seq.overruns, t.seq.frameTimer)) = some (true, 0, none) := by decide +kernel

/-- Section 2.8: START_SAMPLING at frame number 41 starts frame 42 with tag 42. -/
theorem test_start_sampling :
    after .startSampling ((order1 5 0 8 [0, 0, 0, 0, 100, 0, 0, 0] (sampling calm)).onSeq fun q => { q with
      frameNumber := 41 }) (fun t => (t.seq.sampler, t.seq.frameNumber, t.seq.tag, t.seq.period)) =
      some (.running, 42, 42, 100) := by decide +kernel

/-- Section 3.1, first row, through the sample timer with the profile's gain and offset. -/
theorem test_sample_is_calibrated :
    after (.sampleTimerExpiry ⟨240100, 780000, 1000001⟩) ((calm.onStore fun p => { p with
      inUse := { p.inUse with shuntGain := -420, shuntOffset := -15 } }).onSensing fun x => { x with
      sampleTimer := some 250 }) (fun t => t.sensing.history.map fun e => (e.current, e.packMv, e.linkMv, e.iSat, e.vSat)) =
      some [(239984, 780000, 1000000, false, true)] := by decide +kernel

/-- R54: the eighth sample ends the burst. -/
theorem test_burst_sample_last :
    after (.burstSample ⟨2, 0, 0⟩) ((calm.onSleep fun x => { x with power := .patrol }).onSensing fun x => { x with
      burstTimer := some 250, burstCount := 7 }) (fun t => (t.sensing.burstCount, t.sensing.burstTimer)) =
      some (8, none) := by decide +kernel

/-- R55: a burst begins with an empty history. -/
theorem test_burst_request :
    after (.burstRequest ⟨3, 0, 0⟩) ((calm.onSleep fun x => { x with power := .patrol }).onSensing fun x => { x with
      history := [entry 9 9 9] }) (fun t => t.sensing.history.map (·.current)) = some [3] := by decide +kernel

/-- R55: a wake reason ends the burst, and so does a return to ASLEEP; no sample is taken after it. -/
theorem test_burst_ends_with_patrol :
    after (.lowPowerTick true false) (burstUnderWay (service1 calm)) (fun t =>
      (t.sleep.power, t.sensing.burstTimer, t.sensing.history.length)) = some (.active, none, 0) ∧
    after .transmissionEnd ((sleepFrame .sleep .patrol .patrolSleep).onSensing fun x => { x with
      burstTimer := some 250, history := [entry 1 2 3] }) (fun t =>
      (t.sleep.power, t.sensing.burstTimer, t.sensing.history.length)) = some (.asleep, none, 1) := by decide +kernel

/-! Protection and contactors. -/

/-- R82: the discharge limit itself passes; 1 mA more counts. -/
theorem test_discharge_limit :
    after .historyEntryAtProtection (calm.onTransit fun t => { t with toProtection := [entry 1500000 0 0] })
      (fun t => t.prot.counter .currentDischarge) = some 0 ∧
    after .historyEntryAtProtection (calm.onTransit fun t => { t with toProtection := [entry 1500001 0 0] })
      (fun t => t.prot.counter .currentDischarge) = some 1 := by decide +kernel

/-- Section 6.8 at 180 ms: a link voltage of 741,000 mV at 780,000 mV passes, 740,999 does not. -/
theorem test_precharge_ratio :
    after .historyEntryAtContactor (arriving (entry 0 780000 741000) ((inState .precharging ⟨false, true, true⟩
      ⟨false, true, true⟩ calm).onCont fun c => { c with stepTimer := none })) (fun t =>
        (t.cont.state, t.cont.commands)) = some (.posClosing, ⟨true, true, true⟩) ∧
    after .historyEntryAtContactor (arriving (entry 0 780000 740999) ((inState .precharging ⟨false, true, true⟩
      ⟨false, true, true⟩ calm).onCont fun c => { c with stepTimer := none })) (fun t => t.cont.state) =
      some .precharging := by decide +kernel

/-- Section 6.9 at 119.75 and 120 ms: 61,000 mA fails the hold-off test and 48,500 mA passes it. -/
theorem test_holdoff_current :
    after .historyEntryAtContactor (arriving (entry 61000 780000 780000) (inState .holdoff ⟨true, true, false⟩
      ⟨true, true, false⟩ calm)) (fun t => t.cont.state) = some .holdoff ∧
    after .historyEntryAtContactor (arriving (entry 48500 780000 780000) (inState .holdoff ⟨true, true, false⟩
      ⟨true, true, false⟩ calm)) (fun t => (t.cont.state, t.cont.commands)) =
      some (.posOpening, ⟨false, true, false⟩) := by decide +kernel

/-- R84, R86: the staleness timer expires out of OPEN, and SUPERVISION_LOSS trips. -/
theorem test_staleness_trips :
    after .stalenessTimerExpiry ((inState .closed ⟨true, true, false⟩ ⟨true, true, false⟩ calm).onProt fun p => { p with
      stale := false, stalenessTimer := some 7 }) (fun t => (t.prot.stale, (t.prot.latch .supervisionLoss).isSome)) =
      some (true, true) := by decide +kernel

/-- R88, R85: SAFE_OPEN sets the SAFE_LINE latch with IMMEDIATE_OPEN and asserts the kill gate. -/
theorem test_safe_open :
    after .safeOpenAssertion calm (fun t => (t.prot.latch .safeLine, t.killGate, t.transit.killEdges)) =
      some (some .immediateOpen, true, [true]) := by decide +kernel

/-- R85: the latch keeps the kill gate asserted after SAFE_OPEN's release. -/
theorem test_safe_open_release :
    after .safeOpenDeassertion ((calm.onInputs fun i => { i with pins := { i.pins with safeOpen := true } }).onProt
      fun p => p.setLatch .safeLine (some .immediateOpen)) (fun t => (t.inputs.pins.safeOpen, t.killGate)) =
      some (false, true) := by decide +kernel

/-- R85, R112: SAFE_OPEN asserted and released, with nothing latched and the assertion not yet taken: no command is left to
re-energise a coil. -/
theorem test_safe_open_release_before_the_kill :
    after .safeOpenDeassertion closedUnderWaitingKill (fun t =>
      (t.killGate, t.cont.commands, t.cont.state, t.transit.killEdges)) =
      some (false, ⟨false, false, false⟩, .posOpening, [false]) := by decide +kernel

/-- Section 6.9, last paragraph: a kill in HOLDOFF with 180,000 mA raises OPENED_UNDER_CURRENT, all commands off. -/
theorem test_kill_in_holdoff :
    after .killGateAssertion ((inState .holdoff ⟨true, true, false⟩ ⟨true, true, false⟩ calm).onCont fun c => { c with
      entry := some (entry 180000 0 0) }) (fun t => (t.cont.state, t.cont.commands, t.transit.alerts.map Prod.fst)) =
      some (.posOpening, ⟨false, false, false⟩, [.openedUnderCurrent]) := by decide +kernel

/-- Section 6.9 at 0 ms. -/
theorem test_orderly_demand :
    after .orderlyOpenDemand ((inState .closed ⟨true, true, false⟩ ⟨true, true, false⟩ calm).onTransit fun t => { t with
      demands := 1 }) (fun t => (t.cont.state, t.cont.cause, t.cont.commands)) =
      some (.holdoff, some .orderly, ⟨true, true, false⟩) := by decide +kernel

/-- R96: a new level is held for 1 ms before it is taken. -/
theorem test_aux_edge_is_held :
    after (.auxInputEdge .neg true) calm (fun t => (t.cont.holds.neg.map (·.remaining), t.cont.aux.neg)) =
      some (some 1000, false) := by decide +kernel

/-- Section 6.8 at 12 ms: NEG aux CLOSED taken. -/
theorem test_neg_level_taken :
    after (.auxLevelTaken .neg) (holding .negClosing ⟨false, true, false⟩ ⟨false, false, false⟩ .neg true) (fun t =>
      (t.cont.state, t.cont.commands, t.cont.logs.neg.map (·.closed))) =
      some (.precharging, ⟨false, true, true⟩, [true]) := by decide +kernel

/-- Section 6.9 at 234 ms: the weld window expires, WELD on POS is recorded, all commands off. -/
theorem test_weld_window :
    after .stepTimerExpiry (inState .weldCheck ⟨false, true, false⟩ ⟨false, true, false⟩ calm) (fun t =>
      (t.cont.state, t.cont.commands, t.cont.faults)) = some (.negOpening, ⟨false, false, false⟩, 64) := by
  decide +kernel

/-- R101: the precharge limit is a PRECHARGE_TIMEOUT fault on PRE. -/
theorem test_precharge_timeout :
    after .prechargeTimerExpiry ((inState .precharging ⟨false, true, true⟩ ⟨false, true, true⟩ calm).onCont fun c =>
      { c with prechargeTimer := some 0 }) (fun t => (t.cont.cause, t.cont.faults)) =
      some (some .prechargeTimeout, 2048) := by decide +kernel

/-! Alerts, sleep and the Profile Store. -/

/-- R144: with 16 alerts waiting the next is lost. -/
theorem test_alert_lost :
    after .alertArrival ((calm.onTransit fun t => { t with alerts := [(.tamper, [7])] }).onAlerts fun w => { w with
      pending := List.replicate 16 anAlert }) (fun t => (t.alerts.pending.length, t.alerts.lostCount, t.link.alertLost)) =
      some (16, 1, true) := by decide +kernel

/-- R26: a tick in ASLEEP moves pack time by 1,000 µs. -/
theorem test_tick_asleep : after (.lowPowerTick false false) (asleep calm) (fun t =>
    (t.clock.packTime, t.sleep.maxCount, t.sleep.wakeCount)) = some (1000, 1, 1) := by decide +kernel

/-- R152: WAKE_IN at a tick wakes the part. -/
theorem test_wake_line : after (.lowPowerTick true false) (asleep calm) (fun t =>
    (t.sleep.power, t.sleep.lastReason, t.sleep.wakeOut)) = some (.waking, .wakeLine, true) := by decide +kernel

/-- R154: the wake timer begins a patrol. -/
theorem test_wake_timer : after .wakeTimerExpiry ((asleep calm).onSleep fun x => { x with wakeCount := 59997 })
    (fun t => (t.sleep.power, t.clock.packTime)) = some (.patrol, 3000) := by decide +kernel

/-- R151, R153: with both timers due the latch is taken first, and the max-sleep timer comes before the wake timer. -/
theorem test_tick_order :
    after .wakeTimerExpiry ((asleep calm).onSleep fun x => { x with
      wakeCount := 59999, maxCount := 86399999, tamperLatch := some 7 }) (fun t => t.sleep.lastReason) = some .tamper ∧
    after .wakeTimerExpiry ((asleep calm).onSleep fun x => { x with wakeCount := 59999, maxCount := 86399999 })
      (fun t => t.sleep.lastReason) = some .maxSleep := by decide +kernel

/-- R172: tamper locks updates. -/
theorem test_tamper_locks : after .tamperEventAtProfile (session .verified calm) (fun t =>
    (t.store.session, t.store.bankB.state)) = some (.locked, .invalid) := by decide +kernel

/-- R164: an erase that fails leaves the bank INVALID with WRITE_FAILED (13). -/
theorem test_erase_failed : after (.eraseComplete false) (storing (.erase 1) .idle) (fun t =>
    (t.orderByte 1 6, t.store.bankB.state)) = some (13, .invalid) := by decide +kernel

/-- R165: three bytes programmed from 0 leave the next offset 3. -/
theorem test_program_complete : after (.programComplete true) (storing (.program 1 0 [1, 2, 3]) .receiving) (fun t =>
    (t.orderByte 1 6, t.store.nextOffset)) = some (0, 3) := by decide +kernel

/-- R168: a wait that runs out is TIMEOUT (9), and the session is VERIFIED again. -/
theorem test_activation_timeout :
    after .activationWaitTimeout ((storing (.activate 1) .activationPending).onStore fun p => { p with
      waitTimer := some 4 }) (fun t => (t.orderByte 1 6, t.store.session)) = some (9, .verified) := by decide +kernel

end Sys2Proof.Tests
end

namespace Sys2Proof.Machine

open Sys2Proof

/-! ## Frames of events -/

/-- The frame of a command, block by block. -/
theorem sameExcept_iff {L : List BlockName} {s t : State} : SameExcept L s t ↔
    (.clock ∈ L ∨ t.clock = s.clock) ∧ (.inputs ∈ L ∨ t.inputs = s.inputs) ∧ (.link ∈ L ∨ t.link = s.link) ∧
    (.pool ∈ L ∨ t.pool = s.pool) ∧ (.alerts ∈ L ∨ t.alerts = s.alerts) ∧ (.chain ∈ L ∨ t.chain = s.chain) ∧
    (.seq ∈ L ∨ t.seq = s.seq) ∧ (.sensing ∈ L ∨ t.sensing = s.sensing) ∧ (.table ∈ L ∨ t.table = s.table) ∧
    (.prot ∈ L ∨ t.prot = s.prot) ∧ (.cont ∈ L ∨ t.cont = s.cont) ∧ (.sleep ∈ L ∨ t.sleep = s.sleep) ∧
    (.store ∈ L ∨ t.store = s.store) ∧ (.transit ∈ L ∨ t.transit = s.transit) ∧
    (.pending ∈ L ∨ t.pending = s.pending) := by
  simp only [or_iff_not_imp_left]
  constructor
  · intro h
    exact ⟨h .clock, h .inputs, h .link, h .pool, h .alerts, h .chain, h .seq, h .sensing, h .table, h .prot, h .cont,
      h .sleep, h .store, h .transit, h .pending⟩
  · rintro ⟨h1, h2, h3, h4, h5, h6, h7, h8, h9, h10, h11, h12, h13, h14, h15⟩ b
    cases b <;> assumption

theorem SameExcept.mono {L L' : List BlockName} {s t : State} (h : SameExcept L s t) (hL : ∀ b ∈ L, b ∈ L') :
    SameExcept L' s t := fun b hb => h b fun hbL => hb (hL b hbL)

theorem SameExcept.trans {L : List BlockName} {s t u : State} (h : SameExcept L s t) (h' : SameExcept L t u) :
    SameExcept L s u := by
  intro b hb
  have hst := h b hb
  have htu := h' b hb
  cases b <;> exact Eq.trans htu hst

/-- What other blocks are told of at the end of an event, the same in two states: the kill gate, the sequencer's state
and the sampler's. -/
def State.sameReported (s old : State) : Prop :=
  s.inputs.pins.safeOpen = old.inputs.pins.safeOpen ∧ s.prot.latches = old.prot.latches ∧
  s.cont.state = old.cont.state ∧ s.seq.sampler = old.seq.sampler

/-- An event that changes nothing reportable reports nothing. -/
theorem State.report_of_sameReported {s old : State} (h : s.sameReported old) : s.report old = s := by
  obtain ⟨hline, hlatch, hcont, hseq⟩ := h
  have hgate : s.killGate = old.killGate := by simp [State.killGate, hline, hlatch]
  simp [State.report, hgate, hcont, hseq, State.onTransit]

/-- Such an event ends with the update count as its only further change. -/
theorem State.publish_of_sameReported {s old : State} (h : s.sameReported old) :
    s.publish old = { s with pool := { s.pool with updateCount := (s.publish old).pool.updateCount } } := by
  conv_lhs => rw [State.publish_eq, State.report_of_sameReported h]

theorem State.publish_transit_of_sameReported {s old : State} (h : s.sameReported old) :
    (s.publish old).transit = s.transit := by
  rw [State.publish_of_sameReported h]

/-- The end of an event that reports nothing keeps every block but the pool. -/
theorem SameExcept.publish {L : List BlockName} {s t old : State} (h : SameExcept L s t) (hr : t.sameReported old)
    (hp : .pool ∈ L) : SameExcept L s (t.publish old) := by
  rw [sameExcept_iff] at h ⊢
  simpa [hp, State.publish_transit_of_sameReported hr] using h

/-- The fields that the Status Block shows, the same in two states. -/
def State.sameShown (s old : State) : Prop :=
  s.link.resetCause = old.link.resetCause ∧ s.sleep = old.sleep ∧ s.pool.table = old.pool.table ∧
  s.pool.discarded = old.pool.discarded ∧ s.alerts = old.alerts ∧ s.inputs.pins.safeOpen = old.inputs.pins.safeOpen ∧
  s.prot.latches = old.prot.latches ∧
  (s.cont.state = old.cont.state ∧ s.cont.commands = old.cont.commands ∧ s.cont.aux = old.cont.aux ∧
    s.cont.faults = old.cont.faults ∧ s.cont.weldUnchecked = old.cont.weldUnchecked) ∧
  (s.seq.sampler = old.seq.sampler ∧ s.seq.frameNumber = old.seq.frameNumber ∧ s.seq.overruns = old.seq.overruns ∧
    s.seq.droppedFrames = old.seq.droppedFrames) ∧
  s.store.inUse = old.store.inUse ∧ s.store.session = old.store.session ∧ s.store.bankA = old.store.bankA ∧
  s.store.bankB = old.store.bankB

theorem State.sameShown.sameReported {s old : State} (h : s.sameShown old) : s.sameReported old := by
  obtain ⟨-, -, -, -, -, hline, hlatch, ⟨hcont, -⟩, ⟨hseq, -⟩, -⟩ := h
  exact ⟨hline, hlatch, hcont, hseq⟩

/-- An event that changes no field of the Status Block ends as it is: no report, and the update count stands (R145). -/
theorem State.publish_of_sameShown {s old : State} (h : s.sameShown old) : s.publish old = s := by
  have hr := State.report_of_sameReported h.sameReported
  obtain ⟨hlink, hsleep, htable, hdisc, halerts, hline, hlatch, ⟨hcs, hcc, hca, hcf, hcw⟩, ⟨hq1, hq2, hq3, hq4⟩, huse,
    hsess, hA, hB⟩ := h
  have hgate : s.killGate = old.killGate := by simp [State.killGate, hline, hlatch]
  have hfree : s.pool.freePageCount = old.pool.freePageCount := by
    simp [Pool.freePageCount, Pool.freePages, Pool.pageOwner, Pool.entry, htable]
  have hnumbers : s.pool.freeNumberCount = old.pool.freeNumberCount := by
    simp [Pool.freeNumberCount, Pool.freeNumbers, Pool.entry, htable]
  have hfields : s.statusFields = old.statusFields := by
    simp only [State.statusFields, State.profile, Contactors.faultWord, hlink, hsleep, hdisc, halerts, hcs, hcc, hca, hcf,
      hcw, hq1, hq2, hq3, hq4, huse, hsess, hA, hB, hgate, hfree, hnumbers, hlatch]
  rw [State.publish, hr, State.countUpdate, if_pos ⟨hfields, State.patrolBegan_of_sleep_eq s old hsleep⟩]


/-! ## Time passing (R26) -/

section
variable (s : State) (d : Nat)

@[simp] theorem State.elapse_engine : (s.elapse d).chain.engine = s.chain.engine := by unfold State.elapse; split <;> rfl
@[simp] theorem State.elapse_chainSlot : (s.elapse d).chain.slot = s.chain.slot := by unfold State.elapse; split <;> rfl
@[simp] theorem State.elapse_location : (s.elapse d).chain.location = s.chain.location := by
  unfold State.elapse; split <;> rfl
@[simp] theorem State.elapse_seqRequest : (s.elapse d).chain.seqRequest = s.chain.seqRequest := by
  unfold State.elapse; split <;> rfl
@[simp] theorem State.elapse_sleepRequest : (s.elapse d).chain.sleepRequest = s.chain.sleepRequest := by
  unfold State.elapse; split <;> rfl
@[simp] theorem State.elapse_found : (s.elapse d).chain.found = s.chain.found := by unfold State.elapse; split <;> rfl
@[simp] theorem State.elapse_ringMode : (s.elapse d).chain.ringMode = s.chain.ringMode := by
  unfold State.elapse; split <;> rfl
@[simp] theorem State.elapse_ringState : (s.elapse d).chain.ringState = s.chain.ringState := by
  unfold State.elapse; split <;> rfl
@[simp] theorem State.elapse_breakPos : (s.elapse d).chain.breakPos = s.chain.breakPos := by
  unfold State.elapse; split <;> rfl
@[simp] theorem State.elapse_breakDue : (s.elapse d).chain.breakDue = s.chain.breakDue := by
  unfold State.elapse; split <;> rfl
@[simp] theorem State.elapse_enumStatus : (s.elapse d).chain.enumStatus = s.chain.enumStatus := by
  unfold State.elapse; split <;> rfl
@[simp] theorem State.elapse_issueA : (s.elapse d).chain.issueA = s.chain.issueA := by
  unfold State.elapse; split <;> rfl
@[simp] theorem State.elapse_issueB : (s.elapse d).chain.issueB = s.chain.issueB := by
  unfold State.elapse; split <;> rfl
@[simp] theorem State.elapse_node (n : Nat) : (s.elapse d).chain.node n = s.chain.node n := by simp [Chain.node]

/-- A timer that is stopped stays so, and one that runs goes on. -/
theorem State.elapse_txTimer_none : (s.elapse d).chain.txTimer = none ↔ s.chain.txTimer = none := by
  unfold State.elapse; split <;> simp [State.runTimers, Timer.run, State.onClock]
theorem State.elapse_quietA_none : (s.elapse d).chain.quietA = none ↔ s.chain.quietA = none := by
  unfold State.elapse; split <;> simp [State.runTimers, Timer.run, State.onClock]
theorem State.elapse_quietB_none : (s.elapse d).chain.quietB = none ↔ s.chain.quietB = none := by
  unfold State.elapse; split <;> simp [State.runTimers, Timer.run, State.onClock]
@[simp] theorem State.elapse_quietA_isSome : (s.elapse d).chain.quietA.isSome = s.chain.quietA.isSome := by
  rw [Bool.eq_iff_iff]; simp [Option.isSome_iff_ne_none, State.elapse_quietA_none]
@[simp] theorem State.elapse_quietB_isSome : (s.elapse d).chain.quietB.isSome = s.chain.quietB.isSome := by
  rw [Bool.eq_iff_iff]; simp [Option.isSome_iff_ne_none, State.elapse_quietB_none]
@[simp] theorem State.elapse_quiet (p : Port) : (s.elapse d).chain.quiet p = s.chain.quiet p := by
  cases p <;> simp [Chain.quiet]

@[simp] theorem State.elapse_frame : (s.elapse d).seq.frame = s.seq.frame := by unfold State.elapse; split <;> rfl
@[simp] theorem State.elapse_sampler : (s.elapse d).seq.sampler = s.seq.sampler := by unfold State.elapse; split <;> rfl
@[simp] theorem State.elapse_seqSlot : (s.elapse d).seq.slot = s.seq.slot := by unfold State.elapse; split <;> rfl
@[simp] theorem State.elapse_frameNumber : (s.elapse d).seq.frameNumber = s.seq.frameNumber := by
  unfold State.elapse; split <;> rfl
@[simp] theorem State.elapse_overruns : (s.elapse d).seq.overruns = s.seq.overruns := by unfold State.elapse; split <;> rfl
@[simp] theorem State.elapse_droppedFrames : (s.elapse d).seq.droppedFrames = s.seq.droppedFrames := by
  unfold State.elapse; split <;> rfl
@[simp] theorem State.elapse_inUse : (s.elapse d).store.inUse = s.store.inUse := by unfold State.elapse; split <;> rfl
@[simp] theorem State.elapse_session : (s.elapse d).store.session = s.store.session := by unfold State.elapse; split <;> rfl
@[simp] theorem State.elapse_storeSlot : (s.elapse d).store.slot = s.store.slot := by unfold State.elapse; split <;> rfl
@[simp] theorem State.elapse_bankA : (s.elapse d).store.bankA = s.store.bankA := by unfold State.elapse; split <;> rfl
@[simp] theorem State.elapse_bankB : (s.elapse d).store.bankB = s.store.bankB := by unfold State.elapse; split <;> rfl
@[simp] theorem State.elapse_aux : (s.elapse d).cont.aux = s.cont.aux := by unfold State.elapse; split <;> rfl
@[simp] theorem State.elapse_faults : (s.elapse d).cont.faults = s.cont.faults := by unfold State.elapse; split <;> rfl
@[simp] theorem State.elapse_weldUnchecked : (s.elapse d).cont.weldUnchecked = s.cont.weldUnchecked := by
  unfold State.elapse; split <;> rfl

@[simp] theorem State.elapse_sameShown : (s.elapse d).sameShown s := by simp [State.sameShown]
@[simp] theorem State.elapse_sameReported : (s.elapse d).sameReported s := (s.elapse_sameShown d).sameReported

/-- Time passing neither readies a list nor makes a request. -/
@[simp] theorem State.elapse_listIdle : (s.elapse d).listIdle ↔ s.listIdle := by simp [State.listIdle]
@[simp] theorem State.elapse_workIdle : (s.elapse d).workIdle ↔ s.workIdle := by
  simp [State.workIdle, Chain.noRequest, State.listIdle]
@[simp] theorem State.elapse_memoryOk : (s.elapse d).memoryOk ↔ s.memoryOk := by simp [State.memoryOk]
@[simp] theorem State.elapse_orderByte (n i : Nat) : (s.elapse d).orderByte n i = s.orderByte n i := by
  simp [State.orderByte]
@[simp] theorem State.elapse_quietOrder (n : Nat) : (s.elapse d).quiet n = s.quiet n := by simp [State.quiet]
@[simp] theorem State.elapse_answerRoom (n : Nat) : (s.elapse d).answerRoom n = s.answerRoom n := by
  simp [State.answerRoom]

end

/-! ## Bytes and numbers (R174) -/

@[simp] theorem leBytes_length (k v : Nat) : (leBytes k v).length = k := by
  induction k generalizing v with
  | zero => rfl
  | succ k ih => simp [leBytes, ih]

/-- A little-endian field spells the number it holds, as far as its bytes reach. -/
theorem ofLe_leBytes (k v : Nat) : ofLe (leBytes k v) = v % 256 ^ k := by
  induction k generalizing v with
  | zero => simp [leBytes, ofLe, Nat.mod_one]
  | succ k ih =>
    rw [leBytes, ofLe, ih, Nat.pow_succ', Nat.mod_mul]
    simp

@[simp] theorem ofLe_leBytes_half (v : Half) : ofLe (leBytes 2 v.toNat) = v.toNat := by
  rw [ofLe_leBytes]; exact Nat.mod_eq_of_lt v.isLt

@[simp] theorem ofLe_leBytes_word (v : Word) : ofLe (leBytes 4 v.toNat) = v.toNat := by
  rw [ofLe_leBytes]; exact Nat.mod_eq_of_lt v.isLt

/-- The bytes of a buffer are read one by one. -/
theorem Pool.bytes_eq_of_readBuffer {p : Pool} {n o : Nat} {bs : List Byte}
    (h : ∀ i (hi : i < bs.length), p.readBuffer n (o + i) = bs[i]) : p.bytes n o bs.length = bs := by
  induction bs generalizing o with
  | nil => rfl
  | cons b bs ih =>
    have h0 := h 0 (by simp)
    have hrest := ih (o := o + 1) fun i hi => by
      have := h (i + 1) (by simpa using hi)
      rw [show o + 1 + i = o + (i + 1) by omega]
      simpa using this
    simp only [List.length_cons, Pool.bytes, hrest]
    simpa using h0

/-- A 16-bit number whose two bytes stand in a buffer. -/
theorem State.orderHalf_of_readBuffer {s : State} {n o : Nat} {bs : List Byte} (hl : bs.length = 2)
    (h : ∀ i (hi : i < bs.length), s.pool.readBuffer n (o + i) = bs[i]) : s.orderHalf n o = ofLe bs := by
  rw [State.orderHalf, ← hl, Pool.bytes_eq_of_readBuffer h]

/-- A 32-bit number whose four bytes stand in a buffer. -/
theorem State.orderWord_of_readBuffer {s : State} {n o : Nat} {bs : List Byte} (hl : bs.length = 4)
    (h : ∀ i (hi : i < bs.length), s.pool.readBuffer n (o + i) = bs[i]) : s.orderWord n o = ofLe bs := by
  rw [State.orderWord, ← hl, Pool.bytes_eq_of_readBuffer h]

/-! ## The completion of an order (R141) -/

/-- A sound buffer's number is one of the 40, since the others have no pages. -/
theorem Pool.sound.range {p : Pool} {n : Nat} (h : p.sound n) : 1 ≤ n ∧ n ≤ 40 := by
  obtain ⟨hne, -⟩ := h
  by_contra hn
  apply hne
  unfold Pool.entry
  split
  · rfl
  · have : 40 ≤ n - 1 := by omega
    simp [this, BufferEntry.reset]

/-- A sound buffer has room for its header. -/
theorem Pool.sound.capacity {p : Pool} {n : Nat} (h : p.sound n) : 256 ≤ (p.entry n).capacity := by
  have : 0 < (p.entry n).pages.length := List.length_pos_iff.mpr h.1
  simp only [BufferEntry.capacity]
  omega

/-- The pages of a buffer lie in exchange memory. -/
theorem Pool.pagesOk.lt {p : Pool} (h : p.pagesOk) (n : Nat) : ∀ q ∈ (p.entry n).pages, q < 96 := by
  intro q hq
  unfold Pool.entry at hq
  split at hq
  · simp [BufferEntry.reset] at hq
  · cases he : p.table[n - 1]? with
    | none => simp [he, BufferEntry.reset] at hq
    | some e =>
      obtain ⟨hi, rfl⟩ := Vector.getElem?_eq_some_iff.mp he
      rw [he] at hq
      exact (h _ (by simp) q hq).2

/-- A buffer's bytes follow its pages and exchange memory alone. -/
theorem Pool.readBuffer_congr {p q : Pool} {n : Nat} (hm : q.memory = p.memory)
    (hp : (q.entry n).pages = (p.entry n).pages) (o : Nat) : q.readBuffer n o = p.readBuffer n o := by
  simp [Pool.readBuffer, BufferEntry.address, hm, hp]

/-- An entry that keeps its pages keeps those of every buffer. -/
theorem Pool.setEntry_pages (p : Pool) (n m : Nat) (e : BufferEntry) (h : e.pages = (p.entry n).pages) :
    ((p.setEntry n e).entry m).pages = (p.entry m).pages := by
  by_cases hmn : m = n
  · subst hmn
    by_cases hr : 1 ≤ m ∧ m ≤ 40
    · rw [Pool.entry_setEntry_self p e hr, h]
    · have hr : m = 0 ∨ 40 ≤ m - 1 := by omega
      rcases hr with rfl | hr
      · rfl
      · have hs : ¬ m - 1 < 40 := by omega
        simp only [Pool.setEntry, Pool.entry]
        split <;> simp_all
  · rw [Pool.entry_setEntry_other p e hmn]

@[simp] theorem Pool.beginRelease_pages (p : Pool) (n m : Nat) :
    ((p.beginRelease n).entry m).pages = (p.entry m).pages := p.setEntry_pages n m _ rfl
@[simp] theorem Pool.queueResult_pages (p : Pool) (n m : Nat) :
    ((p.queueResult n).entry m).pages = (p.entry m).pages := p.setEntry_pages n m _ rfl
@[simp] theorem Pool.takeHead_pages (p : Pool) (n m : Nat) :
    ((p.takeHead n).entry m).pages = (p.entry m).pages := p.setEntry_pages n m _ rfl

@[simp] theorem Pool.beginRelease_memory (p : Pool) (n : Nat) : (p.beginRelease n).memory = p.memory := by
  simp [Pool.beginRelease]
@[simp] theorem Pool.queueResult_memory (p : Pool) (n : Nat) : (p.queueResult n).memory = p.memory := by
  simp [Pool.queueResult]
@[simp] theorem Pool.takeHead_memory (p : Pool) (n : Nat) : (p.takeHead n).memory = p.memory := by
  simp [Pool.takeHead]
@[simp] theorem Pool.takeHead_orderQueue (p : Pool) (n : Nat) : (p.takeHead n).orderQueue = p.orderQueue.tail := by
  simp [Pool.takeHead]
@[simp] theorem Pool.takeHead_resultQueue (p : Pool) (n : Nat) : (p.takeHead n).resultQueue = p.resultQueue := by
  simp [Pool.takeHead]
@[simp] theorem Pool.takeHead_releaseList (p : Pool) (n : Nat) : (p.takeHead n).releaseList = p.releaseList := by
  simp [Pool.takeHead]

@[simp] theorem Pool.takeHead_readBuffer (p : Pool) (n m o : Nat) :
    (p.takeHead n).readBuffer m o = p.readBuffer m o := Pool.readBuffer_congr (by simp) (by simp) o

/-- A write into a buffer changes exchange memory alone. -/
theorem Pool.writeBuffer_eq (p : Pool) (n o : Nat) (bs : List Byte) :
    p.writeBuffer n o bs = { p with memory := (p.writeBuffer n o bs).memory } := by
  induction bs generalizing p o with
  | nil => rfl
  | cons b bs ih =>
    rw [Pool.writeBuffer, ih]
    unfold Pool.writeByte
    split <;> rfl

theorem Pool.completed_eq (p : Pool) (n : Nat) (answer header : List Byte) :
    p.completed n answer header = { p with memory := (p.completed n answer header).memory } := by
  obtain ⟨m, hm⟩ : ∃ m, p.writeBuffer n 16 answer = { p with memory := m } := ⟨_, Pool.writeBuffer_eq ..⟩
  rw [Pool.completed, hm]
  exact Pool.writeBuffer_eq ..

section
variable (s : State) (n : Nat) (code : Completion) (detail : Word) (answer : List Byte) (clamped truncated : Bool)

/-- A completion changes the pool alone. -/
theorem State.complete_pool_only : s.complete n code detail answer clamped truncated =
    { s with pool := (s.complete n code detail answer clamped truncated).pool } := rfl

@[simp] theorem State.complete_clock : (s.complete n code detail answer clamped truncated).clock = s.clock := rfl
@[simp] theorem State.complete_inputs : (s.complete n code detail answer clamped truncated).inputs = s.inputs := rfl
@[simp] theorem State.complete_link : (s.complete n code detail answer clamped truncated).link = s.link := rfl
@[simp] theorem State.complete_alerts : (s.complete n code detail answer clamped truncated).alerts = s.alerts := rfl
@[simp] theorem State.complete_chain : (s.complete n code detail answer clamped truncated).chain = s.chain := rfl
@[simp] theorem State.complete_seq : (s.complete n code detail answer clamped truncated).seq = s.seq := rfl
@[simp] theorem State.complete_sensing : (s.complete n code detail answer clamped truncated).sensing = s.sensing := rfl
@[simp] theorem State.complete_table : (s.complete n code detail answer clamped truncated).table = s.table := rfl
@[simp] theorem State.complete_prot : (s.complete n code detail answer clamped truncated).prot = s.prot := rfl
@[simp] theorem State.complete_cont : (s.complete n code detail answer clamped truncated).cont = s.cont := rfl
@[simp] theorem State.complete_sleep : (s.complete n code detail answer clamped truncated).sleep = s.sleep := rfl
@[simp] theorem State.complete_store : (s.complete n code detail answer clamped truncated).store = s.store := rfl
@[simp] theorem State.complete_transit : (s.complete n code detail answer clamped truncated).transit = s.transit := rfl
@[simp] theorem State.complete_pending : (s.complete n code detail answer clamped truncated).pending = s.pending := rfl

/-- The bytes of every buffer after a completion are those of the answer and the header written. -/
theorem State.complete_readBuffer (m o : Nat) :
    (s.complete n code detail answer clamped truncated).pool.readBuffer m o =
      (s.pool.completed n answer (completionHeader s code detail clamped truncated)).readBuffer m o := by
  rw [State.complete_eq]
  dsimp only
  split <;> exact Pool.readBuffer_congr (by simp) (by simp) o

@[simp] theorem State.complete_pages (m : Nat) :
    ((s.complete n code detail answer clamped truncated).pool.entry m).pages = (s.pool.entry m).pages := by
  rw [State.complete_eq]
  dsimp only
  split <;> simp

theorem State.complete_entry_other {m : Nat} (h : m ≠ n) :
    (s.complete n code detail answer clamped truncated).pool.entry m = s.pool.entry m := by
  rw [State.complete_eq]
  dsimp only
  split
  · exact (Pool.entry_setEntry_other _ _ h).trans (by simp)
  · exact (Pool.entry_setEntry_other _ _ h).trans (by simp)

@[simp] theorem State.complete_orderQueue :
    (s.complete n code detail answer clamped truncated).pool.orderQueue = s.pool.orderQueue := by
  rw [State.complete_eq]
  dsimp only
  rw [Pool.completed_eq]
  split <;> simp [Pool.beginRelease, Pool.queueResult]

/-- Where the buffer goes: a release begins for a QUIET order that is OK, else it joins the Result Queue (R141). -/
theorem State.complete_joins (hn : 1 ≤ n ∧ n ≤ 40) :
    if s.quiet n = true ∧ code = .ok then
      ((s.complete n code detail answer clamped truncated).pool.entry n).state = .held ∧
      ((s.complete n code detail answer clamped truncated).pool.entry n).marked = true ∧
      (s.complete n code detail answer clamped truncated).pool.releaseList = s.pool.releaseList ++ [n] ∧
      (s.complete n code detail answer clamped truncated).pool.resultQueue = s.pool.resultQueue
    else ((s.complete n code detail answer clamped truncated).pool.entry n).state = .resultQueued ∧
      (s.complete n code detail answer clamped truncated).pool.resultQueue = s.pool.resultQueue ++ [n] ∧
      (s.complete n code detail answer clamped truncated).pool.releaseList = s.pool.releaseList := by
  rw [State.complete_eq]
  set p := s.pool.completed n answer (completionHeader s code detail clamped truncated) with hp
  have hr : p.releaseList = s.pool.releaseList := by rw [hp, Pool.completed_eq]
  have hq : p.resultQueue = s.pool.resultQueue := by rw [hp, Pool.completed_eq]
  obtain ⟨r1, r2, -, -, -, r3, -⟩ := p.beginRelease_spec hn
  obtain ⟨q1, q2, -, -, -, q3, -⟩ := p.queueResult_spec hn
  by_cases hquiet : s.quiet n = true ∧ code = .ok
  · obtain ⟨h1, h2⟩ := hquiet
    simp [h1, h2, r1, r2, r3, hr, hq]
  · have : ¬ (s.quiet n && code == .ok) = true := by simpa using hquiet
    simp only [if_neg hquiet, if_neg this]
    exact ⟨by rw [q1], by rw [q2, hq], by rw [q3, hr]⟩

variable {s n}

/-- The header bytes that a completion writes are read back (R141). -/
theorem State.complete_header (hm : s.memoryOk) (hn : s.pool.sound n) {i : Nat} (hi : i < 10) :
    (s.complete n code detail answer clamped truncated).pool.readBuffer n (6 + i) =
      (completionHeader s code detail clamped truncated)[i]'(by simpa using hi) := by
  have hc := hn.capacity
  rw [State.complete_readBuffer]
  exact Pool.completed_header answer _ hm.1 (hm.2.1.lt n) hn.2 _ (by omega)

/-- The bytes of the answer are read back, as far as the buffer reaches (R141). -/
theorem State.complete_answer (hm : s.memoryOk) (hn : s.pool.sound n) {i : Nat} (hi : i < answer.length)
    (hc : 16 + i < (s.pool.entry n).capacity) :
    (s.complete n code detail answer clamped truncated).pool.readBuffer n (16 + i) = answer[i] := by
  rw [State.complete_readBuffer]
  exact Pool.completed_answer answer _ hm.1 (hm.2.1.lt n) hn.2 (by simp) hi hc

end

/-- The pool behind a completion, the update count aside, shows the order completed (R141). -/
theorem State.completed_of_complete {s t : State} {n : Nat} (code : Completion) (detail : Word) (answer : List Byte)
    (clamped truncated : Bool) (hm : s.memoryOk) (hn : s.pool.sound n) (hnow : t.now = s.now)
    (hbytes : ∀ i, t.pool.readBuffer n i =
      (s.complete n code detail answer clamped truncated).pool.readBuffer n i)
    (hentry : t.pool.entry n = (s.complete n code detail answer clamped truncated).pool.entry n)
    (hresult : t.pool.resultQueue = (s.complete n code detail answer clamped truncated).pool.resultQueue)
    (hrelease : t.pool.releaseList = (s.complete n code detail answer clamped truncated).pool.releaseList) :
    Completed s t n code detail (boolCode clamped + 2 * boolCode truncated) := by
  have header {i : Nat} (hi : i < 10) : t.pool.readBuffer n (6 + i) = _ :=
    (hbytes _).trans (State.complete_header code detail answer clamped truncated hm hn hi)
  refine ⟨?_, ?_, ?_, ?_, ?_, ?_⟩
  · have := header (i := 0) (by omega)
    rw [State.orderByte, show 6 = 6 + 0 from rfl, this]
    cases code <;> rfl
  · have := header (i := 1) (by omega)
    rw [State.orderByte, show 7 = 6 + 1 from rfl, this]
    cases clamped <;> cases truncated <;> rfl
  · rw [State.orderWord_of_readBuffer (bs := leBytes 4 s.now.toNat) (by simp), ofLe_leBytes_word, hnow]
    intro i hi
    have hi4 : i < 4 := by simpa using hi
    rw [show 8 + i = 6 + (2 + i) by omega, header (by omega)]
    simp only [completionHeader, Nat.add_comm 2 i, List.getElem_cons_succ]
    exact List.getElem_append_left hi
  · rw [State.orderWord_of_readBuffer (bs := leBytes 4 detail.toNat) (by simp), ofLe_leBytes_word]
    intro i hi
    have hi4 : i < 4 := by simpa using hi
    rw [show 12 + i = 6 + (4 + i + 2) by omega, header (by omega)]
    simp only [completionHeader, List.getElem_cons_succ]
    rw [List.getElem_append_right (by simp)]
    simp
  · intro i hi
    rw [State.orderByte, hbytes, State.complete_readBuffer, Pool.completed_low _ _ hn.2 hi]
    rfl
  · rw [hentry, hresult, hrelease]
    exact State.complete_joins s n code detail answer clamped truncated hn.range

end Sys2Proof.Machine

namespace Sys2Proof.Machine

open Sys2Proof

/-! ## What follows an event, piece by piece (R8, R32) -/

theorem State.settleN_of_some {s s' : State} (k : Nat) (h : s.settleStep = some s') :
    s.settleN (k + 1) = s'.settleN k := by rw [State.settleN, h]

theorem State.settleN_of_none {s : State} (k : Nat) (h : s.settleStep = none) : s.settleN k = s := by
  cases k with
  | zero => rfl
  | succ k => rw [State.settleN, h]

/-- One piece of work, behind which nothing follows. -/
theorem State.settle_of_one {s s' : State} (h : s.settleStep = some s') (h' : s'.settleStep = none) :
    s.settle = s' := by
  rw [State.settle, State.settleN_of_some 4095 h, State.settleN_of_none _ h']

/-- Two pieces of work, behind which nothing follows. -/
theorem State.settle_of_two {s s' s'' : State} (h : s.settleStep = some s') (h' : s'.settleStep = some s'')
    (h'' : s''.settleStep = none) : s.settle = s'' := by
  rw [State.settle, State.settleN_of_some 4095 h, State.settleN_of_some 4094 h', State.settleN_of_none _ h'']

/-- With no list ready the work is the arbiter's. -/
theorem State.settleStep_of_listIdle {s : State} (h : s.listIdle) : s.settleStep = s.grantChain := by
  unfold State.settleStep
  cases hf : s.seq.frame with
  | none => rfl
  | some f =>
    have := h f (by simp [hf])
    simp [this.1, this.2]

/-- With the engine busy nothing follows, where no list is ready. -/
theorem State.settleStep_of_engine {s : State} (h : s.listIdle) (he : s.chain.engine.isSome = true) :
    s.settleStep = none := State.settleStep_of_workIdle ⟨h, .inl he⟩

/-- No grant is made while a frame runs with an order alone waiting. -/
theorem State.candidate_running {s : State} (h : s.onlyOrderWaits) (hr : s.seq.sampler = .running) :
    s.candidate = none := by
  obtain ⟨-, h1, h2, h3⟩ := h
  unfold State.candidate
  cases hs : s.chain.slot <;> simp [h1, h2, h3, hr]

/-- The order in the slot is the candidate where it alone waits and no frame runs (R8). -/
theorem State.candidate_order {s : State} {o : ChainOrder} (h : s.onlyOrderWaits) (hs : s.chain.slot = some o)
    (hr : s.seq.sampler ≠ .running) : s.candidate = some (s.grantOrder o) := by
  obtain ⟨-, h1, h2, h3⟩ := h
  simp [State.candidate, h1, h2, h3, hs, hr]

/-- A grant that puts a frame on a port at once is made; one onto a port in its quiet time is not (R4). -/
theorem State.grantChain_of_candidate {s s' : State} (he : s.chain.engine = none) (ht : s.taking)
    (hp : s.sleep.power ≠ .asleep) (hc : s.candidate = some s') :
    s.grantChain = if s'.chain.engine.isSome && s'.chain.txTimer.isNone then none else some s' := by
  have ht : s.inputs.inReset = false := ht
  simp [State.grantChain, he, ht, hp, hc]

/-- In ASLEEP, or with no candidate, no grant is made. -/
theorem State.grantChain_none {s : State} (h : s.chain.engine.isSome = true ∨ s.sleep.power = .asleep ∨ s.candidate = none) :
    s.grantChain = none := by
  unfold State.grantChain
  rcases h with h | h | h <;> simp [h]

/-! ## The taking of an order (R139, R140) -/

/-- The state with the head order's buffer in service, as its owner finds it (R139). -/
def State.taken (s : State) (n : Nat) : State := s.onPool fun p => p.takeHead n

section
variable (s : State) (n : Nat)

@[simp] theorem State.taken_clock : (s.taken n).clock = s.clock := rfl
@[simp] theorem State.taken_inputs : (s.taken n).inputs = s.inputs := rfl
@[simp] theorem State.taken_link : (s.taken n).link = s.link := rfl
@[simp] theorem State.taken_alerts : (s.taken n).alerts = s.alerts := rfl
@[simp] theorem State.taken_chain : (s.taken n).chain = s.chain := rfl
@[simp] theorem State.taken_seq : (s.taken n).seq = s.seq := rfl
@[simp] theorem State.taken_sensing : (s.taken n).sensing = s.sensing := rfl
@[simp] theorem State.taken_table : (s.taken n).table = s.table := rfl
@[simp] theorem State.taken_prot : (s.taken n).prot = s.prot := rfl
@[simp] theorem State.taken_cont : (s.taken n).cont = s.cont := rfl
@[simp] theorem State.taken_sleep : (s.taken n).sleep = s.sleep := rfl
@[simp] theorem State.taken_store : (s.taken n).store = s.store := rfl
@[simp] theorem State.taken_transit : (s.taken n).transit = s.transit := rfl
@[simp] theorem State.taken_pending : (s.taken n).pending = s.pending := rfl
@[simp] theorem State.taken_memory : (s.taken n).pool.memory = s.pool.memory := by simp [State.taken]
@[simp] theorem State.taken_orderQueue : (s.taken n).pool.orderQueue = s.pool.orderQueue.tail := by simp [State.taken]
@[simp] theorem State.taken_resultQueue : (s.taken n).pool.resultQueue = s.pool.resultQueue := by simp [State.taken]
@[simp] theorem State.taken_releaseList : (s.taken n).pool.releaseList = s.pool.releaseList := by simp [State.taken]
@[simp] theorem State.taken_pages (m : Nat) : ((s.taken n).pool.entry m).pages = (s.pool.entry m).pages := by
  simp [State.taken]

theorem State.taken_entry_self (h : 1 ≤ n ∧ n ≤ 40) :
    (s.taken n).pool.entry n = { s.pool.entry n with state := .inService } := Pool.entry_setEntry_self _ _ h

theorem State.taken_entry_other {m : Nat} (h : m ≠ n) : (s.taken n).pool.entry m = s.pool.entry m :=
  Pool.entry_setEntry_other _ _ h

@[simp] theorem State.taken_readBuffer (m o : Nat) : (s.taken n).pool.readBuffer m o = s.pool.readBuffer m o := by
  simp [State.taken]

@[simp] theorem State.taken_orderByte (m i : Nat) : (s.taken n).orderByte m i = s.orderByte m i := by
  simp [State.orderByte]

theorem Pool.bytes_congr {p q : Pool} {m : Nat} (h : ∀ o, p.readBuffer m o = q.readBuffer m o) (o k : Nat) :
    p.bytes m o k = q.bytes m o k := by
  induction k generalizing o with
  | zero => rfl
  | succ k ih => rw [Pool.bytes, Pool.bytes, h, ih]

@[simp] theorem State.taken_orderHalf (m i : Nat) : (s.taken n).orderHalf m i = s.orderHalf m i := by
  simp only [State.orderHalf, Pool.bytes_congr (s.taken_readBuffer n m)]
@[simp] theorem State.taken_orderWord (m i : Nat) : (s.taken n).orderWord m i = s.orderWord m i := by
  simp only [State.orderWord, Pool.bytes_congr (s.taken_readBuffer n m)]
@[simp] theorem State.taken_body8 (m i : Nat) : (s.taken n).body8 m i = s.body8 m i := by simp [State.body8]
@[simp] theorem State.taken_body16 (m i : Nat) : (s.taken n).body16 m i = s.body16 m i := by simp [State.body16]
@[simp] theorem State.taken_body32 (m i : Nat) : (s.taken n).body32 m i = s.body32 m i := by simp [State.body32]
@[simp] theorem State.taken_quiet (m : Nat) : (s.taken n).quiet m = s.quiet m := by simp [State.quiet]
@[simp] theorem State.taken_answerRoom (m : Nat) : (s.taken n).answerRoom m = s.answerRoom m := by
  simp [State.answerRoom, BufferEntry.capacity]
@[simp] theorem State.taken_headerCheck (m : Nat) (k : OrderKind) : (s.taken n).headerCheck m k = s.headerCheck m k := by
  have hc : ((s.taken n).pool.entry m).capacity = (s.pool.entry m).capacity := by simp [BufferEntry.capacity]
  unfold State.headerCheck
  rw [State.taken_orderHalf, State.taken_orderByte, hc]
@[simp] theorem State.taken_sound (m : Nat) : (s.taken n).pool.sound m ↔ s.pool.sound m := by simp [Pool.sound]

end

/-- The page lists of the table, buffer by buffer. -/
theorem Pool.pagesOk_iff {p : Pool} : p.pagesOk ↔ ∀ n, ∀ q ∈ (p.entry n).pages, 4 ≤ q ∧ q < 96 := by
  constructor
  · intro h n q hq
    unfold Pool.entry at hq
    split at hq
    · simp [BufferEntry.reset] at hq
    · cases he : p.table[n - 1]? with
      | none => simp [he, BufferEntry.reset] at hq
      | some e =>
        obtain ⟨hi, rfl⟩ := Vector.getElem?_eq_some_iff.mp he
        rw [he] at hq
        exact h _ (by simp) q hq
  · intro h e he q hq
    obtain ⟨i, hi, rfl⟩ := Vector.mem_iff_getElem.mp (Vector.mem_toList_iff.mp he)
    exact h (i + 1) q (by simpa [Pool.entry, hi] using hq)

@[simp] theorem State.taken_memoryOk (s : State) (n : Nat) : (s.taken n).memoryOk ↔ s.memoryOk := by
  simp [State.memoryOk, Pool.pagesOk_iff]

/-- What the taking says of the line, the head and the power state. -/
theorem State.orderTaken.taking {s : State} {n : Nat} {k : OrderKind} (h : s.orderTaken n k) :
    s.taking ∧ s.sleep.power = .active ∧ s.pool.orderQueue.head? = some n ∧ (1 ≤ n ∧ n ≤ 40) ∧ s.slotFree k = true := by
  obtain ⟨hactive, hhead, hn, -, hfree, -⟩ := h
  simp only [State.activeNow, Bool.and_eq_true, Bool.not_eq_true', beq_iff_eq] at hactive
  exact ⟨hactive.2, hactive.1, hhead, hn, hfree⟩

theorem State.orderTaken.range {s : State} {n : Nat} {k : OrderKind} (h : s.orderTaken n k) : 1 ≤ n ∧ n ≤ 40 := by
  obtain ⟨-, -, -, hrange, -⟩ := h.taking
  exact hrange

theorem State.orderTaken.slotFree {s : State} {n : Nat} {k : OrderKind} (h : s.orderTaken n k) :
    s.slotFree k = true := by
  obtain ⟨-, -, -, -, hfree⟩ := h.taking
  exact hfree

/-- The examination finds the order at the head and its owner takes it. -/
theorem State.examineKind_taken {s : State} {n : Nat} {k : OrderKind} (h : s.orderTaken n k) :
    s.examineKind k = (s.taken n).takeKind k n := by
  obtain ⟨hactive, hhead, -, hkind, hfree, hcheck⟩ := h
  have hc : (s.taken n).headerCheck n k = 0 := by rw [State.taken_headerCheck, hcheck]
  simp only [State.taken] at hc
  simp [State.examineKind, State.headOrder, State.examineHead, hhead, hkind, hactive, hfree, State.takeHeadOrder, hc,
    State.taken]

/-- The row of an order: its owner takes it, and the work that follows is run. -/
theorem State.orderEvent_taken {s : State} {n : Nat} {k : OrderKind} (h : s.orderTaken n k) :
    s.orderEvent k = .next ((((s.taken n).takeKind k n).settle).publish s) := by
  rw [State.orderEvent, State.event_taking _ h.taking.1, State.examineKind_taken h]

/-- An order completed behind the taking of another, or at its own, is completed as seen from before that taking. -/
theorem State.completed_of_taken {s t : State} {n m : Nat} {code : Completion} {detail : Word} {flags : Nat}
    (h : Completed (s.taken n) t m code detail flags) : Completed s t m code detail flags := by
  obtain ⟨h6, h7, h8, h12, hlow, hjoin⟩ := h
  exact ⟨h6, h7, h8, h12, by simpa using hlow, by simpa using hjoin⟩

/-- The end of an event shows an order completed whose completion is the event's last change of the pool. -/
theorem State.completed_publish {s u old : State} {n : Nat} (code : Completion) (detail : Word) (answer : List Byte)
    (clamped truncated : Bool) (hm : s.memoryOk) (hn : s.pool.sound n) (hclock : u.clock = s.clock)
    (hpool : u.pool = (s.complete n code detail answer clamped truncated).pool) :
    Completed s (u.publish old) n code detail (boolCode clamped + 2 * boolCode truncated) :=
  State.completed_of_complete code detail answer clamped truncated hm hn (by simp [hclock]) (by simp [hpool])
    (by simp [hpool]) (by simp [hpool]) (by simp [hpool])

/-- The same of an order that its owner completes at its taking. -/
theorem State.completed_publish_taken {s u old : State} {n : Nat} (code : Completion) (detail : Word)
    (answer : List Byte) (clamped truncated : Bool) (hm : s.memoryOk) (hn : s.pool.sound n) (hclock : u.clock = s.clock)
    (hpool : u.pool = ((s.taken n).complete n code detail answer clamped truncated).pool) :
    Completed s (u.publish old) n code detail (boolCode clamped + 2 * boolCode truncated) :=
  State.completed_of_taken (State.completed_publish code detail answer clamped truncated (by simpa using hm)
    (by simpa using hn) hclock hpool)

/-- An order that its owner only keeps is in service (R139). -/
theorem State.inService_publish_taken {s u old : State} {n : Nat} (h : 1 ≤ n ∧ n ≤ 40)
    (hpool : u.pool = (s.taken n).pool) : InService s (u.publish old) n := by
  simp [InService, hpool, State.taken_entry_self s n h]

/-- The event in which an order's owner completes it at the taking, with nothing that the engine could serve behind it;
`old` is the state that the event began with. -/
theorem State.publish_refused {s old : State} {n : Nat} (hm : s.memoryOk) (hn : s.pool.sound n) (hw : s.workIdle)
    (hr : s.sameReported old) (code : Completion) (detail : Word) (answer : List Byte) (clamped truncated : Bool) :
    ∃ t, (State.settle ((s.taken n).complete n code detail answer clamped truncated)).publish old = t ∧
      Completed s t n code detail (boolCode clamped + 2 * boolCode truncated) ∧ SameExcept [.pool] s t ∧
      ∀ i (hi : i < answer.length), 16 + i < (s.pool.entry n).capacity → t.pool.readBuffer n (16 + i) = answer[i] := by
  have hsettle : State.settle ((s.taken n).complete n code detail answer clamped truncated) =
      (s.taken n).complete n code detail answer clamped truncated := State.settle_of_workIdle hw
  rw [hsettle]
  refine ⟨_, rfl, State.completed_publish_taken code detail answer clamped truncated hm hn rfl rfl, ?_, ?_⟩
  · exact SameExcept.publish (by simp [sameExcept_iff]) hr (by simp)
  · intro i hi hc
    rw [State.publish_readBuffer]
    exact State.complete_answer code detail answer clamped truncated (by simpa using hm) (by simpa using hn) hi
      (by simpa [BufferEntry.capacity] using hc)

/-- The row of such an order. -/
theorem State.order_refused {s : State} {n : Nat} {k : OrderKind} (h : s.orderTaken n k) (hm : s.memoryOk)
    (hn : s.pool.sound n) (hw : s.workIdle) {code : Completion} {detail : Word} {answer : List Byte}
    {clamped truncated : Bool}
    (hk : (s.taken n).takeKind k n = (s.taken n).complete n code detail answer clamped truncated) :
    ∃ t, s.orderEvent k = .next t ∧ Completed s t n code detail (boolCode clamped + 2 * boolCode truncated) ∧
      SameExcept [.pool] s t ∧
      ∀ i (hi : i < answer.length), 16 + i < (s.pool.entry n).capacity → t.pool.readBuffer n (16 + i) = answer[i] := by
  obtain ⟨t, hpub, hspec⟩ := State.publish_refused hm hn hw (old := s) (by simp [State.sameReported]) code detail answer
    clamped truncated
  exact ⟨t, by rw [State.orderEvent_taken h, hk, hpub], hspec⟩

end Sys2Proof.Machine

namespace Sys2Proof.Machine

open Sys2Proof

/-! ## Payloads and detail words (R174) -/

/-- A byte field of a number. -/
theorem leSigned_one (n : Nat) : leSigned 1 (n : Int) = [BitVec.ofNat 8 n] := by
  have : ((n : Int) % ((2 ^ (8 * 1) : Nat) : Int)).toNat = n % 256 := by omega
  rw [leSigned, this, leBytes, leBytes]
  exact congrArg (· :: []) (BitVec.eq_of_toNat_eq (by simp))

theorem packFields_two (a b : Nat) : packFields [(1, (a : Int)), (1, (b : Int))] = [BitVec.ofNat 8 a, BitVec.ofNat 8 b] := by
  simp [packFields, leSigned_one]

@[simp] theorem chainDetail_zero : chainDetail 0 = 0 := by decide
@[simp] theorem chainDetail_one : chainDetail 1 = 1 := by decide
@[simp] theorem chainDetail_two : chainDetail 2 = 2 := by decide

/-! ## The order in the chain's slot (R20, R141) -/

theorem State.completeChainOrder_some {s : State} {o : ChainOrder} (h : s.chain.slot = some o) (code : Completion)
    (detail : Word) (answer : List Byte) (truncated : Bool) : s.completeChainOrder code detail answer truncated =
      { s.complete o.buffer code detail answer false truncated with
        chain := { s.chain with slot := none, waitTimer := none } } := by
  simp [State.completeChainOrder, h, State.onChain]

/-! ## The Chain Controller's timers (R4, R11, R20) -/

/-- R11's conditions, as KEEPALIVE_IDLE_EXPIRY tests them. -/
theorem State.keepaliveFree_iff (s : State) : s.keepaliveFree = true ↔ s.chain.ringMode = true ∧
    s.sleep.power = .active ∧ s.chain.engine = none ∧ s.chain.noRequest ∧ s.chain.quietA = none := by
  simp [State.keepaliveFree, Chain.noRequest, Chain.quiet, and_assoc]

theorem exec_keepaliveIdleExpiry (s : State) : exec .keepaliveIdleExpiry s = s.event fun s =>
    s.onExpiry s.chain.idleTimer fun s =>
      if s.keepaliveFree then s.startTransaction .ringCheck .keepalive .a 0 else s := rfl

theorem exec_wakeToneQuietExpiry (p : Port) (s : State) : exec (.wakeToneQuietExpiry p) s = s.event fun s =>
    s.onExpiry (s.chain.quietTimer p) fun s => (s.onChain fun c => c.endQuiet p).settle := rfl

theorem exec_chainOrderWaitTimeout (s : State) : exec .chainOrderWaitTimeout s = s.event fun s =>
    s.onExpiry s.chain.waitTimer State.chainOrderTimedOut := rfl

/-- The chain with the quiet time of a port over. -/
def Chain.clearQuiet (c : Chain) : Port → Chain
  | .a => { c with quietA := none }
  | .b => { c with quietB := none }

/-- A frame that waits for the port begins to leave it. -/
theorem Chain.endQuiet_waiting {c : Chain} {e : Engine} (he : c.engine = some e) (ht : c.txTimer = none)
    (hphase : e.phase = .sending) : c.endQuiet e.port = { c.clearQuiet e.port with
      txTimer := some e.frame.duration, replyTimer := none, watchTimer := none, idleTimer := none } := by
  obtain ⟨requester, frame, port, phase, attempts, timeout, crc, timeouts, last⟩ := e
  cases hphase
  cases port <;> simp [Chain.endQuiet, Chain.clearQuiet, he, ht, Chain.send, Chain.quiet]

/-- With no frame that waits for the port, its timer alone stops. -/
theorem Chain.endQuiet_of_none {c : Chain} {p : Port}
    (h : ¬ ∃ e, c.engine = some e ∧ c.txTimer = none ∧ e.port = p ∧ e.phase = .sending) :
    c.endQuiet p = c.clearQuiet p := by
  have hc : (c.clearQuiet p).engine = c.engine ∧ (c.clearQuiet p).txTimer = c.txTimer := by cases p <;> exact ⟨rfl, rfl⟩
  have : c.endQuiet p = match (c.clearQuiet p).engine, (c.clearQuiet p).txTimer with
    | some e, none => if e.port = p ∧ e.phase = .sending then (c.clearQuiet p).send e else c.clearQuiet p
    | _, _ => c.clearQuiet p := by cases p <;> rfl
  rw [this, hc.1, hc.2]
  cases he : c.engine with
  | none => rfl
  | some e =>
    cases ht : c.txTimer with
    | some _ => rfl
    | none => exact if_neg fun hp => h ⟨e, he, ht, hp⟩

/-- The end of a quiet time stops that port's timer and leaves the requests, the table and the transaction. -/
theorem Chain.endQuiet_keeps (c : Chain) (p : Port) :
    (c.endQuiet p).quietTimer p = none ∧ (∀ q, q ≠ p → (c.endQuiet p).quietTimer q = c.quietTimer q) ∧
    (c.endQuiet p).nodes = c.nodes ∧ (c.endQuiet p).engine = c.engine ∧ (c.endQuiet p).location = c.location ∧
    (c.endQuiet p).seqRequest = c.seqRequest ∧ (c.endQuiet p).sleepRequest = c.sleepRequest ∧
    (c.endQuiet p).slot = c.slot := by
  have key : ∀ q, q ≠ p → (c.clearQuiet p).quietTimer q = c.quietTimer q := by
    intro q; cases p <;> cases q <;> simp [Chain.clearQuiet, Chain.quietTimer]
  by_cases h : ∃ e, c.engine = some e ∧ c.txTimer = none ∧ e.port = p ∧ e.phase = .sending
  · obtain ⟨e, he, ht, rfl, hphase⟩ := h
    rw [Chain.endQuiet_waiting he ht hphase]
    refine ⟨?_, key, ?_⟩ <;> cases e.port <;> simp [Chain.clearQuiet, Chain.quietTimer]
  · rw [Chain.endQuiet_of_none h]
    refine ⟨?_, key, ?_⟩ <;> cases p <;> simp [Chain.clearQuiet, Chain.quietTimer]

/-- KEEPALIVE_IDLE_EXPIRY with a KEEPALIVE to send, or with none. -/
theorem State.keepaliveIdleExpiry_spec {s : State} {r : Nat} (ht : s.taking) (hr : s.chain.idleTimer = some r) :
    exec .keepaliveIdleExpiry s = .next (if s.keepaliveFree then { s.elapse r with chain := { (s.elapse r).chain with
        engine := some ⟨.ringCheck, .keepalive, .a, .sending, 0, s.profile.replyTimeout, 0, 0, .noError⟩,
        txTimer := some 15, replyTimer := none, watchTimer := none, idleTimer := none } } else s.elapse r) := by
  have hfree : (s.elapse r).keepaliveFree = s.keepaliveFree := by
    rw [Bool.eq_iff_iff]
    simp [State.keepaliveFree_iff, Chain.noRequest, State.elapse_quietA_none]
  rw [exec_keepaliveIdleExpiry, State.event_taking _ ht, hr, State.onExpiry_some, hfree]
  by_cases h : s.keepaliveFree = true
  · obtain ⟨-, -, -, -, hq⟩ := (s.keepaliveFree_iff).mp h
    rw [if_pos h, if_pos h, State.startTransaction_eq, State.publish_of_sameShown (by simp [State.sameShown])]
    simp [Chain.quiet, hq, ChainFrame.duration, ChainFrame.bytes, withCrc, beHalf]
  · rw [if_neg h, if_neg h, State.publish_of_sameShown (by simp)]

/-- WAKE_TONE_QUIET_EXPIRY where nothing follows it. -/
theorem State.wakeToneQuietExpiry_spec {s : State} {r : Nat} {p : Port} (ht : s.taking)
    (hr : s.chain.quietTimer p = some r) (hw : s.workIdle) :
    exec (.wakeToneQuietExpiry p) s = .next { s.elapse r with chain := (s.elapse r).chain.endQuiet p } := by
  obtain ⟨-, -, -, hengine, hloc, hseq, hsleep, hslot⟩ := Chain.endQuiet_keeps (s.elapse r).chain p
  have hidle : ((s.elapse r).onChain fun c => c.endQuiet p).workIdle := by
    simpa [State.workIdle, State.listIdle, Chain.noRequest, hengine, hloc, hseq, hsleep, hslot] using hw
  rw [exec_wakeToneQuietExpiry, State.event_taking _ ht, hr, State.onExpiry_some, State.settle_of_workIdle hidle,
    State.publish_of_sameShown (by simp [State.sameShown])]
  rfl

/-- CHAIN_ORDER_WAIT_TIMEOUT with an order in the slot. -/
theorem State.chainOrderWaitTimeout_spec {s : State} {r : Nat} {o : ChainOrder} (ht : s.taking)
    (hr : s.chain.waitTimer = some r) (hs : s.chain.slot = some o) :
    exec .chainOrderWaitTimeout s = .next (State.publish { (s.elapse r).complete o.buffer .timeout 0 with
      chain := { (s.elapse r).chain with
        slot := none, waitTimer := none
        enumStatus := if s.chain.enumStatus = .running then .needed else s.chain.enumStatus } } s) := by
  rw [exec_chainOrderWaitTimeout, State.event_taking _ ht, hr, State.onExpiry_some, State.chainOrderTimedOut,
    State.completeChainOrder_some (o := o) (by simpa using hs)]
  simp [State.onChain]

/-- Settles O40: each timer's row by its own equation, and the order's completion by the law of completions. -/
theorem chainTimersEnd : Obligations.ChainTimersEnd := by
  intro r s ht
  refine ⟨?_, ?_, ?_, ?_⟩
  · intro hr hring hpower hengine hreq hquiet
    rw [State.keepaliveIdleExpiry_spec ht hr, if_pos ((s.keepaliveFree_iff).mpr ⟨hring, hpower, hengine, hreq, hquiet⟩)]
  · intro hr hnot
    rw [State.keepaliveIdleExpiry_spec ht hr, if_neg]
    intro hfree
    obtain ⟨hring, hpower, hengine, hreq, hquiet⟩ := (s.keepaliveFree_iff).mp hfree
    rcases hnot with h | h | h | h | h
    · simp [hring] at h
    · exact h hpower
    · exact h hengine
    · exact h hreq
    · exact h hquiet
  · intro p hr hw
    obtain ⟨hp, hother, hnodes, hengine, -⟩ := Chain.endQuiet_keeps (s.elapse r).chain p
    refine ⟨_, State.wakeToneQuietExpiry_spec ht hr hw, hp, hother, by simpa using hnodes, ?_, by simp [sameExcept_iff]⟩
    intro e he
    refine ⟨by simpa [he] using hengine, ?_⟩
    rintro rfl hphase htx
    have := Chain.endQuiet_waiting (c := (s.elapse r).chain) (by simpa using he) ((s.elapse_txTimer_none r).mpr htx) hphase
    simp [this]
  · intro o hr hs hm hn
    refine ⟨_, State.chainOrderWaitTimeout_spec ht hr hs, ?_, by simp, ?_⟩
    · exact State.completed_publish .timeout 0 [] false false (by simpa using hm) (by simpa using hn) rfl rfl
    · exact SameExcept.publish (by simp [sameExcept_iff]) (by simp [State.sameReported]) (by simp)

end Sys2Proof.Machine

namespace Sys2Proof.Machine

open Sys2Proof

/-! ## The order's next transaction (R8, R9, R16 to R22) -/

/-- The transaction that the order in the slot asks for next: frame, port and retries; none where R9 lets no frame leave. -/
def State.orderTransaction (s : State) (o : ChainOrder) : Option (ChainFrame × Port × Nat) :=
  match o.job with
  | .readNode n b k =>
    match s.handling n with
    | .sent p r => some (.read n b k, p, r)
    | .skipped | .noPath => none
  | .writeNode n b v =>
    match s.handling n with
    | .sent p r => some (.write n b v, p, r)
    | .skipped | .noPath => none
  | .forget p => some (.forget, p, 0)
  | .assign n => some (.enumerate n, .a, s.profile.retryLimit)
  | .identity n => some (.read n .identity 4, .a, s.profile.retryLimit)
  | .ringTest => some (.keepalive, .a, 0)

/-- The state with a transaction of the order granted. -/
def State.orderSent (s : State) (f : ChainFrame) (p : Port) (k : Nat) : State := { s with chain := { s.chain with
  engine := some ⟨.order, f, p, .sending, k, s.profile.replyTimeout, 0, 0, .noError⟩
  txTimer := if s.chain.quiet p then none else some f.duration
  replyTimer := none, watchTimer := none, idleTimer := none, waitTimer := none } }

theorem State.grantOrder_of_transaction {s : State} {o : ChainOrder} {f : ChainFrame} {p : Port} {k : Nat}
    (h : s.orderTransaction o = some (f, p, k)) : s.grantOrder o = s.orderSent f p k := by
  unfold State.orderTransaction at h
  unfold State.grantOrder
  have node {n : Nat} {frame : ChainFrame} (hn : s.handling n = .sent p k) :
      State.grantNode (s.onChain fun c => { c with waitTimer := none }) .order frame n = s.orderSent frame p k := by
    have : State.handling (s.onChain fun c => { c with waitTimer := none }) n = .sent p k := hn
    rw [State.grantNode, this]
    rfl
  cases hj : o.job with
  | readNode n b w =>
    cases hn : s.handling n <;> simp only [hj, hn, Option.some.injEq, Prod.mk.injEq, reduceCtorEq] at h
    obtain ⟨rfl, rfl, rfl⟩ := h
    exact node hn
  | writeNode n b v =>
    cases hn : s.handling n <;> simp only [hj, hn, Option.some.injEq, Prod.mk.injEq, reduceCtorEq] at h
    obtain ⟨rfl, rfl, rfl⟩ := h
    exact node hn
  | forget _ | assign _ | identity _ | ringTest =>
    simp only [hj, Option.some.injEq, Prod.mk.injEq] at h
    obtain ⟨rfl, rfl, rfl⟩ := h
    rfl

/-- The order's transaction is granted at once: the engine is free, no frame runs, and the port is not quiet. -/
theorem State.settle_orderSent {s : State} {o : ChainOrder} {f : ChainFrame} {p : Port} {k : Nat}
    (hw : s.onlyOrderWaits) (ht : s.taking) (he : s.chain.engine = none) (hs : s.chain.slot = some o)
    (hr : s.seq.sampler ≠ .running) (hp : s.sleep.power ≠ .asleep) (ho : s.orderTransaction o = some (f, p, k))
    (hq : s.chain.quiet p = false) : s.settle = s.orderSent f p k := by
  have hc : s.candidate = some (s.orderSent f p k) := by
    rw [State.candidate_order hw hs hr, State.grantOrder_of_transaction ho]
  have hg : s.settleStep = some (s.orderSent f p k) := by
    rw [State.settleStep_of_listIdle hw.1, State.grantChain_of_candidate he ht hp hc]
    simp [State.orderSent, hq]
  exact State.settle_of_one hg (State.settleStep_of_engine hw.1 rfl)

/-- The order waits while the engine is busy or a frame runs. -/
theorem State.settle_order_blocked {s : State} (hw : s.onlyOrderWaits)
    (h : s.chain.engine ≠ none ∨ s.seq.sampler = .running) : s.settle = s := by
  apply State.settle_of_settleStep
  rw [State.settleStep_of_listIdle hw.1]
  rcases h with h | h
  · exact State.grantChain_none (.inl (Option.isSome_iff_ne_none.mpr h))
  · exact State.grantChain_none (.inr (.inr (State.candidate_running hw h)))

/-- The order waits for a port in its quiet time (R4). -/
theorem State.settle_order_quiet {s : State} {o : ChainOrder} {f : ChainFrame} {p : Port} {k : Nat}
    (hw : s.onlyOrderWaits) (ht : s.taking) (hs : s.chain.slot = some o) (hp : s.sleep.power ≠ .asleep)
    (ho : s.orderTransaction o = some (f, p, k)) (hq : s.chain.quiet p = true) : s.settle = s := by
  by_cases h : s.chain.engine ≠ none ∨ s.seq.sampler = .running
  · exact State.settle_order_blocked hw h
  · obtain ⟨he, hr⟩ := not_or.mp h
    have he : s.chain.engine = none := not_not.mp he
    apply State.settle_of_settleStep
    rw [State.settleStep_of_listIdle hw.1, State.grantChain_of_candidate he ht hp
      ((State.candidate_order hw hs hr).trans (congrArg some (State.grantOrder_of_transaction ho)))]
    simp [State.orderSent, hq]

/-! ## The list's end (R32) -/

/-- A list past its last index ends, and nothing follows while the frame waits for its buffer. -/
theorem State.settle_listEnds {s : State} {f : Frame} (hf : s.seq.frame = some f) (hphase : f.phase = .start)
    (halign : s.table.align = .idle) (hlast : f.last < f.index) (hresult : f.result = .asked)
    (hw : s.chain.engine.isSome = true ∨ s.chain.noRequest) :
    s.settle = { s with seq := { s.seq with frame := some { f with phase := .ended } } } := by
  have hend : s.endList = { s with seq := { s.seq with frame := some { f with phase := .ended } } } := by
    simp [State.endList, State.onFrame, State.onSeq, hf]
  have h1 : s.settleStep = some s.endList := by
    simp [State.settleStep, hf, hphase, halign, State.runElement, hlast]
  rw [State.settle_of_one h1, hend]
  rw [hend]
  exact State.settleStep_of_workIdle ⟨by simp [State.listIdle, hresult], hw⟩

/-! ## The end of a transmission (R6, R10, R16, R24) -/

/-- A chain event with a transaction in progress. -/
theorem State.engineEvent_some {s : State} {e : Engine} (ht : s.taking) (he : s.chain.engine = some e)
    (f : State → Engine → State) : s.engineEvent f = .next (((f s e).settle).publish s) := by
  rw [State.engineEvent, State.event_taking _ ht, he]

theorem State.exec_transmissionEnd {s : State} {e : Engine} {r : Nat} (ht : s.taking) (he : s.chain.engine = some e)
    (hr : s.chain.txTimer = some r) :
    exec .transmissionEnd s = .next ((((s.elapse r).transmitted e).settle).publish s) := by
  refine (show exec .transmissionEnd s = s.engineEvent fun s e => s.onExpiry s.chain.txTimer fun s => s.transmitted e
    from rfl).trans ?_
  rw [State.engineEvent_some ht he, hr, State.onExpiry_some]

/-- A frame that leaves its port with the transaction still in progress: nothing follows it. -/
theorem State.transmissionEnd_busy {s : State} {e : Engine} {r : Nat} {c : Chain} (ht : s.taking) (hl : s.listIdle)
    (he : s.chain.engine = some e) (hr : s.chain.txTimer = some r)
    (h : (s.elapse r).transmitted e = { s.elapse r with chain := c }) (hc : c.engine.isSome = true) :
    exec .transmissionEnd s = .next { s.elapse r with chain := c } := by
  rw [State.exec_transmissionEnd ht he hr, h,
    State.settle_of_settleStep (State.settleStep_of_engine (by simpa [State.listIdle] using hl) hc),
    State.publish_of_sameShown (by simp [State.sameShown])]

/-- A transaction that ends with its frame sent: the engine is free, and its requester is told. -/
theorem State.finishTransaction_sent (s : State) (e : Engine) :
    s.finishTransaction e .sent = (s.onChain Chain.freeEngine).deliver e.requester e.frame .sent := by
  unfold State.finishTransaction; rfl

/-- The chain once a CONVERT has left a port that no watch follows: its issue time is captured, the engine free. -/
def Chain.converted (c : Chain) (p : Port) (now : Word) : Chain := { c with
  engine := none, txTimer := none, replyTimer := none, watchTimer := none, idleTimer := some 50000
  issueA := if p = .a then some now else c.issueA
  issueB := if p = .a then none else some now }

theorem State.transmitted_convert_ends {s : State} {e : Engine} {tag : Byte} {g : Group} (hf : e.frame = .convert tag g)
    (h : e.port = .b ∨ s.chain.ringMode = false) : s.transmitted e =
      State.deliver { s with chain := s.chain.converted e.port s.now } e.requester e.frame .sent := by
  unfold State.transmitted
  cases hp : e.port with
  | a =>
    have hr : s.chain.ringMode = false := by simpa [hp] using h
    simp [hf, hr, State.finishTransaction_sent, State.onChain, Chain.freeEngine, Chain.converted]
  | b => simp [hf, State.finishTransaction_sent, State.onChain, Chain.freeEngine, Chain.converted]

/-- The list goes on behind its last CONVERT: the issue times stand in the frame's issue record, and the list has ended. -/
theorem State.settle_converted {s : State} {f : Frame} (hframe : s.seq.frame = some f) (hphase : f.phase = .converting)
    (hlast : f.index = f.last) (hresult : f.result = .asked) (halign : s.table.align = .idle)
    (hw : s.chain.engine.isSome = true ∨ s.chain.noRequest) (frame : ChainFrame) :
    (s.deliver .sequencer frame .sent).settle = { s with
      table := { s.table with issueA := s.chain.issueA, issueB := s.chain.issueB }
      seq := { s.seq with frame := some { f with index := f.index + 1, phase := .ended } } } := by
  have hd : s.deliver .sequencer frame .sent = { s with
      table := { s.table with issueA := s.chain.issueA, issueB := s.chain.issueB }
      seq := { s.seq with frame := some { f with index := f.index + 1, phase := .start } } } := by
    simp [State.deliver, TransactionEnd.failed, State.sequencerEnded, hframe, hphase, State.onTable, State.nextElement,
      State.onFrame, State.onSeq]
  rw [hd]
  exact State.settle_listEnds (f := { f with index := f.index + 1, phase := .start }) rfl rfl halign (by simp [hlast])
    hresult hw

theorem State.exec_firstReplyByte {s : State} {e : Engine} {p : Port} (ht : s.taking) (he : s.chain.engine = some e) :
    exec (.firstReplyByte p) s = .next (if e.port = p ∧ e.phase = .awaiting then { s with
      chain := { s.chain with engine := some { e with phase := .receiving }, replyTimer := none } } else s) := by
  rw [show exec (.firstReplyByte p) s = execFirstReplyByte p s from rfl, execFirstReplyByte, State.localEvent_taking _ ht]
  simp [he, State.onChain]

/-- Settles O36, frame by frame along what follows it on its port. -/
theorem framesLeaveThePort : Obligations.FramesLeaveThePort := by
  intro e s ht hl he
  refine ⟨?_, ?_, ?_⟩
  · intro r hr u
    refine ⟨?_, ?_, ?_, ?_, ?_, ?_⟩
    · intro hf
      refine State.transmissionEnd_busy ht hl he hr ?_ rfl
      rcases hf with ⟨n, b, k, hf⟩ | ⟨n, b, v, hf⟩ | ⟨n, hf⟩ <;> simp [State.transmitted, hf, State.onChain, u]
    · rintro ⟨tag, g, hf⟩ hp hring
      refine State.transmissionEnd_busy ht hl he hr ?_ rfl
      simp [State.transmitted, hf, hp, hring, State.onChain, u]
    · intro hf
      refine State.transmissionEnd_busy ht hl he hr ?_ rfl
      simp [State.transmitted, hf, State.onChain, u]
    · intro hf hp hring
      refine State.transmissionEnd_busy ht hl he hr ?_ rfl
      rcases hf with hf | hf
      · simp [State.transmitted, hf, hp, hring, State.onChain, u, Chain.send, Chain.quiet, ChainFrame.duration,
          ChainFrame.bytes, withCrc, beHalf]
      · simp [State.transmitted, hf, hp, hring, State.onChain, u, Chain.send, Chain.quiet, ChainFrame.duration,
          Chain.startQuiet]
    · intro tag g hf hport hreq freed
      have hfreed : freed = u.chain.converted e.port u.now := rfl
      have hreq' : freed.noRequest := by simpa [freed, u] using hreq
      have hsent := State.transmitted_convert_ends (s := u) hf (by simpa [u] using hport)
      refine ⟨?_, ?_⟩
      · intro hd
        rw [State.exec_transmissionEnd ht he hr, hsent, hd, ← hfreed]
        rw [show State.deliver { u with chain := freed } .discarded e.frame .sent = { u with chain := freed } from rfl,
          State.settle_of_workIdle (s := { u with chain := freed }) ⟨by simpa [State.listIdle, u] using hl, .inr hreq'⟩,
          State.publish_of_sameShown (by simp [State.sameShown, u])]
      · intro f hd hframe hphase hlast hresult halign
        rw [State.exec_transmissionEnd ht he hr, hsent, hd, ← hfreed,
          State.settle_converted (s := { u with chain := freed }) (f := f) (by simpa [u] using hframe) hphase hlast hresult
            (by simpa [u] using halign) (.inr hreq'),
          State.publish_of_sameShown (by simp [State.sameShown, u])]
    · intro o hf hd ho hjob hw hrun hp hqa hqb next
      have hsent : u.transmitted e = { u with chain := { u.chain.freeEngine with slot := some { o with job := next.1 } } } := by
        cases hport : e.port <;> cases hring : s.chain.ringMode <;>
          simp [State.transmitted, State.finishTransaction_sent, State.deliver, State.orderEnded, State.setJob, State.onChain,
            Chain.freeEngine, next, u, hf, hd, ho, hjob, hport, hring]
      have hqa' : (s.elapse r).chain.quietA = none := (s.elapse_quietA_none r).mpr hqa
      have hqb' : (s.elapse r).chain.quietB = none := (s.elapse_quietB_none r).mpr hqb
      have hq (p : Port) : s.chain.quiet p = false := by cases p <;> simp [Chain.quiet, hqa, hqb]
      have hnext : ∃ k, State.orderTransaction { u with
          chain := { u.chain.freeEngine with slot := some { o with job := next.1 } } } { o with job := next.1 } =
            some (next.2.1, next.2.2, k) := by
        by_cases h : e.port = .a ∧ s.chain.ringMode = true <;> simp [State.orderTransaction, next, h]
      obtain ⟨k, hnext⟩ := hnext
      rw [State.exec_transmissionEnd ht he hr, hsent, State.settle_orderSent (by simpa [State.onlyOrderWaits, State.listIdle,
        Chain.freeEngine, u] using hw) (by simpa [u] using ht) rfl rfl (by simpa [u] using hrun) (by simpa [u] using hp)
        hnext (by simpa [u, Chain.freeEngine, Chain.quiet] using hq next.2.2),
        State.publish_of_sameShown (by simp [State.sameShown, State.orderSent, u])]
      refine ⟨_, rfl, rfl, rfl, ?_, ?_, by simp [sameExcept_iff, State.orderSent]⟩
      · by_cases h : e.port = .a ∧ s.chain.ringMode = true <;> simp [State.orderSent, next, h, Chain.freeEngine, u,
          Chain.quiet, hqa', hqb', ChainFrame.duration, ChainFrame.bytes, withCrc, beHalf]
      · simp [State.orderSent, Chain.freeEngine, u]
  · intro p hp hphase
    rw [State.exec_firstReplyByte ht he, if_pos ⟨hp, hphase⟩]
  · intro p hnot
    rw [State.exec_firstReplyByte ht he, if_neg (by tauto)]

end Sys2Proof.Machine

namespace Sys2Proof.Machine

open Sys2Proof

/-! ## The chain CRC (R3) -/

/-- One more bit of the message: the register takes its top bit, and the bits behind move up. -/
theorem crcBit_xor (r y : BitVec 16) : crcBit (r ^^^ y) = crcStep r y.msb ^^^ (y <<< 1) := by
  have hmsb : (r ^^^ y).msb = (r.msb != y.msb) := by simp [BitVec.msb_xor]
  have hshift : (r ^^^ y) <<< 1 = (r <<< 1) ^^^ (y <<< 1) := by
    ext i; simp [Bool.and_xor_distrib_left]
  unfold crcBit crcStep
  rw [hmsb, hshift]
  split
  · rw [BitVec.xor_assoc, BitVec.xor_comm (y <<< 1), ← BitVec.xor_assoc]
  · rfl

/-- The bits of a message, most significant first, one by one. -/
theorem crcBits_xor (k : Nat) (r y : BitVec 16) :
    crcBits k (r ^^^ y) = ((List.range k).map fun i => y.getMsbD i).foldl crcStep r ^^^ (y <<< k) := by
  induction k generalizing r y with
  | zero => simp [crcBits]
  | succ k ih =>
    have hbits : (List.range (k + 1)).map (fun i => y.getMsbD i) =
        y.msb :: (List.range k).map fun i => (y <<< 1).getMsbD i := by
      rw [List.range_succ_eq_map, List.map_cons, List.map_map]
      congr 1
      apply List.map_congr_left
      intro i _
      simp [BitVec.getMsbD_shiftLeft]
    rw [crcBits, crcBit_xor, ih, hbits, List.foldl_cons, ← BitVec.shiftLeft_add, Nat.add_comm 1 k]

/-- The register after one byte. -/
theorem crcBits_byte (r : BitVec 16) (b : Byte) : crcBits 8 (r ^^^ ((b.setWidth 16 : BitVec 16) <<< 8)) =
    ((List.range 8).map fun i => b.getMsbD i).foldl crcStep r := by
  rw [crcBits_xor]
  have hzero : ((b.setWidth 16 : BitVec 16) <<< 8) <<< 8 = 0#16 := by
    rw [← BitVec.shiftLeft_add]; simp
  have hbits : (List.range 8).map (fun i => ((b.setWidth 16 : BitVec 16) <<< 8).getMsbD i) =
      (List.range 8).map fun i => b.getMsbD i := by
    apply List.map_congr_left
    intro i hi
    have hi : i < 8 := by simpa using hi
    have h1 : i < 16 := by omega
    have h2 : 15 - i < 16 := by omega
    have h3 : ¬ 15 - i < 8 := by omega
    have h5 : 15 - i - 8 = 7 - i := by omega
    simp [BitVec.getMsbD_eq_getLsbD, hi, h1, h2, h3, h5]
  rw [hzero, hbits, BitVec.xor_zero]

/-- The model's CRC is that over the bits of the bytes (R3). -/
theorem crc16_eq_crcOf (bs : List Byte) : crc16 bs = crcOf bs := by
  rw [crc16, crcOf]
  generalize 0xFFFF#16 = r
  induction bs generalizing r with
  | nil => rfl
  | cons b bs ih => rw [List.foldl_cons, List.flatMap_cons, List.foldl_append, ih, crcBits_byte]

theorem beHalf_eq (v : Half) : beHalf v = [v.extractLsb' 8 8, v.extractLsb' 0 8] := by
  have h1 : (v >>> 8).setWidth 8 = v.extractLsb' 8 8 := by
    apply BitVec.eq_of_getLsbD_eq; intro i hi; simp [hi, Nat.add_comm]
  have h2 : v.setWidth 8 = v.extractLsb' 0 8 := by
    apply BitVec.eq_of_getLsbD_eq; intro i hi; simp [hi]
  rw [beHalf, h1, h2]

/-! ## Replies (R5, R182) -/

/-- The two bytes of a word, high byte first, spell it. -/
theorem append_extract (v : BitVec (8 + 8)) : v.extractLsb' 8 8 ++ v.extractLsb' 0 8 = v := by
  apply BitVec.eq_of_getLsbD_eq
  intro i hi
  rw [BitVec.getLsbD_append, BitVec.getLsbD_extractLsb', BitVec.getLsbD_extractLsb']
  by_cases h : i < 8
  · simp [h]
  · have h8 : i - 8 < 8 := by omega
    have h9 : 8 + (i - 8) = i := by omega
    simp [h, h8, h9]

theorem extract_append (hi lo : Byte) : (hi ++ lo).extractLsb' 8 8 = hi ∧ (hi ++ lo).extractLsb' 0 8 = lo := by
  constructor <;> apply BitVec.eq_of_getLsbD_eq <;> intro i h <;>
    rw [BitVec.getLsbD_extractLsb', BitVec.getLsbD_append] <;> simp [h]

/-- The words of a reply are read from their bytes. -/
theorem wordsBe_flatMap (words : List Half) :
    wordsBe (words.flatMap fun w => [w.extractLsb' 8 8, w.extractLsb' 0 8]) = words := by
  induction words with
  | nil => rfl
  | cons w words ih => exact congrArg₂ List.cons (append_extract w) ih

/-- Bytes in pairs are the bytes of the words they spell. -/
theorem flatMap_wordsBe {k : Nat} {bytes : List Byte} (h : bytes.length = 2 * k) :
    ((wordsBe bytes).flatMap fun w => [w.extractLsb' 8 8, w.extractLsb' 0 8]) = bytes ∧ (wordsBe bytes).length = k := by
  induction k generalizing bytes with
  | zero =>
    obtain rfl := List.length_eq_zero_iff.mp (by simpa using h)
    exact ⟨rfl, rfl⟩
  | succ k ih =>
    match bytes, h with
    | hi :: lo :: rest, h =>
      obtain ⟨h1, h2⟩ := ih (bytes := rest) (by simp at h; omega)
      obtain ⟨e1, e2⟩ := extract_append hi lo
      exact ⟨congrArg₂ List.cons e1 (congrArg₂ List.cons e2 h1), congrArg (· + 1) h2⟩

/-- A frame with its CRC. -/
theorem judgeReply_none_of_crc {sent : ChainFrame} {bs : List Byte}
    (h : ¬ ∃ kind node rest, bs = withCrc (kind :: node :: rest)) : judgeReply sent bs = none := by
  unfold judgeReply
  rw [if_pos]
  by_contra hgood
  obtain ⟨hlen, hcrc⟩ := not_or.mp hgood
  apply h
  have hbody : 2 ≤ (bs.take (bs.length - 2)).length := by simp; omega
  match hb : bs.take (bs.length - 2), hbody with
  | kind :: node :: rest, _ =>
    refine ⟨kind, node, rest, ?_⟩
    rw [withCrc, ← hb, ← of_not_not hcrc, List.take_append_drop]

theorem u8_zero (b : Byte) (bs : List Byte) : u8 (b :: bs) 0 = b.toNat := by simp [u8, slice, ofLe]
theorem u8_succ (b : Byte) (bs : List Byte) (i : Nat) : u8 (b :: bs) (i + 1) = u8 bs i := by simp [u8, slice]

/-- The reply that a frame with its CRC and node field right holds, by its first byte and what follows the node field. -/
def replyForm (sent : ChainFrame) (kind : Nat) (rest : List Byte) : Option Reply :=
  match sent, kind, rest with
  | .read _ _ _, 0x21, tag :: state :: count :: bytes =>
    if bytes.length = 2 * count.toNat ∧ state.toNat ≤ 1 then some (.data tag (state.toNat == 1) (wordsBe bytes)) else none
  | .write _ _ _, 0x22, [] => some .ack
  | .enumerate _, 0x22, [] => some .ack
  | .read _ _ _, 0x23, [reason] => if reason.toNat = 1 ∨ reason.toNat = 2 then some (.nack (reason.toNat == 2)) else none
  | .write _ _ _, 0x23, [reason] => if reason.toNat = 1 ∨ reason.toNat = 2 then some (.nack (reason.toNat == 2)) else none
  | _, _, _ => none

/-- The judgement of a frame whose CRC is right. -/
theorem judgeReply_withCrc (sent : ChainFrame) (kind node : Byte) (rest : List Byte) :
    judgeReply sent (withCrc (kind :: node :: rest)) =
      if node.toNat = sent.node then replyForm sent kind.toNat rest else none := by
  have hlen : (withCrc (kind :: node :: rest)).length = rest.length + 4 := by simp [withCrc, beHalf]
  have htake : (withCrc (kind :: node :: rest)).take ((withCrc (kind :: node :: rest)).length - 2) =
      kind :: node :: rest := by simp [withCrc, beHalf]
  have hdrop : (withCrc (kind :: node :: rest)).drop ((withCrc (kind :: node :: rest)).length - 2) =
      beHalf (crc16 (kind :: node :: rest)) := by simp [withCrc, beHalf]
  have hcons : withCrc (kind :: node :: rest) = kind :: node :: (rest ++ beHalf (crc16 (kind :: node :: rest))) := rfl
  have hgood : ¬ ((withCrc (kind :: node :: rest)).length < 4 ∨
      (withCrc (kind :: node :: rest)).drop ((withCrc (kind :: node :: rest)).length - 2) ≠
        beHalf (crc16 ((withCrc (kind :: node :: rest)).take ((withCrc (kind :: node :: rest)).length - 2)))) := by
    rw [htake, hdrop, hlen]; simp
  unfold judgeReply
  rw [if_neg hgood, htake, hlen, hcons, u8_succ, u8_zero, u8_zero]
  by_cases hnode : node.toNat = sent.node
  · rw [if_neg (not_not.mpr hnode), if_pos hnode]
    generalize kind.toNat = k
    generalize beHalf (crc16 (kind :: node :: rest)) = crc
    clear hlen htake hdrop hcons hgood
    unfold replyForm
    cases sent with
    | read n b w =>
      match rest with
      | [] | [a] | [a, b] =>
        split <;> simp_all [u8_succ, u8_zero]
        omega
      | a :: b :: c :: rest =>
        have : rest.length + 1 + 1 + 1 + 4 = 7 + 2 * c.toNat ↔ rest.length = 2 * c.toNat := by omega
        split <;> simp_all [u8_succ, u8_zero]
    | write n b v | enumerate n =>
      match rest with
      | [] | [a] | a :: b :: rest => split <;> simp_all [u8_succ, u8_zero]
    | _ => simp
  · rw [if_pos hnode, if_neg hnode]

/-- A frame is judged good exactly where its CRC and node field are right and its form fits. -/
theorem judgeReply_eq_some {sent : ChainFrame} {bytes : List Byte} {x : Reply} : judgeReply sent bytes = some x ↔
    ∃ kind node rest, bytes = withCrc (kind :: node :: rest) ∧ node.toNat = sent.node ∧
      replyForm sent kind.toNat rest = some x := by
  constructor
  · intro h
    by_cases hf : ∃ kind node rest, bytes = withCrc (kind :: node :: rest)
    · obtain ⟨kind, node, rest, rfl⟩ := hf
      rw [judgeReply_withCrc] at h
      by_cases hn : node.toNat = sent.node
      · exact ⟨kind, node, rest, rfl, hn, by rwa [if_pos hn] at h⟩
      · rw [if_neg hn] at h
        cases h
    · rw [judgeReply_none_of_crc hf] at h
      cases h
  · rintro ⟨kind, node, rest, rfl, hn, h⟩
    rw [judgeReply_withCrc, if_pos hn, h]

theorem toNat_eq_literal {b : Byte} {k : Nat} (hk : k < 256) : b.toNat = k ↔ b = BitVec.ofNat 8 k := by
  constructor
  · rintro rfl; simp
  · rintro rfl; simp [Nat.mod_eq_of_lt hk]

/-- The forms of a good reply, with the bytes that follow the node field (R182). -/
theorem replyForm_eq_some {sent : ChainFrame} {kind : Byte} {rest : List Byte} {x : Reply} :
    replyForm sent kind.toNat rest = some x ↔
      match x with
      | .data tag busy words => (∃ n b k, sent = .read n b k) ∧ words.length < 256 ∧ kind = 0x21 ∧
          rest = [tag, if busy then 1 else 0, BitVec.ofNat 8 words.length] ++
            words.flatMap fun w => [w.extractLsb' 8 8, w.extractLsb' 0 8]
      | .ack => ((∃ n b v, sent = .write n b v) ∨ ∃ n, sent = .enumerate n) ∧ kind = 0x22 ∧ rest = []
      | .nack badValue => ((∃ n b k, sent = .read n b k) ∨ ∃ n b v, sent = .write n b v) ∧ kind = 0x23 ∧
          rest = [if badValue then 2 else 1] := by
  have nack {reason : Byte} (hs : (∃ n b k, sent = .read n b k) ∨ ∃ n b v, sent = .write n b v) (hk : kind.toNat = 0x23)
      (h : (if reason.toNat = 1 ∨ reason.toNat = 2 then some (Reply.nack (reason.toNat == 2)) else none) = some x) :
      ∃ badValue, x = .nack badValue ∧ ((∃ n b k, sent = .read n b k) ∨ ∃ n b v, sent = .write n b v) ∧ kind = 0x23 ∧
        [reason] = [if badValue then 2 else 1] := by
    have hkind : kind = 0x23 := (toNat_eq_literal (by decide)).mp hk
    by_cases h2 : reason.toNat = 2
    · exact ⟨true, by simpa [h2] using h.symm, hs, hkind, by simpa using (toNat_eq_literal (by decide)).mp h2⟩
    · by_cases h1 : reason.toNat = 1
      · exact ⟨false, by simpa [h1] using h.symm, hs, hkind, by simpa using (toNat_eq_literal (by decide)).mp h1⟩
      · simp [h1, h2] at h
  constructor
  · intro h
    unfold replyForm at h
    split at h
    · rename_i n b k tag state count bytes hkind
      split at h
      · rename_i hform
        obtain ⟨hlen, hstate⟩ := hform
        obtain ⟨hwords, hcount⟩ := flatMap_wordsBe hlen
        cases h
        refine ⟨⟨n, b, k, rfl⟩, by rw [hcount]; exact count.isLt, (toNat_eq_literal (by decide)).mp hkind, ?_⟩
        rw [hwords, hcount]
        have : state = if state.toNat == 1 then 1 else 0 := by
          rcases Nat.le_one_iff_eq_zero_or_eq_one.mp hstate with h | h <;>
            rw [h] <;> exact (toNat_eq_literal (by decide)).mp h
        simpa using this
      · cases h
    · rename_i n b v hkind
      cases h
      exact ⟨.inl ⟨n, b, v, rfl⟩, (toNat_eq_literal (by decide)).mp hkind, rfl⟩
    · rename_i n hkind
      cases h
      exact ⟨.inr ⟨n, rfl⟩, (toNat_eq_literal (by decide)).mp hkind, rfl⟩
    · rename_i n b k reason hkind
      obtain ⟨badValue, rfl, hform⟩ := nack (.inl ⟨n, b, k, rfl⟩) hkind h
      exact hform
    · rename_i n b v reason hkind
      obtain ⟨badValue, rfl, hform⟩ := nack (.inr ⟨n, b, v, rfl⟩) hkind h
      exact hform
    · cases h
  · intro h
    cases x with
    | data tag busy words =>
      obtain ⟨⟨n, b, k, rfl⟩, hw, rfl, rfl⟩ := h
      have hl : (words.flatMap fun w => [w.extractLsb' 8 8, w.extractLsb' 0 8]).length = 2 * words.length := by
        simp [List.length_flatMap, Nat.mul_comm]
      cases busy <;> simp [replyForm, hl, Nat.mod_eq_of_lt hw, wordsBe_flatMap]
    | ack => obtain ⟨⟨n, b, v, rfl⟩ | ⟨n, rfl⟩, rfl, rfl⟩ := h <;> rfl
    | nack badValue => obtain ⟨⟨n, b, k, rfl⟩ | ⟨n, b, v, rfl⟩, rfl, rfl⟩ := h <;> cases badValue <;> rfl

/-- The model's judgement is that of R5 and R182. -/
theorem judgeReply_iff_goodReply (sent : ChainFrame) (bytes : List Byte) (x : Reply) :
    judgeReply sent bytes = some x ↔ GoodReply sent bytes x := by
  have crc (body : List Byte) : withCrc body = body ++ [(crcOf body).extractLsb' 8 8, (crcOf body).extractLsb' 0 8] := by
    rw [withCrc, beHalf_eq, crc16_eq_crcOf]
  have node {n : Byte} (h : n.toNat = sent.node) : n = BitVec.ofNat 8 sent.node ∧ sent.node < 256 :=
    ⟨by rw [← h]; simp, h ▸ n.isLt⟩
  rw [judgeReply_eq_some]
  constructor
  · rintro ⟨kind, n, rest, rfl, hn, h⟩
    obtain ⟨rfl, hlt⟩ := node hn
    refine ⟨_, crc _, hlt, ?_⟩
    rw [replyForm_eq_some] at h
    cases x with
    | data tag busy words => obtain ⟨hs, hw, rfl, rfl⟩ := h; exact ⟨hs, hw, rfl⟩
    | ack => obtain ⟨hs, rfl, rfl⟩ := h; exact ⟨hs, rfl⟩
    | nack badValue => obtain ⟨hs, rfl, rfl⟩ := h; exact ⟨hs, rfl⟩
  · rintro ⟨body, rfl, hlt, h⟩
    have hn : (BitVec.ofNat 8 sent.node).toNat = sent.node := by simp [Nat.mod_eq_of_lt hlt]
    rw [← crc]
    cases x with
    | data tag busy words =>
      obtain ⟨hs, hw, rfl⟩ := h
      exact ⟨_, _, _, rfl, hn, replyForm_eq_some.mpr ⟨hs, hw, rfl, rfl⟩⟩
    | ack => obtain ⟨hs, rfl⟩ := h; exact ⟨_, _, _, rfl, hn, replyForm_eq_some.mpr ⟨hs, rfl, rfl⟩⟩
    | nack badValue => obtain ⟨hs, rfl⟩ := h; exact ⟨_, _, _, rfl, hn, replyForm_eq_some.mpr ⟨hs, rfl, rfl⟩⟩

/-! ## Failed attempts (R6, R7) -/

/-- The second of two updates of an entry stands. -/
theorem Chain.setNode_setNode (c : Chain) (n : Nat) (e e' : NodeEntry) : (c.setNode n e).setNode n e' = c.setNode n e' := by
  unfold Chain.setNode
  split
  · rfl
  · simp

/-- The alert of a count that reaches 15 by `k` failed attempts; `code` 0 is the CRC count, 1 the timeout count (R7). -/
def countAlert (n count k code : Nat) : List (AlertKind × List Byte) :=
  if count < 15 ∧ 15 ≤ count + k then [(.nodeCounterFull, [BitVec.ofNat 8 n, BitVec.ofNat 8 code])] else []

theorem State.countCrc_eq (s : State) {n : Nat} (k : Nat) (h : 1 ≤ n ∧ n ≤ 20) : s.countCrc n k = { s with
    chain := s.chain.setNode n { s.chain.node n with crcCount := min 15 ((s.chain.node n).crcCount + k) }
    transit := { s.transit with alerts := s.transit.alerts ++ countAlert n (s.chain.node n).crcCount k 0 } } := by
  have hp : nodePresent n = true := by simp [nodePresent, h]
  have hpay := packFields_two n 0
  by_cases hc : (s.chain.node n).crcCount < 15 ∧ 15 ≤ (s.chain.node n).crcCount + k
  · simp only [State.countCrc, hp, countAlert, hc]
    simp [State.raise, State.onTransit, State.onChain, satAdd, ← hpay]
  · simp only [State.countCrc, hp, countAlert, hc]
    simp [State.onChain, satAdd]

theorem State.countTimeout_eq (s : State) {n : Nat} (k : Nat) (h : 1 ≤ n ∧ n ≤ 20) : s.countTimeout n k = { s with
    chain := s.chain.setNode n { s.chain.node n with timeoutCount := min 15 ((s.chain.node n).timeoutCount + k) }
    transit := { s.transit with alerts := s.transit.alerts ++ countAlert n (s.chain.node n).timeoutCount k 1 } } := by
  have hp : nodePresent n = true := by simp [nodePresent, h]
  have hpay := packFields_two n 1
  by_cases hc : (s.chain.node n).timeoutCount < 15 ∧ 15 ≤ (s.chain.node n).timeoutCount + k
  · simp only [State.countTimeout, hp, countAlert, hc]
    simp [State.raise, State.onTransit, State.onChain, satAdd, ← hpay]
  · simp only [State.countTimeout, hp, countAlert, hc]
    simp [State.onChain, satAdd]

/-- The frames of a transaction with one node. -/
def ChainFrame.isNodeFrame : ChainFrame → Bool
  | .read _ _ _ | .write _ _ _ => true
  | _ => false

/-- The state in which an attempt with node `n` has been counted as failed (R7). -/
def State.attemptCounted (s : State) (n : Nat) (crc : Bool) : State := { s with
  chain := s.chain.setNode n ((s.chain.node n).attempted crc)
  transit := { s.transit with alerts := s.transit.alerts ++ (s.chain.node n).fullAlert n crc } }

/-- A failed attempt with a node: its count, its last error, and the alert where the count has reached 15 (R7). -/
theorem State.attemptFailed_node {s : State} {e : Engine} {n : Nat} (hf : e.frame.isNodeFrame = true) (hn : e.frame.node = n)
    (h : 1 ≤ n ∧ n ≤ 20) (crc : Bool) : s.attemptFailed e crc = s.attemptCounted n crc := by
  have hfold : s.attemptFailed e crc = State.setNodeError (if crc then s.countCrc n 1 else s.countTimeout n 1) n
      (if crc then .crc else .timeout) := by
    unfold State.attemptFailed
    rw [← hn]
    cases hfr : e.frame <;> simp_all [ChainFrame.isNodeFrame]
  have hfull (k : Nat) : (k < 15 ∧ 14 ≤ k) ↔ k = 14 := by omega
  rw [hfold]
  cases crc
  · simp [State.countTimeout_eq s 1 h, State.setNodeError, State.onChain, State.attemptCounted, countAlert, hfull,
      Chain.node_setNode_self _ _ h, Chain.setNode_setNode, NodeEntry.setError, NodeEntry.attempted, NodeEntry.fullAlert]
  · simp [State.countCrc_eq s 1 h, State.setNodeError, State.onChain, State.attemptCounted, countAlert, hfull,
      Chain.node_setNode_self _ _ h, Chain.setNode_setNode, NodeEntry.setError, NodeEntry.attempted, NodeEntry.fullAlert]

@[simp] theorem Chain.setNode_engine (c : Chain) (n : Nat) (x : NodeEntry) : (c.setNode n x).engine = c.engine := by
  rw [Chain.setNode_eq]

/-- The same, with the frame leaving its port again. -/
def State.attemptResent (s : State) (e : Engine) (n : Nat) (crc : Bool) : State := { s.attemptCounted n crc with
  chain := (s.attemptCounted n crc).chain.send { e with attemptsLeft := e.attemptsLeft - 1 } }

/-- An attempt with a node that failed with attempts left: counted, and the frame leaves its port again. -/
theorem State.endAttempt_resent {s : State} {e : Engine} {n : Nat} (he : s.chain.engine = some e)
    (hf : e.frame.isNodeFrame = true) (hn : e.frame.node = n) (h : 1 ≤ n ∧ n ≤ 20) (hleft : 1 ≤ e.attemptsLeft)
    (crc : Bool) : s.endAttempt e crc = s.attemptResent e n crc := by
  rw [State.endAttempt, State.attemptFailed_node hf hn h, if_neg (by omega)]
  simp [State.onChain, State.attemptCounted, State.attemptResent, he]

/-- A chain event that fails an attempt with attempts left. -/
theorem State.resent_publish {s u : State} {e : Engine} {n : Nat} (hl : u.listIdle) (he : u.chain.engine = some e)
    (hf : e.frame.isNodeFrame = true) (hn : e.frame.node = n) (h : 1 ≤ n ∧ n ≤ 20) (hleft : 1 ≤ e.attemptsLeft)
    (hq : u.chain.quiet e.port = false) (hshown : u.sameShown s) (crc : Bool) :
    u.resent (((u.endAttempt e crc).settle).publish s) e n crc := by
  have hsettle : (u.attemptResent e n crc).settle = u.attemptResent e n crc :=
    State.settle_of_settleStep (State.settleStep_of_engine hl rfl)
  have hpublish : (u.attemptResent e n crc).publish s = u.attemptResent e n crc := State.publish_of_sameShown hshown
  rw [State.endAttempt_resent he hf hn h hleft, hsettle, hpublish]
  have hq' : (u.attemptCounted n crc).chain.quiet e.port = false := by
    rw [State.attemptCounted, Chain.setNode_eq]
    cases hp : e.port <;> rw [hp] at hq <;> exact hq
  refine ⟨by simp [State.attemptResent, Chain.send], by simp [State.attemptResent, Chain.send, hq'], rfl, ?_, ?_, rfl,
    by simp [sameExcept_iff, State.attemptResent, State.attemptCounted]⟩
  · exact Chain.node_setNode_self _ _ h
  · intro m hm
    exact Chain.node_setNode_other _ _ hm

/-! ### The rows that end an attempt -/

theorem State.exec_replyReceived {s : State} {e : Engine} (ht : s.taking) (he : s.chain.engine = some e)
    (hphase : e.phase = .awaiting ∨ e.phase = .receiving) (bytes : List Byte) :
    exec (.replyReceived e.port bytes) s = .next (((s.replied e bytes).settle).publish s) := by
  refine (show exec (.replyReceived e.port bytes) s =
    s.engineEvent fun s x => if x.listens e.port then s.replied x bytes else s from rfl).trans ?_
  rw [State.engineEvent_some ht he, if_pos (by simpa [Engine.listens] using hphase)]

theorem State.exec_replyReceived_bad {s : State} {e : Engine} {bytes : List Byte} (ht : s.taking)
    (he : s.chain.engine = some e) (hphase : e.phase = .awaiting ∨ e.phase = .receiving)
    (hj : judgeReply e.frame bytes = none) :
    exec (.replyReceived e.port bytes) s = .next (((s.endAttempt e true).settle).publish s) := by
  rw [State.exec_replyReceived ht he hphase, State.replied, hj]

theorem State.exec_chainBytePause {s : State} {e : Engine} (ht : s.taking) (he : s.chain.engine = some e)
    (hphase : e.phase = .receiving) :
    exec (.chainBytePause e.port) s = .next (((s.endAttempt e true).settle).publish s) := by
  refine (show exec (.chainBytePause e.port) s =
    s.engineEvent fun s x => if x.port = e.port ∧ x.phase = .receiving then s.endAttempt x true else s from rfl).trans ?_
  rw [State.engineEvent_some ht he, if_pos ⟨rfl, hphase⟩]

theorem State.exec_replyTimeout {s : State} {e : Engine} {r : Nat} (ht : s.taking) (he : s.chain.engine = some e)
    (hphase : e.phase = .awaiting) (hr : s.chain.replyTimer = some r) :
    exec .replyTimeout s = .next ((((s.elapse r).endAttempt e false).settle).publish s) := by
  refine (show exec .replyTimeout s = s.engineEvent fun s e => if e.phase = .awaiting then
    s.onExpiry s.chain.replyTimer fun s => s.endAttempt e false else s from rfl).trans ?_
  rw [State.engineEvent_some ht he, if_pos hphase, hr, State.onExpiry_some]

/-- The rows that end a last attempt as a failure are one event: the failed attempt, from the state they find. -/
theorem State.exec_lastAttemptFails {s u : State} {e : Engine} {c : Instr} {crc : Bool} (ht : s.taking)
    (he : s.chain.engine = some e) (h : s.lastAttemptFails e c u crc) :
    exec c s = .next (((u.endAttempt e crc).settle).publish s) := by
  obtain ⟨-, ⟨bytes, rfl, hphase, hj, rfl, rfl⟩ | ⟨rfl, hphase, rfl, rfl⟩ | ⟨r, rfl, hphase, hr, rfl, rfl⟩⟩ := h
  · exact State.exec_replyReceived_bad ht he hphase hj
  · exact State.exec_chainBytePause ht he hphase
  · exact State.exec_replyTimeout ht he hphase hr

/-- Settles O37: the CRC bit by bit, the forms of a reply one by one, and the three ways an attempt fails. -/
theorem failedAttemptsAreCountedAndSentAgain : Obligations.FailedAttemptsAreCountedAndSentAgain := by
  refine ⟨judgeReply_iff_goodReply, by decide +kernel, ?_⟩
  intro e n s ht hl he hn hframe hleft hq
  have hf : e.frame.isNodeFrame = true := by
    rcases hframe with ⟨b, k, h⟩ | ⟨b, v, h⟩ <;> rw [h] <;> rfl
  have hnode : e.frame.node = n := by rcases hframe with ⟨b, k, h⟩ | ⟨b, v, h⟩ <;> rw [h] <;> rfl
  refine ⟨?_, ?_, ?_⟩
  · intro bytes hphase hjudge
    refine ⟨_, State.exec_replyReceived_bad ht he hphase hjudge, ?_⟩
    exact State.resent_publish hl he hf hnode hn hleft hq (by simp [State.sameShown]) true
  · intro hphase
    refine ⟨_, State.exec_chainBytePause ht he hphase, ?_⟩
    exact State.resent_publish hl he hf hnode hn hleft hq (by simp [State.sameShown]) true
  · intro r hphase hr
    refine ⟨_, State.exec_replyTimeout ht he hphase hr, ?_⟩
    exact State.resent_publish (by simpa using hl) (by simpa using he) hf hnode hn hleft (by simpa using hq) (by simp) false

end Sys2Proof.Machine

namespace Sys2Proof.Machine

open Sys2Proof

/-! ## READ_NODE and WRITE_NODE complete (R21, R22) -/

/-- The order has one transaction, with node `a`. -/
def ChainOrder.isNodeOrder (o : ChainOrder) (a : Nat) : Prop :=
  (∃ b k, o.job = .readNode a b k) ∨ ∃ b v, o.job = .writeNode a b v

theorem State.orderEnded_node {s : State} {o : ChainOrder} {a : Nat} (hs : s.chain.slot = some o) (ho : o.isNodeOrder a)
    (x : TransactionEnd) : s.orderEnded x = s.nodeOrderEnded o a x := by
  rcases ho with ⟨b, k, hj⟩ | ⟨b, v, hj⟩ <;> simp [State.orderEnded, hs, hj]

/-- The chain with a transaction over and the order in its slot completed. -/
def Chain.orderFreed (c : Chain) : Chain := { c with
  engine := none, txTimer := none, replyTimer := none, watchTimer := none, idleTimer := some 50000, slot := none
  waitTimer := none }

/-- Behind the completion of the chain's order nothing follows, where no other request waits. -/
theorem State.settle_completeChainOrder {s : State} {o : ChainOrder} (hw : s.onlyOrderWaits) (hs : s.chain.slot = some o)
    (code : Completion) (detail : Word) (answer : List Byte) (truncated : Bool) :
    (s.completeChainOrder code detail answer truncated).settle =
      { s.complete o.buffer code detail answer false truncated with
        chain := { s.chain with slot := none, waitTimer := none } } := by
  obtain ⟨hl, h1, h2, h3⟩ := hw
  rw [State.completeChainOrder_some hs]
  exact State.settle_of_workIdle ⟨hl, .inr ⟨h1, h2, h3, rfl⟩⟩

/-- A transaction of the order ends with a good reply, or with none: the outcome goes to the order. -/
theorem State.finishTransaction_order {s : State} {e : Engine} (he : e.requester = .order) {x : TransactionEnd}
    (hx : ∀ badValue, x ≠ .nack badValue) (hack : x = .ack → ∀ n, e.frame ≠ .enumerate n) :
    s.finishTransaction e x = (s.onChain Chain.freeEngine).orderEnded x := by
  unfold State.finishTransaction
  rw [he]
  split
  · exact absurd rfl (hx _)
  · exact absurd (by assumption) (hack rfl _)
  · rfl

/-- A NACK is kept as the node's last error, and goes to the order (R6, R7). -/
theorem State.finishTransaction_nack (s : State) (e : Engine) (badValue : Bool) : s.finishTransaction e (.nack badValue) =
    ((s.onChain Chain.freeEngine).setNodeError e.frame.node (if badValue then .nackBadValue else .nackBadBlock)).deliver
      e.requester e.frame (.nack badValue) := by
  unfold State.finishTransaction; rfl

/-- A last attempt with a node that fails: counted, and the failure goes to the requester. -/
theorem State.endAttempt_last {s : State} {e : Engine} {n : Nat} (hf : e.frame.isNodeFrame = true)
    (hn : e.frame.node = n) (h : 1 ≤ n ∧ n ≤ 20) (hleft : e.attemptsLeft = 0) (crc : Bool) : s.endAttempt e crc =
      (s.attemptCounted n crc).finishTransaction e (if crc then .crcFailure else .timeout) := by
  rw [State.endAttempt, State.attemptFailed_node hf hn h, if_pos hleft]

theorem readAnswer_length (n : Nat) (tag : Byte) (busy : Bool) (words : List Half) :
    (readAnswer n tag busy words).length = 4 + 2 * words.length := by
  have : (words.map fun w => leBytes 2 w.toNat).flatten.length = 2 * words.length := by
    rw [List.length_flatten, List.map_map]
    have : (List.length ∘ fun w : Half => leBytes 2 w.toNat) = fun _ => 2 := by funext w; simp
    rw [this]; simp [Nat.mul_comm]
  rw [readAnswer, List.length_append, this]
  simp

/-- Records of one length stand one behind the other. -/
theorem getElem?_flatten_map {α : Type} {f : α → List Byte} {k : Nat} (hf : ∀ a, (f a).length = k) {l : List α} {i j : Nat}
    {x : α} (h : l[i]? = some x) (hj : j < k) : (l.map f).flatten[k * i + j]? = (f x)[j]? := by
  induction l generalizing i with
  | nil => simp at h
  | cons y l ih =>
    rw [List.map_cons, List.flatten_cons]
    cases i with
    | zero =>
      obtain rfl : y = x := by simpa using h
      rw [List.getElem?_append_left (by simpa [hf] using hj)]
      simp
    | succ i =>
      have hk : k * (i + 1) + j = k + (k * i + j) := by ring
      rw [hk, List.getElem?_append_right (by rw [hf]; omega), hf, Nat.add_sub_cancel_left]
      exact ih (by simpa using h)

/-- The bytes of a word stand in the answer behind its first four bytes, two for each word before it. -/
theorem readAnswer_word (n : Nat) (tag : Byte) (busy : Bool) {words : List Half} {i : Nat} {w : Half}
    (h : words[i]? = some w) {j : Nat} (hj : j < 2) :
    (readAnswer n tag busy words)[4 + 2 * i + j]? = (leBytes 2 w.toNat)[j]? := by
  rw [readAnswer, List.getElem?_append_right (by simp; omega),
    ← getElem?_flatten_map (f := fun w : Half => leBytes 2 w.toNat) (fun _ => leBytes_length _ _) h hj]
  congr 1
  simp
  omega

/-- The event that completes the chain's order, with nothing behind it. -/
theorem State.publish_completeChainOrder {s old : State} {o : ChainOrder} (hw : s.onlyOrderWaits)
    (hs : s.chain.slot = some o) (hm : s.memoryOk) (hn : s.pool.sound o.buffer) (hr : s.sameReported old)
    (code : Completion) (detail : Word) (answer : List Byte) (truncated : Bool) :
    ∃ t, ((s.completeChainOrder code detail answer truncated).settle).publish old = t ∧
      Completed s t o.buffer code detail (2 * boolCode truncated) ∧
      t.chain = { s.chain with slot := none, waitTimer := none } ∧ SameExcept [.pool, .chain] s t ∧
      ∀ i (hi : i < answer.length), 16 + i < (s.pool.entry o.buffer).capacity →
        t.pool.readBuffer o.buffer (16 + i) = answer[i] := by
  rw [State.settle_completeChainOrder hw hs]
  refine ⟨_, rfl, ?_, by simp, ?_, ?_⟩
  · have := State.completed_publish (old := old) (u := { s.complete o.buffer code detail answer false truncated with
      chain := { s.chain with slot := none, waitTimer := none } }) code detail answer false truncated hm hn rfl rfl
    simpa [boolCode] using this
  · exact SameExcept.publish (by simp [sameExcept_iff]) hr (by simp)
  · intro i hi hc
    rw [State.publish_readBuffer]
    exact State.complete_answer code detail answer false truncated hm hn hi hc

/-- A good DATA reply to a READ_NODE's read completes it with the words it carries. -/
theorem State.nodeRead_data {s : State} {e : Engine} {o : ChainOrder} {a : Nat} (ht : s.taking) (hw : s.onlyOrderWaits)
    (hm : s.memoryOk) (hn : s.pool.sound o.buffer) (he : s.chain.engine = some e) (hreq : e.requester = .order)
    (hs : s.chain.slot = some o) (ho : o.isNodeOrder a) {bytes : List Byte}
    (hphase : e.phase = .awaiting ∨ e.phase = .receiving) {tag : Byte} {busy : Bool} {words : List Half}
    (hj : judgeReply e.frame bytes = some (.data tag busy words)) : ∃ t, exec (.replyReceived e.port bytes) s = .next t ∧
      Completed s t o.buffer .ok 0 (if s.answerRoom o.buffer < 4 + 2 * words.length then 2 else 0) ∧
      t.chain = s.chain.orderFreed ∧ SameExcept [.pool, .chain] s t ∧
      ∀ i b, (readAnswer a tag busy words)[i]? = some b → i < s.answerRoom o.buffer →
        t.pool.readBuffer o.buffer (16 + i) = b := by
  have hfinish : s.replied e bytes = (s.onChain Chain.freeEngine).completeChainOrder .ok 0
      ((readAnswer a tag busy words).take (s.answerRoom o.buffer))
      (decide (s.answerRoom o.buffer < 4 + 2 * words.length)) := by
    rw [State.replied, hj, ← readAnswer_length a tag busy words]
    dsimp only
    rw [State.finishTransaction_order hreq (by simp) (by simp), State.orderEnded_node (o := o) (by exact hs) ho]
    rfl
  obtain ⟨t, hpub, hdone, hchain, hsame, hbytes⟩ := State.publish_completeChainOrder (s := s.onChain Chain.freeEngine)
    (old := s) hw hs hm hn (by simp [State.sameReported]) .ok 0 ((readAnswer a tag busy words).take (s.answerRoom o.buffer))
    (decide (s.answerRoom o.buffer < 4 + 2 * words.length))
  refine ⟨t, by rw [State.exec_replyReceived ht he hphase, hfinish, hpub], ?_, hchain, ?_, ?_⟩
  · have hflag : 2 * boolCode (decide (s.answerRoom o.buffer < 4 + 2 * words.length)) =
        if s.answerRoom o.buffer < 4 + 2 * words.length then 2 else 0 := by
      by_cases h : s.answerRoom o.buffer < 4 + 2 * words.length <;> simp [h, boolCode]
    rw [hflag] at hdone
    exact hdone
  · rw [sameExcept_iff] at hsame ⊢
    simpa using hsame
  · intro i b hb hi
    have hlt : i < ((readAnswer a tag busy words).take (s.answerRoom o.buffer)).length := by
      rw [List.length_take]
      exact Nat.lt_min.mpr ⟨hi, (List.getElem?_eq_some_iff.mp hb).1⟩
    rw [hbytes i hlt (by simp only [State.answerRoom] at hi; show 16 + i < (s.pool.entry o.buffer).capacity; omega)]
    simpa using (List.getElem?_eq_some_iff.mp hb).2

/-- An ACK to a WRITE_NODE's write completes it OK. -/
theorem State.nodeWrite_ack {s : State} {e : Engine} {o : ChainOrder} {a : Nat} (ht : s.taking) (hw : s.onlyOrderWaits)
    (hm : s.memoryOk) (hn : s.pool.sound o.buffer) (he : s.chain.engine = some e) (hreq : e.requester = .order)
    (hs : s.chain.slot = some o) (ho : o.isNodeOrder a) (hf : e.frame.isNodeFrame = true) {bytes : List Byte}
    (hphase : e.phase = .awaiting ∨ e.phase = .receiving) (hj : judgeReply e.frame bytes = some .ack) :
    ∃ t, exec (.replyReceived e.port bytes) s = .next t ∧ Completed s t o.buffer .ok 0 0 ∧
      t.chain = s.chain.orderFreed ∧ SameExcept [.pool, .chain] s t := by
  have hfinish : s.replied e bytes = (s.onChain Chain.freeEngine).completeChainOrder .ok 0 := by
    rw [State.replied, hj]
    dsimp only
    rw [State.finishTransaction_order hreq (by simp) (fun _ n hfr => by simp [hfr, ChainFrame.isNodeFrame] at hf),
      State.orderEnded_node (o := o) (by exact hs) ho]
    rfl
  obtain ⟨t, hpub, hdone, hchain, hsame, -⟩ := State.publish_completeChainOrder (s := s.onChain Chain.freeEngine)
    (old := s) hw hs hm hn (by simp [State.sameReported]) .ok 0 [] false
  refine ⟨t, by rw [State.exec_replyReceived ht he hphase, hfinish, hpub], hdone, hchain, ?_⟩
  rw [sameExcept_iff] at hsame ⊢
  simpa using hsame

/-- What an update of one entry leaves of the chain. -/
theorem Chain.setNode_keeps (c : Chain) (n : Nat) (x : NodeEntry) :
    (c.setNode n x).slot = c.slot ∧ (c.setNode n x).location = c.location ∧ (c.setNode n x).seqRequest = c.seqRequest ∧
    (c.setNode n x).sleepRequest = c.sleepRequest := by
  rw [Chain.setNode_eq]
  exact ⟨rfl, rfl, rfl, rfl⟩

/-- A failure of the order's one transaction, whose last count and error stand in the node's entry `x`: the order
completes with the code and detail that the failure gives. -/
theorem State.nodeOrder_fails {s u : State} {o : ChainOrder} {a : Nat} (hw : u.onlyOrderWaits)
    (hm : u.memoryOk) (hn : u.pool.sound o.buffer) (hs : u.chain.slot = some o) (hr : u.sameReported s)
    (ha : 1 ≤ a ∧ a ≤ 20) (x : NodeEntry) (code : Completion) (detail : Word) :
    ∃ t, (((State.onChain (fun c => c.freeEngine.setNode a x) u).completeChainOrder code detail).settle).publish s = t ∧
      Completed u t o.buffer code detail 0 ∧ t.chain = { u.chain.orderFreed with nodes := t.chain.nodes } ∧
      t.chain.node a = x ∧ (∀ m, m ≠ a → t.chain.node m = u.chain.node m) ∧ SameExcept [.pool, .chain] u t := by
  obtain ⟨hl, h1, h2, h3⟩ := hw
  obtain ⟨k1, k2, k3, k4⟩ := Chain.setNode_keeps u.chain.freeEngine a x
  obtain ⟨t, hpub, hdone, hchain, hsame, -⟩ := State.publish_completeChainOrder
    (s := State.onChain (fun c => c.freeEngine.setNode a x) u) (old := s)
    ⟨hl, k2.trans h1, k3.trans h2, k4.trans h3⟩ (k1.trans hs) hm hn hr code detail [] false
  have hnode (m : Nat) : t.chain.node m = (u.chain.freeEngine.setNode a x).node m := by rw [hchain]; rfl
  refine ⟨t, hpub, hdone, ?_, ?_, ?_, ?_⟩
  · rw [hchain, State.onChain_chain, Chain.setNode_eq]
    rfl
  · rw [hnode, Chain.node_setNode_self _ _ ha]
  · intro m hm
    rw [hnode, Chain.node_setNode_other _ _ hm]
    rfl
  · rw [sameExcept_iff] at hsame ⊢
    simpa using hsame

/-- The failing event finds the state itself, or the state once a time has passed. -/
theorem State.lastAttemptFails.state {s u : State} {e : Engine} {c : Instr} {crc : Bool}
    (h : s.lastAttemptFails e c u crc) : u = s ∨ ∃ r, u = s.elapse r := by
  obtain ⟨-, ⟨-, -, -, -, h, -⟩ | ⟨-, -, h, -⟩ | ⟨r, -, -, -, h, -⟩⟩ := h
  exacts [.inl h, .inl h, .inr ⟨r, h⟩]

/-- Settles O38, by the four ends of the transaction. -/
theorem nodeReadCompletesWithItsReply : Obligations.NodeReadCompletesWithItsReply := by
  intro e o a b s ht hl hm hn he hreq hs h1 h2 h3 ha reads writes freed
  have hw : s.onlyOrderWaits := ⟨hl, h1, h2, h3⟩
  have either (h : (∃ k, reads k) ∨ ∃ v, writes v) :
      o.isNodeOrder a ∧ e.frame.isNodeFrame = true ∧ e.frame.node = a := by
    rcases h with ⟨k, hf, hj⟩ | ⟨v, hf, hj⟩
    · exact ⟨.inl ⟨b, k, hj⟩, by rw [hf]; rfl, by rw [hf]; rfl⟩
    · exact ⟨.inr ⟨b, v, hj⟩, by rw [hf]; rfl, by rw [hf]; rfl⟩
  refine ⟨?_, ?_⟩
  · intro bytes hphase
    refine ⟨?_, ?_, ?_⟩
    · intro k tag busy words hread hj
      obtain ⟨ho, -, -⟩ := either (.inl ⟨k, hread⟩)
      obtain ⟨t, hexec, hdone, hchain, hsame, hbytes⟩ :=
        State.nodeRead_data ht hw hm hn he hreq hs ho hphase hj
      have hroom : 240 ≤ s.answerRoom o.buffer := by
        have := hn.capacity
        simp only [State.answerRoom]; omega
      refine ⟨t, hexec, hdone, hbytes 0 _ rfl (by omega), ?_, hbytes 2 _ rfl (by omega), hbytes 3 _ rfl (by omega), ?_,
        hchain, hsame⟩
      · rw [hbytes 1 _ rfl (by omega)]
        cases busy <;> rfl
      · intro i w hiw hi
        rw [State.orderHalf_of_readBuffer (bs := leBytes 2 w.toNat) (by simp), ofLe_leBytes_half]
        intro j hj
        have hj2 : j < 2 := by simpa using hj
        rw [show 20 + 2 * i + j = 16 + (4 + 2 * i + j) by omega]
        refine hbytes _ _ ?_ (by omega)
        rw [readAnswer_word a tag busy hiw hj2, List.getElem?_eq_getElem hj]
    · intro v hwrite hj
      obtain ⟨ho, hf, -⟩ := either (.inr ⟨v, hwrite⟩)
      exact State.nodeWrite_ack ht hw hm hn he hreq hs ho hf hphase hj
    · intro badValue hrw hj
      obtain ⟨ho, hf, hnode⟩ := either hrw
      obtain ⟨t, hpub, hdone, hchain, hself, hother, hsame⟩ := State.nodeOrder_fails hw hm hn hs (s := s)
        (by simp [State.sameReported]) ha
        { s.chain.node a with lastError := if badValue then .nackBadValue else .nackBadBlock }
        .refusedState (if badValue then 2 else 1)
      refine ⟨t, ?_, hdone, hchain, hself, hother, hsame⟩
      have hfinish : s.replied e bytes = (State.onChain (fun c => c.freeEngine.setNode a
          { s.chain.node a with lastError := if badValue then .nackBadValue else .nackBadBlock }) s).completeChainOrder
            .refusedState (if badValue then 2 else 1) := by
        rw [State.replied, hj]
        dsimp only
        rw [State.finishTransaction_nack, hreq, hnode, State.deliver, State.orderEnded_node (o := o) _ ho]
        · cases badValue <;> rfl
        · exact (Chain.setNode_keeps _ _ _).1.trans hs
      rw [State.exec_replyReceived ht he hphase, hfinish, hpub]
  · intro c u crc hrw hfail
    obtain ⟨ho, hf, hnode⟩ := either hrw
    have hu := hfail.state
    have hnode_u (m : Nat) : u.chain.node m = s.chain.node m := by rcases hu with rfl | ⟨r, rfl⟩ <;> simp
    have halerts : u.transit.alerts = s.transit.alerts := by rcases hu with rfl | ⟨r, rfl⟩ <;> simp
    have hslot : u.chain.slot = some o := by rcases hu with rfl | ⟨r, rfl⟩ <;> simpa using hs
    let v : State := { u with transit :=
      { u.transit with alerts := u.transit.alerts ++ (u.chain.node a).fullAlert a crc } }
    obtain ⟨t, hpub, hdone, hchain, hself, hother, hsame⟩ := State.nodeOrder_fails (u := v) (s := s)
      (show u.onlyOrderWaits by rcases hu with rfl | ⟨r, rfl⟩ <;> simpa [State.onlyOrderWaits, State.listIdle] using hw)
      (show u.memoryOk by rcases hu with rfl | ⟨r, rfl⟩ <;> simpa using hm)
      (show u.pool.sound o.buffer by rcases hu with rfl | ⟨r, rfl⟩ <;> simpa using hn) hslot
      (show u.sameReported s by rcases hu with rfl | ⟨r, rfl⟩ <;> simp [State.sameReported]) ha
      ((u.chain.node a).attempted crc) .timeout (if crc then 1 else 2)
    refine ⟨t, ?_, hdone, hchain, by rw [hself, hnode_u], fun m hm => by rw [hother m hm, ← hnode_u], ?_, ?_⟩
    · have hfinish : u.endAttempt e crc = (State.onChain (fun c => c.freeEngine.setNode a
          ((u.chain.node a).attempted crc)) v).completeChainOrder .timeout (if crc then 1 else 2) := by
        rw [State.endAttempt_last hf hnode ha hfail.1, State.finishTransaction_order hreq (by cases crc <;> simp)
          (by cases crc <;> simp), State.orderEnded_node (o := o) _ ho]
        · have hfree : (u.chain.setNode a ((u.chain.node a).attempted crc)).freeEngine =
              u.chain.freeEngine.setNode a ((u.chain.node a).attempted crc) := by
            unfold Chain.setNode; split <;> rfl
          have hstate : (u.attemptCounted a crc).onChain Chain.freeEngine =
              State.onChain (fun c => c.freeEngine.setNode a ((u.chain.node a).attempted crc)) v := by
            simp [State.onChain, State.attemptCounted, hfree, v]
          rw [hstate]
          cases crc <;> rfl
        · exact (Chain.setNode_keeps _ _ _).1.trans hslot
      rw [State.exec_lastAttemptFails ht he hfail, hfinish, hpub]
    · have : t.transit = v.transit := hsame .transit (by simp)
      rw [this, ← halerts, ← hnode_u]
    · exact SameExcept.trans (t := v) (by simp [sameExcept_iff, v]) (hsame.mono (by simp))

end Sys2Proof.Machine

namespace Sys2Proof.Machine

open Sys2Proof

/-! ## READ_NODE and WRITE_NODE are taken (R20 to R22) -/

/-- The node and the frame of an order's one transaction with a node. -/
def ChainJob.nodeFrame : ChainJob → Option (Nat × ChainFrame)
  | .readNode n b k => some (n, .read n b k)
  | .writeNode n b v => some (n, .write n b v)
  | _ => none

theorem State.grantOrder_node {s : State} {o : ChainOrder} {a : Nat} {f : ChainFrame}
    (h : o.job.nodeFrame = some (a, f)) :
    s.grantOrder o = (s.onChain fun c => { c with waitTimer := none }).grantNode .order f a := by
  cases hj : o.job <;> simp only [hj, ChainJob.nodeFrame, Option.some.injEq, Prod.mk.injEq, reduceCtorEq] at h
  · obtain ⟨rfl, rfl⟩ := h; simp only [State.grantOrder, hj]
  · obtain ⟨rfl, rfl⟩ := h; simp only [State.grantOrder, hj]

/-- The port of a node's path. -/
def NodeEntry.port (x : NodeEntry) : Port := if x.path = .pathA then .a else .b

/-- How R9 handles a node that is not ABSENT. -/
theorem State.handling_present {s : State} {a : Nat} (hx : (s.chain.node a).state ≠ .absent) : s.handling a =
    if (s.chain.node a).path = .noPath then .noPath
    else .sent (s.chain.node a).port (if (s.chain.node a).state = .lost then 0 else s.profile.retryLimit) := by
  unfold State.handling NodeEntry.port
  cases hst : (s.chain.node a).state <;> cases hp : (s.chain.node a).path <;> simp_all

theorem State.orderTransaction_node {s : State} {o : ChainOrder} {a : Nat} {f : ChainFrame}
    (h : o.job.nodeFrame = some (a, f)) (hx : (s.chain.node a).state ≠ .absent) (hp : (s.chain.node a).path ≠ .noPath) :
    s.orderTransaction o = some (f, (s.chain.node a).port,
      if (s.chain.node a).state = .lost then 0 else s.profile.retryLimit) := by
  have hh := State.handling_present hx
  rw [if_neg hp] at hh
  cases hj : o.job <;> simp only [hj, ChainJob.nodeFrame, Option.some.injEq, Prod.mk.injEq, reduceCtorEq] at h
  · obtain ⟨rfl, rfl⟩ := h; simp only [State.orderTransaction, hj, hh]
  · obtain ⟨rfl, rfl⟩ := h; simp only [State.orderTransaction, hj, hh]

/-- A node order granted for a node without a path completes TIMEOUT with NO_REPLY (R9, R21). -/
theorem State.settle_nodeOrder_noPath {s : State} {o : ChainOrder} {a : Nat} {f : ChainFrame} (hw : s.onlyOrderWaits)
    (ht : s.taking) (hpower : s.sleep.power ≠ .asleep) (hs : s.chain.slot = some o)
    (h : o.job.nodeFrame = some (a, f)) (hx : (s.chain.node a).state ≠ .absent) (hp : (s.chain.node a).path = .noPath)
    (he : s.chain.engine = none) (hr : s.seq.sampler ≠ .running) : s.settle =
      { s.complete o.buffer .timeout 2 with chain := { s.chain with slot := none, waitTimer := none } } := by
  have hgrant : s.grantOrder o =
      { s.complete o.buffer .timeout 2 with chain := { s.chain with slot := none, waitTimer := none } } := by
    have hh : State.handling (s.onChain fun c => { c with waitTimer := none }) a = .noPath := by
      rw [State.handling_present (by exact hx), if_pos (by exact hp)]
    have ho : o.isNodeOrder a := by
      cases hj : o.job <;> simp only [hj, ChainJob.nodeFrame, Option.some.injEq, Prod.mk.injEq, reduceCtorEq] at h
      · exact .inl ⟨_, _, by rw [hj, h.1]⟩
      · exact .inr ⟨_, _, by rw [hj, h.1]⟩
    rw [State.grantOrder_node h, State.grantNode, hh]
    dsimp only
    rw [State.deliver, State.orderEnded_node (o := o) (by exact hs) ho]
    simp only [State.nodeOrderEnded, chainDetail_two]
    rw [State.completeChainOrder_some (o := o) (by exact hs)]
    rfl
  obtain ⟨hl, h1, h2, h3⟩ := hw
  refine State.settle_of_one (s' := { s.complete o.buffer .timeout 2 with
    chain := { s.chain with slot := none, waitTimer := none } }) ?_ ?_
  · rw [State.settleStep_of_listIdle hl, State.grantChain_of_candidate he ht hpower
      (State.candidate_order ⟨hl, h1, h2, h3⟩ hs hr), hgrant]
    simp [he]
  · exact State.settleStep_of_workIdle ⟨hl, .inr ⟨h1, h2, h3, rfl⟩⟩

/-- The state in which a chain order has been taken into its slot. -/
def State.heldOrder (s : State) (n : Nat) (job : ChainJob) : State := (s.taken n).holdChainOrder n job

/-- A node order whose tests have passed: it completes at once for a node without a path, else it is held for its one
transaction (R9, R20). -/
theorem State.nodeOrder_held {s : State} {n a : Nat} {job : ChainJob} {f : ChainFrame} (hw : s.onlyOrderWaits)
    (ht : s.taking) (hpower : s.sleep.power ≠ .asleep) (h : job.nodeFrame = some (a, f))
    (hx : (s.chain.node a).state ≠ .absent) :
    if (s.chain.node a).path = .noPath ∧ s.chain.engine = none ∧ s.seq.sampler ≠ .running then
      (s.heldOrder n job).settle = { (s.taken n).complete n .timeout 2 with
        chain := { s.chain with slot := none, waitTimer := none } }
    else ∃ c, (s.heldOrder n job).settle = { s.taken n with chain := c } ∧
      s.chainOrderHeld { s.taken n with chain := c } n job f (s.chain.node a) := by
  have hw' : (s.heldOrder n job).onlyOrderWaits := hw
  split
  · rename_i hno
    obtain ⟨hp, he, hr⟩ := hno
    rw [State.settle_nodeOrder_noPath hw' ht hpower rfl h hx hp he hr]
    rfl
  · rename_i hno
    by_cases hblocked : s.chain.engine ≠ none ∨ s.seq.sampler = .running
    · refine ⟨_, State.settle_order_blocked hw' hblocked, ?_, fun _ => rfl⟩
      rintro ⟨he, hr, -⟩
      exact (hblocked.elim (· he) hr).elim
    · obtain ⟨he, hr⟩ := not_or.mp hblocked
      have he : s.chain.engine = none := not_not.mp he
      have hp : (s.chain.node a).path ≠ .noPath := fun hp => hno ⟨hp, he, hr⟩
      have hquiet : s.chain.quiet (s.chain.node a).port = false ↔
          (if (s.chain.node a).path = .pathA then s.chain.quietA else s.chain.quietB) = none := by
        unfold NodeEntry.port; split <;> simp [Chain.quiet]
      have ho : (s.heldOrder n job).orderTransaction ⟨n, job, s.chain.ringState, [], false⟩ =
          some (f, (s.chain.node a).port, if (s.chain.node a).state = .lost then 0 else s.profile.retryLimit) :=
        State.orderTransaction_node h (by exact hx) (by exact hp)
      by_cases hq : s.chain.quiet (s.chain.node a).port = false
      · have hdur : f.duration = 5 * f.bytes.length := by
          cases job <;> simp only [ChainJob.nodeFrame, Option.some.injEq, Prod.mk.injEq, reduceCtorEq] at h <;>
            (obtain ⟨-, rfl⟩ := h; rfl)
        refine ⟨_, State.settle_orderSent hw' ht he rfl hr hpower ho hq, ?_, ?_⟩
        · intro _
          have hq' : (s.heldOrder n job).chain.quiet (s.chain.node a).port = false := hq
          simp only [hq', ← hdur]
          rfl
        · intro hnf
          exact absurd ⟨he, hr, hquiet.mp hq⟩ hnf
      · refine ⟨_, State.settle_order_quiet hw' ht rfl hpower ho ((Bool.not_eq_false _).mp hq), ?_, fun _ => rfl⟩
        rintro ⟨-, -, hq'⟩
        exact absurd (hquiet.mpr hq') hq

/-- A node order whose tests have passed, as its row's event shows it. -/
theorem State.nodeOrder_accepted {s : State} {n a : Nat} {k : OrderKind} {job : ChainJob} {f : ChainFrame}
    (h : s.orderTaken n k) (hm : s.memoryOk) (hn : s.pool.sound n) (hw : s.onlyOrderWaits)
    (hk : (s.taken n).takeKind k n = s.heldOrder n job) (hjob : job.nodeFrame = some (a, f))
    (hx : (s.chain.node a).state ≠ .absent) : ∃ t, s.orderEvent k = .next t ∧
      if (s.chain.node a).path = .noPath ∧ s.chain.engine = none ∧ s.seq.sampler ≠ .running then
        Completed s t n .timeout 2 0 ∧ t.chain = { s.chain with slot := none, waitTimer := none } ∧
        SameExcept [.pool, .chain] s t
      else InService s t n ∧ SameExcept [.pool, .chain] s t ∧ s.chainOrderHeld t n job f (s.chain.node a) := by
  obtain ⟨htaking, hactive, -, hrange, -⟩ := h.taking
  have hheld := State.nodeOrder_held (n := n) hw htaking (by rw [hactive]; decide) hjob hx
  refine ⟨_, by rw [State.orderEvent_taken h, hk], ?_⟩
  split at hheld
  · rw [if_pos (by assumption), hheld]
    refine ⟨State.completed_publish_taken .timeout 2 [] false false hm hn rfl rfl, by simp, ?_⟩
    exact SameExcept.publish (by simp [sameExcept_iff]) (by simp [State.sameReported]) (by simp)
  · obtain ⟨c, hc, hchain⟩ := hheld
    rw [if_neg (by assumption), hc]
    refine ⟨State.inService_publish_taken hrange rfl, ?_, ?_⟩
    · exact SameExcept.publish (by simp [sameExcept_iff]) (by simp [State.sameReported]) (by simp)
    · simpa [State.chainOrderHeld] using hchain

theorem blockOf_eq_none {k : Nat} : blockOf k = none ↔ 4 ≤ k := by
  match k with
  | 0 | 1 | 2 | 3 => simp [blockOf]
  | k + 4 => simp [blockOf]

theorem nodePresent_eq_false {a : Nat} : nodePresent a = false ↔ a = 0 ∨ 20 < a := by
  simp [nodePresent]; omega

/-- The tests of READ_NODE in order, then its hold (R21). -/
theorem State.takeReadNode_eq (s : State) (n : Nat) : s.takeReadNode n =
    if s.body8 n 0 = 0 ∨ 20 < s.body8 n 0 ∨ 4 ≤ s.body8 n 1 ∨ s.body8 n 2 = 0 ∨ 16 < s.body8 n 2 then
      s.complete n .range 0
    else if (s.chain.node (s.body8 n 0)).state = .absent then s.complete n .refusedState 0
    else s.holdChainOrder n (.readNode (s.body8 n 0) ((blockOf (s.body8 n 1)).getD .identity) (s.body8 n 2)) := by
  have hp := nodePresent_eq_false (a := s.body8 n 0)
  have hb := blockOf_eq_none (k := s.body8 n 1)
  unfold State.takeReadNode
  cases hpres : nodePresent (s.body8 n 0) with
  | false =>
    have h := hp.mp hpres
    have ht : s.body8 n 0 = 0 ∨ 20 < s.body8 n 0 ∨ 4 ≤ s.body8 n 1 ∨ s.body8 n 2 = 0 ∨ 16 < s.body8 n 2 := by tauto
    simp only [if_pos ht, hpres]; rfl
  | true =>
    have h1 : ¬ (s.body8 n 0 = 0 ∨ 20 < s.body8 n 0) := by rw [← hp, hpres]; decide
    cases hblock : blockOf (s.body8 n 1) with
    | none =>
      have h := hb.mp hblock
      have ht : s.body8 n 0 = 0 ∨ 20 < s.body8 n 0 ∨ 4 ≤ s.body8 n 1 ∨ s.body8 n 2 = 0 ∨ 16 < s.body8 n 2 := by tauto
      simp only [if_pos ht, hpres]; rfl
    | some b =>
      have h2 : ¬ 4 ≤ s.body8 n 1 := by rw [← hb, hblock]; simp
      have ht : (s.body8 n 0 = 0 ∨ 20 < s.body8 n 0 ∨ 4 ≤ s.body8 n 1 ∨ s.body8 n 2 = 0 ∨ 16 < s.body8 n 2) ↔
          (s.body8 n 2 = 0 ∨ 16 < s.body8 n 2) := by tauto
      simp only [ht, hpres]; rfl

/-- The tests of WRITE_NODE in order, then its hold (R22). -/
theorem State.takeWriteNode_eq (s : State) (n : Nat) : s.takeWriteNode n =
    if s.body8 n 0 = 0 ∨ 20 < s.body8 n 0 ∨ 4 ≤ s.body8 n 1 then s.complete n .range 0
    else if (s.chain.node (s.body8 n 0)).state = .absent then s.complete n .refusedState 0
    else s.holdChainOrder n (.writeNode (s.body8 n 0) ((blockOf (s.body8 n 1)).getD .identity)
      (BitVec.ofNat 16 (s.body16 n 2))) := by
  have hp := nodePresent_eq_false (a := s.body8 n 0)
  have hb := blockOf_eq_none (k := s.body8 n 1)
  unfold State.takeWriteNode
  cases hpres : nodePresent (s.body8 n 0) with
  | false =>
    have h := hp.mp hpres
    have ht : s.body8 n 0 = 0 ∨ 20 < s.body8 n 0 ∨ 4 ≤ s.body8 n 1 := by tauto
    simp only [if_pos ht, hpres]; rfl
  | true =>
    have h1 : ¬ (s.body8 n 0 = 0 ∨ 20 < s.body8 n 0) := by rw [← hp, hpres]; decide
    cases hblock : blockOf (s.body8 n 1) with
    | none =>
      have h := hb.mp hblock
      have ht : s.body8 n 0 = 0 ∨ 20 < s.body8 n 0 ∨ 4 ≤ s.body8 n 1 := by tauto
      simp only [if_pos ht, hpres]; rfl
    | some b =>
      have h2 : ¬ 4 ≤ s.body8 n 1 := by rw [← hb, hblock]; simp
      have ht : ¬ (s.body8 n 0 = 0 ∨ 20 < s.body8 n 0 ∨ 4 ≤ s.body8 n 1) := by tauto
      simp only [if_neg ht, hpres]; rfl

/-- A node order by its tests: RANGE, REFUSED_STATE for an ABSENT node, else what R9 makes of it. -/
theorem State.nodeOrder_spec {s : State} {n a : Nat} {k : OrderKind} {job : ChainJob} {f : ChainFrame} (tests : Prop)
    [Decidable tests] (h : s.orderTaken n k) (hm : s.memoryOk) (hn : s.pool.sound n) (hw : s.onlyOrderWaits)
    (hslot : s.chain.slot = none)
    (hk : (s.taken n).takeKind k n = if tests then (s.taken n).complete n .range 0
      else if (s.chain.node a).state = .absent then (s.taken n).complete n .refusedState 0 else s.heldOrder n job)
    (hjob : job.nodeFrame = some (a, f)) : ∃ t, s.orderEvent k = .next t ∧
      if tests then Completed s t n .range 0 0 ∧ SameExcept [.pool] s t
      else if (s.chain.node a).state = .absent then Completed s t n .refusedState 0 0 ∧ SameExcept [.pool] s t
      else if (s.chain.node a).path = .noPath ∧ s.chain.engine = none ∧ s.seq.sampler ≠ .running then
        Completed s t n .timeout 2 0 ∧ t.chain = { s.chain with slot := none, waitTimer := none } ∧
        SameExcept [.pool, .chain] s t
      else InService s t n ∧ SameExcept [.pool, .chain] s t ∧ s.chainOrderHeld t n job f (s.chain.node a) := by
  have idle : s.workIdle := by
    obtain ⟨hlist, hlocation, hseq, hsleep⟩ := hw
    exact ⟨hlist, .inr ⟨hlocation, hseq, hsleep, hslot⟩⟩
  by_cases ht : tests
  · rw [if_pos ht] at hk
    obtain ⟨t, hexec, hdone, hsame, -⟩ := State.order_refused h hm hn idle hk
    exact ⟨t, hexec, by rw [if_pos ht]; exact ⟨hdone, hsame⟩⟩
  · rw [if_neg ht] at hk
    by_cases hx : (s.chain.node a).state = .absent
    · rw [if_pos hx] at hk
      obtain ⟨t, hexec, hdone, hsame, -⟩ := State.order_refused h hm hn idle hk
      exact ⟨t, hexec, by rw [if_neg ht, if_pos hx]; exact ⟨hdone, hsame⟩⟩
    · rw [if_neg hx] at hk
      obtain ⟨t, hexec, hshown⟩ := State.nodeOrder_accepted h hm hn hw hk hjob hx
      exact ⟨t, hexec, by rw [if_neg ht, if_neg hx]; exact hshown⟩

/-- Settles O27: the tests in their order, then the law of a node order whose tests have passed. -/
theorem nodeOrdersAreTestedThenWait : Obligations.NodeOrdersAreTestedThenWait := by
  intro n s hm hn hw
  have block {k : Nat} (h : ¬ 4 ≤ k) : blockOf k = some ((blockOf k).getD .identity) := by
    cases hb : blockOf k with
    | none => exact absurd (blockOf_eq_none.mp hb) h
    | some b => rfl
  refine ⟨fun h => ?_, fun h => ?_⟩
  · have hslot : s.chain.slot = none := by simpa [State.slotFree] using h.slotFree
    obtain ⟨t, hexec, hspec⟩ := State.nodeOrder_spec _ h hm hn hw hslot
      (by simp only [State.takeKind, State.takeReadNode_eq, State.taken_body8, State.taken_chain]; rfl) rfl
    refine ⟨t, hexec, ?_⟩
    dsimp only
    split_ifs at hspec ⊢
    · exact hspec
    · exact hspec
    · exact hspec
    · exact ⟨_, block (by tauto), hspec⟩
  · have hslot : s.chain.slot = none := by simpa [State.slotFree] using h.slotFree
    obtain ⟨t, hexec, hspec⟩ := State.nodeOrder_spec _ h hm hn hw hslot
      (by simp only [State.takeKind, State.takeWriteNode_eq, State.taken_body8, State.taken_body16, State.taken_chain]; rfl)
      rfl
    refine ⟨t, hexec, ?_⟩
    dsimp only
    split_ifs at hspec ⊢
    · exact hspec
    · exact hspec
    · exact hspec
    · exact ⟨_, block (by tauto), hspec⟩

end Sys2Proof.Machine

namespace Sys2Proof.Machine

open Sys2Proof

/-! ## ENTER_SLEEP (R148, R149, R24, R126) -/

/-- A grant makes no request. -/
theorem Pool.grant_noRequest {p : Pool} {r : Requester} (h : p.hasRequest r = false) : p.grant.hasRequest r = false := by
  cases hi : p.inProgress with
  | none => rw [Pool.grant_hasRequest p r hi, h]
  | some x => rw [Pool.grant, hi]; exact h

/-- What the withdrawal of a LINK allocation leaves (R126). -/
theorem State.withdrawLink_spec (s : State) :
    s.withdrawLink = { s with pool := s.withdrawLink.pool, link := s.withdrawLink.link } ∧
    s.withdrawLink.pool.memory = s.pool.memory ∧ s.withdrawLink.pool.table = s.pool.table ∧
    s.withdrawLink.pool.orderQueue = s.pool.orderQueue ∧ s.withdrawLink.pool.resultQueue = s.pool.resultQueue ∧
    s.withdrawLink.pool.releaseList = s.pool.releaseList ∧
    (s.pool.hasRequest .link = true → s.withdrawLink.pool.hasRequest .link = false ∧
      s.withdrawLink.pool.allocNumber = 0 ∧ s.withdrawLink.pool.allocReason = .abandoned ∧
      s.withdrawLink.link.allocDone = true) := by
  unfold State.withdrawLink
  by_cases h : s.pool.hasRequest .link = true
  · rw [if_pos h]
    dsimp only [State.onPool, State.onLink]
    rw [Pool.grant_eq]
    refine ⟨rfl, rfl, rfl, rfl, rfl, rfl, fun _ => ⟨?_, rfl, rfl, rfl⟩⟩
    rw [← Pool.grant_eq]
    refine Pool.grant_noRequest ?_
    rcases hi : s.pool.inProgress with _ | ⟨r, k⟩
    · simp [Pool.hasRequest]
    · cases r <;> simp [Pool.hasRequest]
  · rw [if_neg h]
    exact ⟨rfl, rfl, rfl, rfl, rfl, rfl, fun h' => absurd h' h⟩

/-- A SLEEP that the Sleep Controller asks for is sent on port A where nothing comes before it, else it waits (R147, R149). -/
theorem State.settle_sleepRequest {s : State} (hl : s.listIdle) (ht : s.taking) (hp : s.sleep.power ≠ .asleep)
    {f : ChainFrame} (hs : s.chain.sleepRequest = some f)
    (hw : s.chain.engine.isSome = true ∨ s.chain.location = none ∧ s.chain.seqRequest = none) :
    s.settle = if s.chain.engine.isSome || s.chain.quiet .a then s else { s with chain := { s.chain with
      engine := some ⟨.sleepController, f, .a, .sending, 0, s.profile.replyTimeout, 0, 0, .noError⟩
      txTimer := some f.duration, replyTimer := none, watchTimer := none, idleTimer := none, sleepRequest := none } } := by
  cases he : s.chain.engine with
  | some e =>
    rw [if_pos (by simp)]
    exact State.settle_of_settleStep (State.settleStep_of_engine hl (by simp [he]))
  | none =>
    obtain ⟨h1, h2⟩ : s.chain.location = none ∧ s.chain.seqRequest = none := by
      simpa [he] using hw
    have hc : s.candidate =
        some ((s.onChain fun c => { c with sleepRequest := none }).startTransaction .sleepController f .a 0) := by
      simp [State.candidate, h1, h2, hs]
    have hg := (State.settleStep_of_listIdle hl).trans (State.grantChain_of_candidate he ht hp hc)
    by_cases hq : s.chain.quiet .a = true
    · rw [if_pos (by simp [hq])]
      refine State.settle_of_settleStep (hg.trans ?_)
      have : Chain.quiet { s.chain with sleepRequest := none } .a = true := hq
      simp [State.startTransaction_eq, State.onChain, this]
    · have hq : s.chain.quiet .a = false := by simpa using hq
      have hquiet : Chain.quiet { s.chain with sleepRequest := none } .a = false := hq
      rw [if_neg (by simp [hq])]
      have hstart : (s.onChain fun c => { c with sleepRequest := none }).startTransaction .sleepController f .a 0 =
          { s with chain := { s.chain with
            engine := some ⟨.sleepController, f, .a, .sending, 0, s.profile.replyTimeout, 0, 0, .noError⟩
            txTimer := some f.duration, replyTimer := none, watchTimer := none, idleTimer := none
            sleepRequest := none } } := by
        simp [State.startTransaction_eq, State.onChain, hquiet]
      rw [hstart] at hg
      exact State.settle_of_one (hg.trans (by simp)) (State.settleStep_of_engine hl rfl)

theorem clampTime_eq (lo hi v : Nat) (h : lo ≤ hi) :
    clampTime lo hi v = (min hi (max lo v), decide (v < lo ∨ hi < v)) := by
  unfold clampTime
  split
  · simp; omega
  · split
    · simp; omega
    · simp; omega

/-- The end of a chain order that sleep entry finds in the slot (R24). -/
theorem State.abortChainOrder_some {s : State} {o : ChainOrder} (h : s.chain.slot = some o) : s.abortChainOrder =
    { s.complete o.buffer .aborted 0 with chain := { s.chain with
      slot := none, waitTimer := none, engine := s.chain.engine.map (Engine.discardFor .order)
      enumStatus := if s.chain.enumStatus = .running then .needed else s.chain.enumStatus } } := by
  simp only [State.abortChainOrder, h]
  rw [State.completeChainOrder_some h]
  rfl

theorem State.abortChainOrder_none {s : State} (h : s.chain.slot = none) : s.abortChainOrder = s := by
  simp [State.abortChainOrder, h]

/-- Sleep entry up to the end of the order in the chain's slot (R148, R149). -/
def State.entered (s : State) (n : Nat) (settings : PatrolSettings) (clamped : Bool) : State := { s with
  sleep := { s.sleep with
    power := .entering, phase := .entrySleep, slot := some ⟨n, clamped⟩, settings := settings, pendingReason := none
    nodesAsleep := false, failedSet := 0, patrolDue := false, patrol := none }
  sensing := { s.sensing with sampleTimer := none, burstTimer := none }
  cont := s.cont.suspend
  transit := { s.transit with toContactors := [] } }

theorem State.beginEntry_eq (s : State) (n : Nat) (settings : PatrolSettings) (clamped : Bool) :
    s.beginEntry n settings clamped =
      ((s.entered n settings clamped).abortChainOrder.withdrawLink).onChain fun c =>
        { c with sleepRequest := some .sleep } := rfl

/-- MALFORMED's detail word for a QUIET ENTER_SLEEP (R140, R176). -/
theorem malformedDetail_quiet (length : Nat) : malformedDetail 4 length = BitVec.ofNat 32 (4 + 65536 * length) := by
  apply BitVec.eq_of_toNat_eq
  simp [malformedDetail, detailOf, slice, leBytes, ofLe]
  omega

/-- The tests of ENTER_SLEEP in order, then its event (R148). -/
theorem State.takeEnterSleep_eq (s : State) (n : Nat) (w : Bool) : s.takeEnterSleep n w =
    if s.quiet n = true then s.complete n .malformed (BitVec.ofNat 32 (4 + 65536 * s.orderHalf n 4))
    else if s.cont.state ≠ .opened then s.complete n .refusedState 0
    else if s.seq.sampler = .waiting ∨ s.seq.sampler = .running then s.complete n .refusedState 1
    else if ¬ ((s.store.session = .idle ∨ s.store.session = .locked) ∧ s.store.slot = none) then
      s.complete n .refusedState 2
    else if s.pool.orderQueue ≠ [] then s.complete n .refusedState 3
    else if w = true then s.complete n .refusedState 4
    else match s.rangeOf n 8 with
      | none => s.complete n .range 3
      | some (slot, first, last) => s.beginEntry n
          ⟨min 86400 (max 1 (s.body32 n 0)), min 2592000 (max 60 (s.body32 n 4)), slot, first, last⟩
          (decide (s.body32 n 0 < 1 ∨ 86400 < s.body32 n 0 ∨ s.body32 n 4 < 60 ∨ 2592000 < s.body32 n 4)) := by
  have detail (i : Fin 5) : packDetail [(1, (i.val : Int))] = BitVec.ofNat 32 i.val := by revert i; decide
  have hclamp : (decide (s.body32 n 0 < 1 ∨ 86400 < s.body32 n 0) || decide (s.body32 n 4 < 60 ∨ 2592000 < s.body32 n 4)) =
      decide (s.body32 n 0 < 1 ∨ 86400 < s.body32 n 0 ∨ s.body32 n 4 < 60 ∨ 2592000 < s.body32 n 4) := by
    rw [← Bool.decide_or]; simp only [or_assoc]
  unfold State.takeEnterSleep State.sleepRefusal
  rw [clampTime_eq _ _ _ (by decide), clampTime_eq _ _ _ (by decide), malformedDetail_quiet]
  simp only [Option.isNone_iff_eq_none, hclamp]
  by_cases h : s.quiet n = true
  · rw [if_pos h, if_pos h]
  rw [if_neg h, if_neg h]
  by_cases h0 : s.cont.state ≠ .opened
  · rw [if_pos h0, if_pos h0]; exact congrArg (s.complete n .refusedState ·) (detail 0)
  rw [if_neg h0, if_neg h0]
  by_cases h1 : s.seq.sampler = .waiting ∨ s.seq.sampler = .running
  · rw [if_pos h1, if_pos h1]; exact congrArg (s.complete n .refusedState ·) (detail 1)
  rw [if_neg h1, if_neg h1]
  by_cases h2 : ¬ ((s.store.session = .idle ∨ s.store.session = .locked) ∧ s.store.slot = none)
  · rw [if_pos h2, if_pos h2]; exact congrArg (s.complete n .refusedState ·) (detail 2)
  rw [if_neg h2, if_neg h2]
  by_cases h3 : s.pool.orderQueue ≠ []
  · rw [if_pos h3, if_pos h3]; exact congrArg (s.complete n .refusedState ·) (detail 3)
  rw [if_neg h3, if_neg h3]
  by_cases h4 : w = true
  · rw [if_pos h4, if_pos h4]; exact congrArg (s.complete n .refusedState ·) (detail 4)
  rw [if_neg h4, if_neg h4, show packDetail [(1, 3)] = 3 by decide] <;> rfl

section
variable (s : State) (w : Bool)

@[simp] theorem State.setWakeIn_seq : (s.setWakeIn w).seq = s.seq := rfl
@[simp] theorem State.setWakeIn_cont : (s.setWakeIn w).cont = s.cont := rfl
@[simp] theorem State.setWakeIn_store : (s.setWakeIn w).store = s.store := rfl
@[simp] theorem State.setWakeIn_pool : (s.setWakeIn w).pool = s.pool := rfl
@[simp] theorem State.setWakeIn_quiet (n : Nat) : (s.setWakeIn w).quiet n = s.quiet n := rfl
@[simp] theorem State.setWakeIn_orderHalf (n i : Nat) : (s.setWakeIn w).orderHalf n i = s.orderHalf n i := rfl
@[simp] theorem State.setWakeIn_body32 (n i : Nat) : (s.setWakeIn w).body32 n i = s.body32 n i := rfl

end

/-- The state in which sleep entry finds its order taken, with WAKE_IN as its test reads it. -/
theorem State.exec_enterSleep {s : State} {n : Nat} {w : Bool} (h : s.orderTaken n .enterSleep) :
    exec (.enterSleep w) s = .next (((((s.setWakeIn w).taken n).takeEnterSleep n w).settle).publish s) := by
  have h' : (s.setWakeIn w).orderTaken n .enterSleep := h
  have hexec : exec (.enterSleep w) s = s.event fun s => ((s.setWakeIn w).examineKind .enterSleep).settle := rfl
  rw [hexec, State.event_taking _ h.taking.1, State.examineKind_taken h']
  rfl

/-- The chain once sleep entry has asked for SLEEP: sent on port A, or waiting behind a transaction or the quiet time. -/
theorem State.settle_entered {s : State} (hl : s.listIdle) (ht : s.taking) (hp : s.sleep.power ≠ .asleep)
    (hs : s.chain.sleepRequest = some .sleep)
    (hw : s.chain.engine.isSome = true ∨ s.chain.location = none ∧ s.chain.seqRequest = none) :
    ∃ c : Chain, s.settle = { s with chain := c } ∧ c.nodes = s.chain.nodes ∧ c.slot = s.chain.slot ∧
      c.waitTimer = s.chain.waitTimer ∧ c.enumStatus = s.chain.enumStatus ∧
      (s.chain.engine.isSome = true → c = s.chain) ∧
      (s.chain.engine = none → s.chain.quietA = none →
        c.engine.map (fun e => (e.requester, e.frame, e.port)) = some (.sleepController, .sleep, .a)) := by
  rw [State.settle_sleepRequest hl ht hp hs hw]
  split
  · rename_i h
    refine ⟨s.chain, rfl, rfl, rfl, rfl, rfl, fun _ => rfl, fun he hq => ?_⟩
    simp [he, Chain.quiet, hq] at h
  · rename_i h
    refine ⟨_, rfl, rfl, rfl, rfl, rfl, fun he => ?_, fun _ _ => rfl⟩
    simp [he] at h

/-- A completion leaves every allocation request (R122). -/
theorem State.complete_hasRequest (s : State) (n : Nat) (code : Completion) (detail : Word) (r : Requester) :
    (s.complete n code detail).pool.hasRequest r = s.pool.hasRequest r := by
  rw [State.complete_eq]
  dsimp only
  rw [Pool.completed_eq]
  have hset (p : Pool) (e : BufferEntry) : (p.setEntry n e).hasRequest r = p.hasRequest r := by
    unfold Pool.setEntry; split <;> rfl
  split
  · exact hset _ _
  · exact hset _ _

theorem State.taken_hasRequest (s : State) (n : Nat) (r : Requester) :
    (s.taken n).pool.hasRequest r = s.pool.hasRequest r := by
  have hset (p : Pool) (e : BufferEntry) : (p.setEntry n e).hasRequest r = p.hasRequest r := by
    unfold Pool.setEntry; split <;> rfl
  exact hset _ _

/-- The end of an event changes the update count alone of the pool (R145). -/
theorem State.publish_pool (s old : State) :
    (s.publish old).pool = { s.pool with updateCount := (s.publish old).pool.updateCount } := by
  rw [State.publish_eq]

/-- What the end of the order in the chain's slot leaves of a state (R24). -/
theorem State.abortChainOrder_keeps (s : State) :
    s.abortChainOrder = { s with pool := s.abortChainOrder.pool, chain := s.abortChainOrder.chain } ∧
    s.abortChainOrder.pool.orderQueue = s.pool.orderQueue ∧
    s.abortChainOrder.pool.hasRequest .link = s.pool.hasRequest .link ∧
    s.abortChainOrder.chain.nodes = s.chain.nodes ∧ s.abortChainOrder.chain.quietA = s.chain.quietA ∧
    s.abortChainOrder.chain.location = s.chain.location ∧ s.abortChainOrder.chain.seqRequest = s.chain.seqRequest ∧
    s.abortChainOrder.chain.engine.isSome = s.chain.engine.isSome ∧ s.abortChainOrder.chain.slot = none := by
  cases h : s.chain.slot with
  | none => rw [State.abortChainOrder_none h]; exact ⟨rfl, rfl, rfl, rfl, rfl, rfl, rfl, rfl, h⟩
  | some o =>
    rw [State.abortChainOrder_some h]
    exact ⟨rfl, by simp, State.complete_hasRequest .., rfl, rfl, rfl, rfl, by simp, rfl⟩

/-- Where sleep entry ends with its requests made: what the order's end and the withdrawal leave of the pool, and the chain. -/
theorem State.settle_beginEntry {s : State} (ht : s.taking) (hl : s.listIdle)
    (hw : s.chain.engine.isSome = true ∨ s.chain.location = none ∧ s.chain.seqRequest = none)
    (n : Nat) (settings : PatrolSettings) (clamped : Bool) {b : State} (hb : (s.entered n settings clamped).abortChainOrder = b) :
    ∃ link pool c, (s.beginEntry n settings clamped).settle =
        { s.entered n settings clamped with link := link, pool := pool, chain := c } ∧
      pool.memory = b.pool.memory ∧ pool.entry = b.pool.entry ∧ pool.orderQueue = s.pool.orderQueue ∧
      pool.resultQueue = b.pool.resultQueue ∧ pool.releaseList = b.pool.releaseList ∧
      (s.pool.hasRequest .link = true → pool.hasRequest .link = false ∧ pool.allocNumber = 0 ∧
        pool.allocReason = .abandoned ∧ link.allocDone = true) ∧
      c.nodes = s.chain.nodes ∧ c.slot = none ∧ c.waitTimer = b.chain.waitTimer ∧ c.enumStatus = b.chain.enumStatus ∧
      (s.chain.engine.isSome = true → c.engine = b.chain.engine ∧ c.sleepRequest = some .sleep) ∧
      (s.chain.engine = none → s.chain.quietA = none →
        c.engine.map (fun e => (e.requester, e.frame, e.port)) = some (.sleepController, .sleep, .a)) := by
  rw [State.beginEntry_eq]
  obtain ⟨e, he⟩ : ∃ e, e = s.entered n settings clamped := ⟨_, rfl⟩
  have hchain : e.chain = s.chain := by rw [he]; rfl
  have hpool : e.pool = s.pool := by rw [he]; rfl
  rw [← he] at hb ⊢
  obtain ⟨habort, hqueue, hrequest, hnodes, hquiet, hlocation, hseq, hengine, hfree⟩ := e.abortChainOrder_keeps
  rw [hb] at habort hqueue hrequest hnodes hquiet hlocation hseq hengine hfree ⊢
  obtain ⟨hwithdraw, hmem, htable, horders, hresults, hreleases, hlink⟩ := b.withdrawLink_spec
  generalize b.withdrawLink = l at *
  have hform : l.onChain (fun c => { c with sleepRequest := some .sleep }) =
      { e with pool := l.pool, link := l.link, chain := { b.chain with sleepRequest := some .sleep } } := by
    rw [hwithdraw, habort]; rfl
  rw [hchain] at hnodes hquiet hlocation hseq hengine
  rw [hpool] at hqueue hrequest
  obtain ⟨c, hc, hcnodes, hcslot, hcwait, hcenum, hcbusy, hcfree⟩ := State.settle_entered
      (s := { e with pool := l.pool, link := l.link, chain := { b.chain with sleepRequest := some .sleep } })
      (by rw [he]; exact hl) (by rw [he]; exact ht) (by rw [he]; exact nofun) rfl
      (by simpa [hengine, hlocation, hseq] using hw)
  rw [hform]
  refine ⟨l.link, l.pool, c, hc, hmem, ?_, horders.trans hqueue, hresults, hreleases, fun h => hlink (hrequest.trans h),
    hcnodes.trans hnodes, hcslot.trans hfree, hcwait, hcenum, fun h => ?_, fun h1 h2 => hcfree ?_ (hquiet.trans h2)⟩
  · funext m; simp [Pool.entry, htable]
  · rw [hcbusy (hengine.trans h)]
    exact ⟨rfl, rfl⟩
  · simpa [h1] using hengine

/-- The accepted ENTER_SLEEP's event, with no order in the chain's slot or with one (R24, R148, R149). -/
theorem State.sleepEntered_publish {s : State} {n : Nat} {w : Bool} (hn : 1 ≤ n ∧ n ≤ 40) (hm : s.memoryOk)
    (ht : s.taking) (hl : s.listIdle)
    (hw : s.chain.engine.isSome = true ∨ s.chain.location = none ∧ s.chain.seqRequest = none)
    (slot : Slot) (first last : Nat) :
    s.sleepEntered ((State.settle (((s.setWakeIn w).taken n).beginEntry n
      ⟨min 86400 (max 1 (s.body32 n 0)), min 2592000 (max 60 (s.body32 n 4)), slot, first, last⟩
      (decide (s.body32 n 0 < 1 ∨ 86400 < s.body32 n 0 ∨ s.body32 n 4 < 60 ∨ 2592000 < s.body32 n 4)))).publish s)
      n slot first last := by
  generalize hset : PatrolSettings.mk (min 86400 (max 1 (s.body32 n 0))) (min 2592000 (max 60 (s.body32 n 4))) slot first
    last = settings
  generalize hcl : decide (s.body32 n 0 < 1 ∨ 86400 < s.body32 n 0 ∨ s.body32 n 4 < 60 ∨ 2592000 < s.body32 n 4) = clamped
  obtain ⟨b, hb⟩ : ∃ b, (((s.setWakeIn w).taken n).entered n settings clamped).abortChainOrder = b := ⟨_, rfl⟩
  obtain ⟨link, pool, c, hc, hmem, hentries, horders, hresults, hreleases, hlink, hnodes, hslot, hwait, henum, hbusy, hfree⟩ :=
    State.settle_beginEntry (s := (s.setWakeIn w).taken n) ht hl hw n settings clamped hb
  rw [hc]
  have horders : pool.orderQueue = s.pool.orderQueue.tail := horders.trans (State.taken_orderQueue s n)
  have hlink := fun h => hlink ((State.taken_hasRequest s n .link).trans h)
  have hnone (hs : s.chain.slot = none) : b.chain = s.chain ∧ b.pool = (s.taken n).pool := by
    rw [← hb, State.abortChainOrder_none (s := ((s.setWakeIn w).taken n).entered n settings clamped) hs]; exact ⟨rfl, rfl⟩
  have hsome (o : ChainOrder) (hs : s.chain.slot = some o) :
      b.pool = ((s.taken n).complete o.buffer .aborted 0).pool ∧ b.chain.waitTimer = none ∧
      b.chain.enumStatus = (if s.chain.enumStatus = .running then .needed else s.chain.enumStatus) ∧
      b.chain.engine = s.chain.engine.map (Engine.discardFor .order) := by
    rw [← hb, State.abortChainOrder_some (s := ((s.setWakeIn w).taken n).entered n settings clamped) (o := o) hs]
    exact ⟨rfl, rfl, rfl, rfl⟩
  have hclock (t : State) : (State.publish { ((s.setWakeIn w).taken n).entered n settings clamped with
    link := link, pool := pool, chain := c } t).clock = s.clock := by simp; rfl
  unfold State.sleepEntered
  simp only [State.publish_entry, State.publish_orderQueue, State.publish_sleep, State.publish_sensing,
    State.publish_chain, State.publish_link]
  refine ⟨fun h => ?_, horders, rfl, rfl, rfl, hset.symm, by rw [hcl]; rfl, rfl, rfl, rfl, rfl, rfl, hnodes, fun h => ?_,
    fun hs => ?_, fun o hs => ?_, hfree, ?_⟩
  · have hentry : b.pool.entry n = { s.pool.entry n with state := .inService } := by
      rw [← State.taken_entry_self s n hn]
      cases hs : s.chain.slot with
      | none => rw [(hnone hs).2]
      | some o => rw [(hsome o hs).1]; exact State.complete_entry_other _ _ _ _ _ _ _ (h o hs).symm
    rw [hentries, hentry]
  · obtain ⟨h1, h2, h3, h4⟩ := hlink h
    rw [State.publish_pool]
    exact ⟨h1, h2, h3, h4⟩
  · obtain ⟨hbc, hbp⟩ := hnone hs
    rw [hbc] at henum hbusy
    refine ⟨⟨?_, ?_, ?_, ?_⟩, hslot, henum, hbusy⟩
    · rw [State.publish_entry, hentries, hbp, State.taken_entry_self s n hn]
    · rw [State.publish_orderQueue, horders]
    · rw [State.publish_memory, hmem, hbp, State.taken_memory]
    · rw [State.publish_resultQueue, hresults, hbp, State.taken_resultQueue]
  · obtain ⟨h1, h2, h3, h4⟩ := hsome o hs
    refine ⟨hslot, hwait.trans h2, henum.trans h3, fun g hg => ?_, fun hso _ _ => ?_⟩
    · obtain ⟨h5, h6⟩ := hbusy (by rw [show ((s.setWakeIn w).taken n).chain = s.chain from rfl, hg]; rfl)
      exact ⟨h6, by rw [h5, h4, hg]; rfl⟩
    · refine State.completed_of_taken (n := n) (State.completed_of_complete .aborted 0 [] false false (by simpa using hm)
        (by simpa using hso) ?_ ?_ ?_ ?_ ?_)
      · exact congrArg (fun c : Clock => c.packTime) (hclock s)
      · intro i
        rw [State.publish_readBuffer, Pool.readBuffer_congr (q := pool) (p := b.pool) hmem (by rw [hentries]), h1]
      · rw [State.publish_entry, hentries, h1]
      · rw [State.publish_resultQueue, hresults, h1]
      · rw [State.publish_releaseList, hreleases, h1]
  · rw [sameExcept_iff]
    simp [State.entered, State.setWakeIn]

theorem State.rangeOf_taken_setWakeIn (s : State) (n m i : Nat) (w : Bool) :
    ((s.setWakeIn w).taken n).rangeOf m i = s.rangeOf m i := by
  simp only [State.rangeOf, State.taken_body8]
  rfl

/-- Settles O32: each test by the law of refused orders, the entry by `State.sleepEntered_publish`. -/
theorem enterSleepIsTestedThenEnters : Obligations.EnterSleepIsTestedThenEnters := by
  intro n w s h hm hn
  obtain ⟨ht, hactive, -, hrange, -⟩ := h.taking
  have hexec (w : Bool) := State.exec_enterSleep (w := w) h
  have htake (w : Bool) := State.takeEnterSleep_eq ((s.setWakeIn w).taken n) n w
  simp only [State.taken_quiet, State.taken_orderHalf, State.taken_body32, State.taken_cont,
    State.taken_seq, State.taken_store, State.taken_orderQueue, State.setWakeIn_quiet, State.setWakeIn_orderHalf,
    State.setWakeIn_body32, State.setWakeIn_cont, State.setWakeIn_seq, State.setWakeIn_store,
    State.setWakeIn_pool, State.rangeOf_taken_setWakeIn] at htake
  have refused (w : Bool) (hw : s.workIdle) (code : Completion) (detail : Word)
      (he : ((s.setWakeIn w).taken n).takeEnterSleep n w = ((s.setWakeIn w).taken n).complete n code detail) :
      ∃ t, exec (.enterSleep w) s = .next t ∧ Completed s t n code detail 0 ∧ SameExcept [.inputs, .pool] s t := by
    obtain ⟨t, hpub, hc, hsame, -⟩ := State.publish_refused (s := s.setWakeIn w) (old := s) hm hn hw
      (by simp [State.sameReported, State.setWakeIn]) code detail [] false false
    refine ⟨t, by rw [hexec, he, hpub], hc, SameExcept.trans ?_ (hsame.mono (by simp))⟩
    simp [sameExcept_iff, State.setWakeIn]
  have entered (w : Bool) (hl : s.listIdle)
      (hw : s.chain.engine.isSome = true ∨ s.chain.location = none ∧ s.chain.seqRequest = none) (slot : Slot)
      (first last : Nat) (he : ((s.setWakeIn w).taken n).takeEnterSleep n w = ((s.setWakeIn w).taken n).beginEntry n
        ⟨min 86400 (max 1 (s.body32 n 0)), min 2592000 (max 60 (s.body32 n 4)), slot, first, last⟩
        (decide (s.body32 n 0 < 1 ∨ 86400 < s.body32 n 0 ∨ s.body32 n 4 < 60 ∨ 2592000 < s.body32 n 4))) :
      ∃ t, exec (.enterSleep w) s = .next t ∧ s.sleepEntered t n slot first last :=
    ⟨_, (hexec w).trans (by rw [he]), State.sleepEntered_publish hrange hm ht hl hw slot first last⟩
  constructor
  · intro hw
    have htake := htake w
    by_cases hq : s.quiet n = true
    · simp only [if_pos hq] at htake ⊢
      exact refused w hw _ _ htake
    simp only [if_neg hq] at htake ⊢
    by_cases h0 : s.cont.state ≠ .opened
    · simp only [if_pos h0] at htake ⊢
      exact refused w hw _ _ htake
    simp only [if_neg h0] at htake ⊢
    by_cases h1 : s.seq.sampler = .waiting ∨ s.seq.sampler = .running
    · simp only [if_pos h1] at htake ⊢
      exact refused w hw _ _ htake
    simp only [if_neg h1] at htake ⊢
    by_cases h2 : ¬ ((s.store.session = .idle ∨ s.store.session = .locked) ∧ s.store.slot = none)
    · simp only [if_pos h2] at htake ⊢
      exact refused w hw _ _ htake
    simp only [if_neg h2] at htake ⊢
    by_cases h3 : s.pool.orderQueue.tail ≠ []
    · simp only [if_pos h3] at htake ⊢
      exact refused w hw _ _ htake
    simp only [if_neg h3] at htake ⊢
    by_cases h4 : w = true
    · simp only [if_pos h4] at htake ⊢
      exact refused w hw _ _ htake
    simp only [if_neg h4] at htake ⊢
    cases h5 : s.rangeOf n 8 with
    | none => rw [h5] at htake; exact refused w hw _ _ htake
    | some x =>
      rw [h5] at htake
      exact entered w hw.1 (hw.2.imp_right fun h => ⟨h.1, h.2.1⟩) _ _ _ htake
  · rintro slot first last - - ⟨hl, hloc, hseq, -⟩ hquiet hopen hsampler hsession hstore hqueue hrange8
    refine entered false hl (.inr ⟨hloc, hseq⟩) slot first last ((htake false).trans ?_)
    have h1 : ¬ (s.seq.sampler = .waiting ∨ s.seq.sampler = .running) := by rcases hsampler with h | h <;> simp [h]
    simp [hquiet, hopen, h1, hsession, hstore, hqueue, hrange8]

end Sys2Proof.Machine

namespace Sys2Proof.Machine

open Sys2Proof

/-! ## The ring (R10, R12, R13) -/

/-- The chain with its ring closed: every node that is not ABSENT on path A (R13). -/
def Chain.ringClosed (c : Chain) : Chain :=
  ({ c with ringState := .closed, breakPos := 0, breakDue := false }).assignPaths fun n e =>
    { e with path := .pathA, hops := n }

theorem Chain.ringClosed_eq (c : Chain) : c.ringClosed = { c with
    nodes := c.ringClosed.nodes, ringState := .closed, breakPos := 0, breakDue := false } := rfl

theorem Chain.node_ringClosed (c : Chain) {n : Nat} (h : 1 ≤ n ∧ n ≤ 20) : c.ringClosed.node n =
    if (c.node n).state = .absent then c.node n else { c.node n with path := .pathA, hops := n } :=
  Chain.node_mapNodes _ _ h

theorem chainBreakPayload_eq (st : RingState) (k : Nat) :
    chainBreakPayload st k = [BitVec.ofNat 8 (ringStateCode st), BitVec.ofNat 8 k] := packFields_two _ _

theorem State.closeRing_eq (s : State) : s.closeRing = { s with
    chain := s.chain.ringClosed
    transit := { s.transit with alerts := s.transit.alerts ++ [(.chainBreak, [0, 0])] } } := by
  rw [State.closeRing, chainBreakPayload_eq]
  rfl

/-! ### The probes of break location (R12) -/

theorem Chain.probeUp_some {c : Chain} {start m : Nat} (hm : start ≤ m ∧ m ≤ c.found) (hp : (c.node m).state ≠ .absent)
    (hb : ∀ i, start ≤ i → i < m → (c.node i).state = .absent) : c.probeUp start = some m := by
  rw [Chain.probeUp, List.find?_range'_eq_some]
  exact ⟨by simpa using hp, by simp; omega, fun i h1 h2 => by simp [hb i h1 h2]⟩

theorem Chain.probeUp_none {c : Chain} {start : Nat} (h : ∀ i, start ≤ i → i ≤ c.found → (c.node i).state = .absent) :
    c.probeUp start = none := by
  rw [Chain.probeUp, List.find?_eq_none]
  intro i hi
  have := List.mem_range'_1.mp hi
  simp [h i this.1 (by omega)]

theorem Chain.probeDown_some {c : Chain} {top k m : Nat} (hm : k < m ∧ m ≤ top) (hp : (c.node m).state ≠ .absent)
    (hb : ∀ i, m < i → i ≤ top → (c.node i).state = .absent) : c.probeDown top k = some m := by
  obtain ⟨d, rfl⟩ : ∃ d, top = k + d := ⟨top - k, by omega⟩
  rw [Chain.probeDown, Nat.add_sub_cancel_left]
  induction d with
  | zero => omega
  | succ d ih =>
    rw [List.range'_concat, List.reverse_append]
    have htop : k + 1 + 1 * d = k + (d + 1) := by omega
    rw [htop, List.reverse_singleton, List.singleton_append]
    by_cases he : m = k + (d + 1)
    · rw [← he, List.find?_cons_of_pos (by simpa using hp)]
    · rw [List.find?_cons_of_neg (by simp [hb (k + (d + 1)) (by omega) (le_refl _)])]
      exact ih ⟨hm.1, by omega⟩ fun i h1 h2 => hb i h1 (by omega)

theorem Chain.probeDown_none {c : Chain} {top k : Nat} (h : ∀ i, k < i → i ≤ top → (c.node i).state = .absent) :
    c.probeDown top k = none := by
  rw [Chain.probeDown, List.find?_eq_none]
  intro i hi
  have := List.mem_range'_1.mp (List.mem_reverse.mp hi)
  simp [h i (by omega) (by omega)]

/-- Break location finds the engine free, and frames leave. -/
def State.locating (s : State) (l : Location) : Prop :=
  s.taking ∧ s.listIdle ∧ s.sleep.power ≠ .asleep ∧ s.chain.engine = none ∧ s.chain.location = some l

/-- Besides a location no request waits for the engine. -/
def Chain.onlyLocates (c : Chain) : Prop := c.seqRequest = none ∧ c.sleepRequest = none ∧ c.slot = none

/-- A probe of node `m` that leaves its port at once (R9, R12). -/
def State.probing (s : State) (l : Location) (m : Nat) (port : Port) : State := { s with chain := { s.chain with
  engine := some ⟨.breakLocation, .read m .status 1, port, .sending, s.profile.retryLimit, s.profile.replyTimeout, 0, 0,
    .noError⟩
  txTimer := some 30, replyTimer := none, watchTimer := none, idleTimer := none, location := some { l with addr := m } } }

theorem State.settleStep_locating {s : State} {l : Location} (h : s.locating l) : s.settleStep =
    if (s.locationStep l).chain.engine.isSome && (s.locationStep l).chain.txTimer.isNone then none
    else some (s.locationStep l) := by
  obtain ⟨ht, hl, hp, he, hloc⟩ := h
  rw [State.settleStep_of_listIdle hl]
  exact State.grantChain_of_candidate he ht hp (by simp [State.candidate, hloc])

theorem State.startProbe {s : State} (l : Location) {port : Port} (m : Nat) (hq : s.chain.quiet port = false) :
    (s.startTransaction .breakLocation (.read m .status 1) port s.profile.retryLimit).onChain (fun c =>
      { c with location := some { l with addr := m } }) = s.probing l m port := by
  simp [State.startTransaction_eq, State.onChain, State.probing, hq, ChainFrame.duration, ChainFrame.bytes, withCrc, beHalf]

/-- One piece of work follows, and nothing behind it. -/
def State.settlesTo (s s' : State) : Prop := s.settleStep = some s' ∧ s'.settleStep = none

theorem State.settlesTo_probing {s : State} {l : Location} (h : s.locating l) {m : Nat} {port : Port}
    (hs : s.locationStep l = s.probing l m port) : s.settlesTo (s.probing l m port) := by
  refine ⟨?_, State.settleStep_of_engine h.2.1 rfl⟩
  rw [State.settleStep_locating h, hs]
  rfl

theorem State.settlesTo_probeUp {s : State} {l : Location} (h : s.locating l) (hb : l.onB = false)
    (hq : s.chain.quietA = none) {m : Nat} (hm : s.chain.probeUp l.addr = some m) : s.settlesTo (s.probing l m .a) := by
  refine State.settlesTo_probing h ?_
  rw [← State.startProbe l m (port := .a) (by simp [Chain.quiet, hq])]
  simp [State.locationStep, hb, hm]

theorem State.settlesTo_probeDown {s : State} {l : Location} (h : s.locating l) (hb : l.onB = true)
    (hq : s.chain.quietB = none) {m : Nat} (hm : s.chain.probeDown l.addr l.k = some m) :
    s.settlesTo (s.probing l m .b) := by
  refine State.settlesTo_probing h ?_
  rw [← State.startProbe l m (port := .b) (by simp [Chain.quiet, hq])]
  simp [State.locationStep, hb, hm]

theorem State.locating.engine {s : State} {l : Location} (h : s.locating l) : s.chain.engine = none := by
  obtain ⟨-, -, -, hengine, -⟩ := h
  exact hengine

/-- A step that leaves the engine free and no location waiting is the last. -/
theorem State.settlesTo_end {s s' : State} {l : Location} (h : s.locating l) (hs : s.locationStep l = s')
    (hi : s'.workIdle) (he : s'.chain.engine = none) : s.settlesTo s' := by
  refine ⟨?_, State.settleStep_of_workIdle hi⟩
  rw [State.settleStep_locating h, hs, he]
  rfl

theorem State.settlesTo_locatedOnA {s : State} {l : Location} (h : s.locating l) (hw : s.chain.onlyLocates) (hb : l.onB = false)
    (hm : s.chain.probeUp l.addr = none) (hk : l.k = s.chain.found) :
    s.settlesTo { s with chain := { s.chain with location := none, breakPos := l.k } } := by
  refine State.settlesTo_end h (by simp [State.locationStep, hb, hm, hk, State.onChain]) ?_ h.engine
  exact ⟨h.2.1, .inr ⟨rfl, hw⟩⟩

/-- The state that a location ends with on B: the paths are written (R12, step 3). -/
def State.located (s : State) (k j : Nat) : State := { s with
  chain := { s.chain.locatedPaths k j with location := none, breakPos := k }
  transit := { s.transit with alerts := s.transit.alerts ++ [(.chainBreak, [1, BitVec.ofNat 8 k])] } }

theorem State.settlesTo_located {s : State} {l : Location} (h : s.locating l) (hw : s.chain.onlyLocates) (hb : l.onB = true)
    (hm : s.chain.probeDown l.addr l.k = none) : s.settlesTo (s.located l.k l.j) := by
  refine State.settlesTo_end h ?_ ?_ h.engine
  · simp only [State.locationStep, hb, if_true, hm, chainBreakPayload_eq]
    rfl
  · exact ⟨h.2.1, .inr ⟨rfl, hw⟩⟩

/-- The turn to port B, from the found count down (R12, step 2). -/
theorem State.settleStep_turns {s : State} {l : Location} (h : s.locating l) (hb : l.onB = false)
    (hm : s.chain.probeUp l.addr = none) (hk : l.k ≠ s.chain.found) : s.settleStep =
      some { s with chain := { s.chain with location := some { l with onB := true, addr := s.chain.found } } } := by
  have hs : s.locationStep l = { s with chain := { s.chain with
      location := some { l with onB := true, addr := s.chain.found } } } := by
    simp [State.locationStep, hb, hm, hk, State.onChain]
  rw [State.settleStep_locating h, hs, h.engine]
  rfl

/-- What a location on port B comes to: the next probe, or its end. -/
def State.downOutcome (s : State) (l : Location) : State :=
  match s.chain.probeDown l.addr l.k with
  | some m => s.probing l m .b
  | none => s.located l.k l.j

/-- What a location comes to with the engine free: the next probe, on A or behind the turn on B, or its end. -/
def State.locationOutcome (s : State) (l : Location) : State :=
  if l.onB = true then s.downOutcome l
  else match s.chain.probeUp l.addr with
    | some m => s.probing l m .a
    | none =>
      if l.k = s.chain.found then { s with chain := { s.chain with location := none, breakPos := l.k } }
      else s.downOutcome { l with onB := true, addr := s.chain.found }

theorem State.settlesTo_down {s : State} {l : Location} (h : s.locating l) (hw : s.chain.onlyLocates) (hb : l.onB = true)
    (hq : s.chain.quietB = none) : s.settlesTo (s.downOutcome l) := by
  unfold State.downOutcome
  split
  · exact State.settlesTo_probeDown h hb hq (by assumption)
  · exact State.settlesTo_located h hw hb (by assumption)

theorem State.settle_locating {s : State} {l : Location} (h : s.locating l) (hw : s.chain.onlyLocates) (hqa : s.chain.quietA = none)
    (hqb : s.chain.quietB = none) : s.settle = s.locationOutcome l := by
  unfold State.locationOutcome
  cases hb : l.onB with
  | true =>
    obtain ⟨h1, h2⟩ := State.settlesTo_down h hw hb hqb
    exact State.settle_of_one h1 h2
  | false =>
    simp only [Bool.false_eq_true, if_false]
    split
    · obtain ⟨h1, h2⟩ := State.settlesTo_probeUp h hb hqa (by assumption)
      exact State.settle_of_one h1 h2
    · rename_i hm
      split
      · obtain ⟨h1, h2⟩ := State.settlesTo_locatedOnA h hw hb hm (by assumption)
        exact State.settle_of_one h1 h2
      · have hturn := State.settleStep_turns h hb hm (by assumption)
        obtain ⟨ht, hl, hp, he, -⟩ := h
        have hturned : State.locating { s with chain := { s.chain with
            location := some { l with onB := true, addr := s.chain.found } } } { l with onB := true, addr := s.chain.found } :=
          ⟨ht, hl, hp, he, rfl⟩
        obtain ⟨h1, h2⟩ := State.settlesTo_down hturned hw rfl hqb
        refine (State.settle_of_two hturn h1 h2).trans ?_
        rfl

/-- A location changes the chain and the alerts on their way alone. -/
theorem State.locationOutcome_eq (s : State) (l : Location) : ∃ c a, s.locationOutcome l =
    { s with chain := c, transit := { s.transit with alerts := a } } := by
  have down (l : Location) : ∃ c a, s.downOutcome l = { s with chain := c, transit := { s.transit with alerts := a } } := by
    unfold State.downOutcome
    split
    · exact ⟨_, _, rfl⟩
    · exact ⟨_, _, rfl⟩
  unfold State.locationOutcome
  split
  · exact down _
  · split
    · exact ⟨_, _, rfl⟩
    · split
      · exact ⟨_, _, rfl⟩
      · exact down _

/-- The steps of a location are those that R12 describes; `u` is the state before the transaction that has ended. -/
theorem State.locationFollows_outcome (u : State) (onB : Bool) (start k j : Nat) : u.locationFollows
    (State.locationOutcome { u with chain := { u.chain.freeEngine with location := some ⟨onB, start, k, j⟩ } }
      ⟨onB, start, k, j⟩) onB start k j := by
  obtain ⟨v, hv⟩ : ∃ v : State, v = { u with chain := { u.chain.freeEngine with location := some ⟨onB, start, k, j⟩ } } :=
    ⟨_, rfl⟩
  have hnode (m : Nat) : v.chain.node m = u.chain.node m := by rw [hv]; rfl
  have hfound : v.chain.found = u.chain.found := by rw [hv]; rfl
  rw [← hv]
  have down (top : Nat) (l : Location) (hl : l = ⟨true, top, k, j⟩) :
      (∀ m, k < m → m ≤ top → (u.chain.node m).state ≠ .absent →
        (∀ i, m < i → i ≤ top → (u.chain.node i).state = .absent) → v.downOutcome l = v.probing l m .b) ∧
      ((∀ i, k < i → i ≤ top → (u.chain.node i).state = .absent) → v.downOutcome l = v.located k j) := by
    subst hl
    constructor
    · intro m h1 h2 h3 h4
      rw [State.downOutcome, Chain.probeDown_some ⟨h1, h2⟩ (by rwa [hnode]) fun i h5 h6 => by rw [hnode]; exact h4 i h5 h6]
    · intro h
      rw [State.downOutcome, Chain.probeDown_none fun i h5 h6 => by rw [hnode]; exact h i h5 h6]
  have up (h : ∀ i, start ≤ i → i ≤ u.chain.found → (u.chain.node i).state = .absent) : v.chain.probeUp start = none :=
    Chain.probeUp_none fun i h1 h2 => by rw [hnode]; exact h i h1 (by rwa [hfound] at h2)
  have turned (h : onB = true ∨ (∀ i, start ≤ i → i ≤ u.chain.found → (u.chain.node i).state = .absent) ∧
      k ≠ u.chain.found) : ∃ l, l = ⟨true, if onB then start else u.chain.found, k, j⟩ ∧
        v.locationOutcome ⟨onB, start, k, j⟩ = v.downOutcome l := by
    rcases h with rfl | ⟨h1, h2⟩
    · exact ⟨_, rfl, rfl⟩
    · cases onB with
      | true => exact ⟨_, rfl, rfl⟩
      | false => exact ⟨_, rfl, by simp [State.locationOutcome, up h1, hfound, h2]⟩
  refine ⟨?_, ?_, ?_⟩
  · rintro m rfl h1 h2 h3 h4
    have hm : v.chain.probeUp start = some m :=
      Chain.probeUp_some ⟨h1, by rwa [hfound]⟩ (by rwa [hnode]) fun i h5 h6 => by rw [hnode]; exact h4 i h5 h6
    have ho : v.locationOutcome ⟨false, start, k, j⟩ = v.probing ⟨false, start, k, j⟩ m .a := by
      simp [State.locationOutcome, hm]
    rw [ho, hv]
    exact ⟨rfl, rfl⟩
  · rintro rfl h1 h2
    have ho : v.locationOutcome ⟨false, start, k, j⟩ = { v with chain := { v.chain with location := none, breakPos := k } } := by
      simp [State.locationOutcome, up h1, hfound, h2]
    rw [ho, hv]
    exact ⟨rfl, rfl⟩
  · intro h
    obtain ⟨l, hl, ho⟩ := turned h
    obtain ⟨hprobe, hend⟩ := down _ l hl
    rw [ho]
    constructor
    · intro m h1 h2 h3 h4
      rw [hprobe m h1 h2 h3 h4, hl, hv]
      exact ⟨rfl, rfl⟩
    · intro h1
      rw [hend h1]
      refine ⟨by rw [hv]; rfl, fun m hm1 hm2 => ?_, by rw [hv]; rfl⟩
      have hn : (v.located k j).chain.node m = (v.chain.locatedPaths k j).node m := rfl
      rw [hn, Chain.locatedPaths, Chain.assignPaths, Chain.node_mapNodes _ _ ⟨hm1, hm2⟩, hnode, hfound]

/-- The event in which a location goes on, with nothing else that waits. -/
theorem State.location_publish {s u : State} (ht : u.taking) (hl : u.listIdle) (hp : u.sleep.power ≠ .asleep)
    (hw : u.chain.onlyLocates) (hqa : u.chain.quietA = none) (hqb : u.chain.quietB = none) (hshown : u.sameShown s) (onB : Bool) (start k j : Nat) :
    u.locationFollows ((State.settle { u with chain := { u.chain.freeEngine with
        location := some ⟨onB, start, k, j⟩ } }).publish s) onB start k j ∧
      SameExcept [.chain, .transit] u ((State.settle { u with chain := { u.chain.freeEngine with
        location := some ⟨onB, start, k, j⟩ } }).publish s) := by
  have hlocating : State.locating { u with chain := { u.chain.freeEngine with location := some ⟨onB, start, k, j⟩ } }
      ⟨onB, start, k, j⟩ := ⟨ht, hl, hp, rfl, rfl⟩
  have hfollows := u.locationFollows_outcome onB start k j
  rw [State.settle_locating hlocating hw hqa hqb]
  obtain ⟨c, a, ho⟩ := State.locationOutcome_eq { u with chain := { u.chain.freeEngine with
    location := some ⟨onB, start, k, j⟩ } } ⟨onB, start, k, j⟩
  rw [ho] at hfollows ⊢
  rw [State.publish_of_sameShown (s := { u with chain := c, transit := { u.transit with alerts := a } }) hshown]
  exact ⟨hfollows, by simp [sameExcept_iff]⟩

theorem Chain.freeEngine_setNode (c : Chain) (n : Nat) (x : NodeEntry) :
    c.freeEngine.setNode n x = (c.setNode n x).freeEngine := by
  unfold Chain.setNode; split <;> rfl

/-- How a location goes on behind a probe that succeeded, or failed (R12). -/
def State.probeFollows (u t : State) (l : Location) (succeeded : Bool) : Prop :=
  if succeeded = true then
    if l.onB = true then u.locationFollows t true (l.addr - 1) l.k l.addr
    else u.locationFollows t false (l.addr + 1) l.addr l.j
  else if l.onB = true then u.locationFollows t true l.k l.k l.j
  else u.locationFollows t false (u.chain.found + 1) l.k l.j

/-- A probe's outcome goes to the location (R12). -/
theorem State.deliver_breakLocation {s : State} {l : Location} (hloc : s.chain.location = some l) (f : ChainFrame)
    (x : TransactionEnd) : (s.onChain Chain.freeEngine).deliver .breakLocation f x =
      { s with chain := { s.chain.freeEngine with location := some (l.probed s.chain.found !x.failed) } } := by
  have : s.chain.freeEngine.location = some l := hloc
  simp only [State.deliver, State.onChain, this, Option.map_some]
  rfl

/-- The event that ends a probe. -/
theorem State.probe_publish {s u : State} {l : Location} (ht : u.taking) (hl : u.listIdle) (hp : u.sleep.power ≠ .asleep)
    (hloc : u.chain.location = some l) (hw : u.chain.onlyLocates) (hqa : u.chain.quietA = none)
    (hqb : u.chain.quietB = none) (hshown : u.sameShown s) (f : ChainFrame) (x : TransactionEnd) :
    u.probeFollows ((((u.onChain Chain.freeEngine).deliver .breakLocation f x).settle).publish s) l !x.failed ∧
      SameExcept [.chain, .transit] u ((((u.onChain Chain.freeEngine).deliver .breakLocation f x).settle).publish s) := by
  rw [State.deliver_breakLocation hloc]
  have key := State.location_publish ht hl hp hw hqa hqb hshown
  obtain ⟨onB, addr, k, j⟩ := l
  unfold State.probeFollows
  cases hx : x.failed <;> cases onB
  · exact key false (addr + 1) addr j
  · exact key true (addr - 1) k addr
  · exact key false (u.chain.found + 1) k j
  · exact key true k k j

theorem State.exec_ringWatchExpiry {s : State} {e : Engine} {r : Nat} (ht : s.taking) (he : s.chain.engine = some e)
    (hphase : e.phase = .watching) (hr : s.chain.watchTimer = some r) :
    exec .ringWatchExpiry s = .next ((((s.elapse r).watchEnded e).settle).publish s) := by
  refine (show exec .ringWatchExpiry s = s.engineEvent fun s e => if e.phase = .watching then
    s.onExpiry s.chain.watchTimer fun s => s.watchEnded e else s from rfl).trans ?_
  rw [State.engineEvent_some ht he, if_pos hphase, hr, State.onExpiry_some]

theorem State.exec_ringFrameReturn {s : State} {e : Engine} (ht : s.taking) (he : s.chain.engine = some e)
    (hphase : e.phase = .watching) :
    exec (.ringFrameReturn e.frame.bytes) s = .next (((s.frameReturned e).settle).publish s) := by
  refine (show exec (.ringFrameReturn e.frame.bytes) s = s.engineEvent fun s x =>
    if x.phase = .watching ∧ e.frame.bytes = x.frame.bytes then s.frameReturned x else s from rfl).trans ?_
  rw [State.engineEvent_some ht he, if_pos ⟨hphase, rfl⟩]

theorem State.exec_ringFrameReturn_foreign {s : State} {e : Engine} {bytes : List Byte} (ht : s.taking)
    (hl : s.listIdle) (he : s.chain.engine = some e) (hb : bytes ≠ e.frame.bytes) :
    exec (.ringFrameReturn bytes) s = .next s := by
  refine (show exec (.ringFrameReturn bytes) s = s.engineEvent fun s x =>
    if x.phase = .watching ∧ bytes = x.frame.bytes then s.frameReturned x else s from rfl).trans ?_
  rw [State.engineEvent_some ht he, if_neg (fun h => hb h.2),
    State.settle_of_settleStep (State.settleStep_of_engine hl (by simp [he])), State.publish_of_sameShown (by simp [State.sameShown])]

/-- A transaction that ends with nobody waiting for its outcome frees the engine, and nothing follows. -/
theorem State.finish_unheard {s old : State} {e : Engine} (hl : s.listIdle) (hw : s.chain.noRequest)
    (hreq : e.requester = .ringCheck ∨ e.requester = .discarded) (hshown : s.sameShown old) :
    ((s.finishTransaction e .sent).settle).publish old = { s with chain := s.chain.freeEngine } := by
  have hfinish : s.finishTransaction e .sent = { s with chain := s.chain.freeEngine } := by
    rw [State.finishTransaction_sent]
    rcases hreq with h | h <;> rw [h] <;> rfl
  rw [hfinish, State.settle_of_workIdle (s := { s with chain := s.chain.freeEngine }) ⟨hl, .inr hw⟩,
    State.publish_of_sameShown (s := { s with chain := s.chain.freeEngine }) hshown]

/-- A ring that opens at the end of a transaction that nobody waits for: break location begins, and its first probe, of
node 1, leaves port A (R12). -/
theorem State.location_begins {s old : State} {e : Engine} (ht : s.taking) (hl : s.listIdle)
    (hreq : e.requester = .ringCheck ∨ e.requester = .discarded)
    (hnode : (s.chain.node 1).state ≠ .absent) (hfound : 1 ≤ s.chain.found) (hq : s.chain.quietA = none)
    (hp : s.sleep.power ≠ .asleep) (hshown : s.sameShown old) :
    ((State.finishTransaction { s with chain := { s.chain.beginLocation with ringState := .opened } } e .sent).settle).publish
      old = { s with chain := { s.chain with
        ringState := .opened, breakDue := false, location := some ⟨false, 1, 0, s.chain.found + 1⟩
        engine := some ⟨.breakLocation, .read 1 .status 1, .a, .sending, s.profile.retryLimit, s.profile.replyTimeout, 0, 0,
          .noError⟩
        txTimer := some 30, replyTimer := none, watchTimer := none, idleTimer := none } } := by
  have hfinish : State.finishTransaction { s with chain := { s.chain.beginLocation with ringState := .opened } } e .sent =
      { s with chain := { s.chain.beginLocation.freeEngine with ringState := .opened } } := by
    rw [State.finishTransaction_sent]
    rcases hreq with h | h <;> rw [h] <;> rfl
  have hlocating : State.locating { s with chain := { s.chain.beginLocation.freeEngine with ringState := .opened } }
      ⟨false, 1, 0, s.chain.found + 1⟩ := ⟨ht, hl, hp, rfl, rfl⟩
  obtain ⟨h1, h2⟩ := State.settlesTo_probeUp hlocating rfl hq (m := 1)
    (Chain.probeUp_some ⟨le_refl 1, hfound⟩ hnode fun i h1 h2 => absurd (Nat.lt_of_le_of_lt h1 h2) (lt_irrefl _))
  rw [hfinish, State.settle_of_one h1 h2]
  exact State.publish_of_sameShown (by exact hshown)

/-- A watched CONVERT of the frame is over: the engine is free, and the list goes on behind it (R10, R61). -/
theorem State.publish_watchedConvert {s old : State} {f : Frame} (hframe : s.seq.frame = some f)
    (hphase : f.phase = .converting) (hlast : f.index = f.last) (hresult : f.result = .asked) (halign : s.table.align = .idle)
    (hw : s.chain.noRequest) (hshown : s.sameShown old) (frame : ChainFrame) :
    (((s.onChain Chain.freeEngine).deliver .sequencer frame .sent).settle).publish old = { s with
      chain := s.chain.freeEngine
      table := { s.table with issueA := s.chain.issueA, issueB := s.chain.issueB }
      seq := { s.seq with frame := some { f with index := f.index + 1, phase := .ended } } } := by
  rw [State.settle_converted (s := s.onChain Chain.freeEngine) (f := f) hframe hphase hlast hresult halign (.inr hw)]
  exact State.publish_of_sameShown (by exact hshown)

/-- Settles O39: the watched KEEPALIVE and CONVERT by what the ring does, the probes by `State.probe_publish`. -/
theorem ringWatchDecidesTheRing : Obligations.RingWatchDecidesTheRing := by
  refine ⟨?_, ?_, ?_, ?_⟩
  · intro e s ht hl he hphase
    refine ⟨fun bytes hb => State.exec_ringFrameReturn_foreign ht hl he hb, ?_, ?_⟩
    · intro hf hreq hw
      have hreturn : s.frameReturned e = (if s.chain.ringState = .opened then s.closeRing else s).finishTransaction e .sent := by
        simp [State.frameReturned, hf, hreq]
      have hended (r : Nat) : (s.elapse r).watchEnded e = State.finishTransaction (if s.chain.ringState = .closed then
          { s.elapse r with chain := { (s.elapse r).chain.beginLocation with ringState := .opened } } else s.elapse r) e .sent := by
        simp [State.watchEnded, hf, hreq, State.onChain]
      refine ⟨fun hring => ?_, fun hring => ?_, fun r hr hring => ?_, fun r hr hring hnode hfound hq hp => ?_⟩
      · rw [State.exec_ringFrameReturn ht he hphase, hreturn, if_neg hring,
          State.finish_unheard hl hw (.inl hreq) (by simp [State.sameShown])]
        rfl
      · rw [State.exec_ringFrameReturn ht he hphase, hreturn, if_pos hring, State.closeRing_eq,
          State.finish_unheard (by exact hl) (by exact hw) (.inl hreq) (by simp [State.sameShown])]
        refine ⟨_, rfl, rfl, rfl, rfl, rfl, fun n h1 h2 => Chain.node_ringClosed _ ⟨h1, h2⟩, rfl, by simp [sameExcept_iff]⟩
      · rw [State.exec_ringWatchExpiry ht he hphase hr, hended, if_neg hring,
          State.finish_unheard (by simpa using hl) (by simpa [Chain.noRequest] using hw) (.inl hreq) (by simp)]
        rfl
      · rw [State.exec_ringWatchExpiry ht he hphase hr, hended, if_pos hring,
          State.location_begins (by simpa [State.taking] using ht) (by simpa using hl) (.inl hreq) (by simpa using hnode)
            (by simpa using hfound) ((s.elapse_quietA_none r).mpr hq) (by simpa using hp) (by simp)]
        refine ⟨_, rfl, rfl, by simp, by simp [State.profile], by simp, by simp [sameExcept_iff]⟩
    · intro tag g r hf hr hring
      have hended : (s.elapse r).watchEnded e = { s.elapse r with chain := (s.elapse r).chain.send { e with port := .b } } := by
        simp [State.watchEnded, hf, hring, State.onChain]
      rw [State.exec_ringWatchExpiry ht he hphase hr, hended, State.settle_of_settleStep (State.settleStep_of_engine
        (s := { s.elapse r with chain := (s.elapse r).chain.send { e with port := .b } }) (by simpa [State.listIdle] using hl) rfl),
        State.publish_of_sameShown (by simp [State.sameShown])]
      refine ⟨_, rfl, rfl, ?_, by simpa [Chain.send] using hring, by simp [sameExcept_iff]⟩
      cases hq : s.chain.quietB <;> simp [Chain.send, Chain.quiet, hf, hq, ChainFrame.duration, ChainFrame.bytes, withCrc, beHalf]
  · intro e f tag g s ht he hphase hf hreq hw hframe hconv hlast hresult halign goesOn
    have hreturn : s.frameReturned e = State.deliver ((if s.chain.ringState = .opened then s.closeRing else s).onChain
        Chain.freeEngine) .sequencer e.frame .sent := by
      rw [← hreq, ← State.finishTransaction_sent]
      simp [State.frameReturned, hf]
    refine ⟨?_, fun r hr hring => ?_⟩
    · rw [State.exec_ringFrameReturn ht he hphase, hreturn]
      by_cases hring : s.chain.ringState = .opened
      · have hclosed := s.closeRing_eq
        generalize s.closeRing = v at hclosed
        subst hclosed
        rw [if_pos hring, State.publish_watchedConvert (f := f) (by exact hframe) hconv hlast hresult (by exact halign)
          (by exact hw) (by simp [State.sameShown])]
        refine ⟨_, rfl, ⟨rfl, rfl, rfl, rfl, rfl, hw.1⟩, fun _ => ⟨rfl, rfl, rfl, fun n h1 h2 =>
          Chain.node_ringClosed _ ⟨h1, h2⟩, rfl⟩, fun h => absurd hring h, by simp [sameExcept_iff]⟩
      · rw [if_neg hring, State.publish_watchedConvert hframe hconv hlast hresult halign hw (by simp [State.sameShown])]
        exact ⟨_, rfl, ⟨rfl, rfl, rfl, rfl, rfl, hw.1⟩, fun h => absurd h hring, fun _ => ⟨rfl, rfl, rfl, rfl⟩,
          by simp [sameExcept_iff]⟩
    · have hended : (s.elapse r).watchEnded e = State.deliver (State.onChain Chain.freeEngine { s.elapse r with
          chain := { (s.elapse r).chain with ringState := .opened, breakDue := true } }) .sequencer e.frame .sent := by
        rw [← hreq, ← State.finishTransaction_sent]
        simp [State.watchEnded, hf, hring, State.onChain, hreq]
      rw [State.exec_ringWatchExpiry ht he hphase hr, hended, State.publish_watchedConvert (f := f) (by simpa using hframe) hconv
        hlast hresult (by simpa using halign) (by simpa [Chain.noRequest] using hw) (by simp [State.sameShown])]
      refine ⟨_, rfl, ⟨rfl, rfl, rfl, ?_, ?_, ?_⟩, rfl, rfl, ?_, by simp [sameExcept_iff]⟩
      · simp [Chain.freeEngine]
      · simp [Chain.freeEngine]
      · simpa [Chain.freeEngine] using hw.1
      · simp [Chain.freeEngine]
  · intro e tag g s ht hl he hphase hf hreq
    refine ⟨fun hw hring => ?_, fun r hr hring hnode hfound hq hp => ?_⟩
    · have hreturn : s.frameReturned e = s.finishTransaction e .sent := by
        simp [State.frameReturned, hf, hring]
      rw [State.exec_ringFrameReturn ht he hphase, hreturn, State.finish_unheard hl hw (.inr hreq) (by simp [State.sameShown])]
      rfl
    · have hended : (s.elapse r).watchEnded e = State.finishTransaction { s.elapse r with
          chain := { (s.elapse r).chain.beginLocation with ringState := .opened } } e .sent := by
        simp [State.watchEnded, hf, hring, State.onChain, hreq, Chain.beginLocation]
      rw [State.exec_ringWatchExpiry ht he hphase hr, hended,
        State.location_begins (by simpa [State.taking] using ht) (by simpa using hl) (.inr hreq) (by simpa using hnode)
          (by simpa using hfound) ((s.elapse_quietA_none r).mpr hq) (by simpa using hp) (by simp)]
      exact ⟨_, rfl, rfl, by simp, rfl, by simp, by simp [sameExcept_iff]⟩
  · intro e l s ht hl hp he hreq hf haddr hloc h1 h2 h3 hqa hqb hfound probed succeeds fails
    have hw : s.chain.onlyLocates := ⟨h1, h2, h3⟩
    have hshown : s.sameShown s := by simp [State.sameShown]
    have probe (v u : State) (htu : u.taking) (hlu : u.listIdle) (hpu : u.sleep.power ≠ .asleep)
        (hwaits : u.chain.location = some l ∧ u.chain.onlyLocates ∧ u.chain.quietA = none ∧ u.chain.quietB = none)
        (x : NodeEntry) (a : List (AlertKind × List Byte)) (hv : v = probed u x a) (hus : u.sameShown s)
        (y : TransactionEnd) :
        v.probeFollows ((((v.onChain Chain.freeEngine).deliver .breakLocation e.frame y).settle).publish s) l !y.failed ∧
          SameExcept [.chain, .transit] v ((((v.onChain Chain.freeEngine).deliver .breakLocation e.frame y).settle).publish s) := by
      obtain ⟨hlu', hwu, hqau, hqbu⟩ := hwaits
      subst hv
      have hc : u.chain.setNode l.addr x = { u.chain with nodes := (u.chain.setNode l.addr x).nodes } := Chain.setNode_eq _ _ _
      refine State.probe_publish (u := probed u x a) htu hlu hpu ?_ ?_ ?_ ?_ hus e.frame y
      all_goals simp only [probed]; rw [hc]; assumption
    refine ⟨fun bytes hphase => ⟨fun tag busy words hj => ?_, fun badValue hj => ?_⟩, fun c u crc h => ?_⟩
    · have hr : s.replied e bytes = (s.onChain Chain.freeEngine).deliver .breakLocation e.frame (.data tag busy words) := by
        rw [State.replied, hj, ← hreq]
        unfold State.finishTransaction; rfl
      rw [State.exec_replyReceived ht he hphase, hr]
      exact ⟨_, rfl, State.probe_publish ht hl hp hloc hw hqa hqb hshown e.frame (.data tag busy words)⟩
    · have hr : s.replied e bytes = ((probed s { s.chain.node l.addr with
          lastError := if badValue then .nackBadValue else .nackBadBlock } []).onChain Chain.freeEngine).deliver
            .breakLocation e.frame (.nack badValue) := by
        have hnode : e.frame.node = l.addr := by rw [hf]; rfl
        rw [State.replied, hj, ← hreq]
        simp only [State.finishTransaction_nack, hnode, probed, List.append_nil, State.setNodeError, State.onChain,
          Chain.freeEngine_setNode, NodeEntry.setError]
        rfl
      rw [State.exec_replyReceived ht he hphase, hr]
      obtain ⟨hfollows, hsame⟩ := probe (probed s { s.chain.node l.addr with
        lastError := if badValue then .nackBadValue else .nackBadBlock } []) s ht hl hp
        ⟨hloc, hw, hqa, hqb⟩ _ _ rfl hshown (.nack badValue)
      exact ⟨_, rfl, SameExcept.trans (by simp [sameExcept_iff, probed]) hsame, hfollows⟩
    · obtain ⟨htu, hlu, hpu, heu, hwaits, hus⟩ : u.taking ∧ u.listIdle ∧ u.sleep.power ≠ .asleep ∧
          u.chain.engine = some e ∧ (u.chain.location = some l ∧ u.chain.onlyLocates ∧ u.chain.quietA = none ∧
            u.chain.quietB = none) ∧ u.sameShown s := by
        rcases h.state with rfl | ⟨r, rfl⟩
        · exact ⟨ht, hl, hp, he, ⟨hloc, hw, hqa, hqb⟩, hshown⟩
        · refine ⟨by simpa [State.taking] using ht, by simpa using hl, by simpa using hp, by simpa using he, ⟨by simpa using hloc,
            by simpa [Chain.onlyLocates] using hw, (s.elapse_quietA_none r).mpr hqa, (s.elapse_quietB_none r).mpr hqb⟩,
            by simp⟩
      have hend : u.endAttempt e crc = ((u.attemptCounted l.addr crc).onChain Chain.freeEngine).deliver .breakLocation e.frame
          (if crc then .crcFailure else .timeout) := by
        rw [State.endAttempt_last (by rw [hf]; rfl) (by rw [hf]; rfl) haddr h.1 crc, ← hreq]
        unfold State.finishTransaction
        cases crc <;> rfl
      rw [State.exec_lastAttemptFails ht he h, hend]
      obtain ⟨hfollows, hsame⟩ := probe (u.attemptCounted l.addr crc) u htu hlu hpu hwaits _ _ rfl hus (if crc then .crcFailure else .timeout)
      have hfailed : (!(if crc then TransactionEnd.crcFailure else .timeout).failed) = false := by cases crc <;> rfl
      rw [hfailed] at hfollows
      exact ⟨_, rfl, SameExcept.trans (by simp [sameExcept_iff, State.attemptCounted]) hsame, hfollows⟩

end Sys2Proof.Machine

namespace Sys2Proof.Machine

open Sys2Proof

/-! ## ENUMERATE_CHAIN (R16 to R18) -/

/-- A detail word of four bytes. -/
theorem detailOf_four (a b c d : Byte) : detailOf [a, b, c, d] = d ++ c ++ b ++ a := by
  apply BitVec.eq_of_toNat_eq
  have ha := a.isLt
  have hb := b.isLt
  have hc := c.isLt
  have hd := d.isLt
  simp only [detailOf, slice, ofLe, BitVec.toNat_append, BitVec.toNat_ofNat, List.getElem?_cons_zero,
    List.getElem?_cons_succ, Option.getD_some]
  rw [← Nat.shiftLeft_add_eq_or_of_lt (by omega), ← Nat.shiftLeft_add_eq_or_of_lt (by omega),
    ← Nat.shiftLeft_add_eq_or_of_lt (by omega)]
  simp only [Nat.shiftLeft_eq]
  omega

theorem packFields_four (a b c d : Nat) :
    packFields [(1, (a : Int)), (1, (b : Int)), (1, (c : Int)), (1, (d : Int))] =
      [BitVec.ofNat 8 a, BitVec.ofNat 8 b, BitVec.ofNat 8 c, BitVec.ofNat 8 d] := by
  simp [packFields, leSigned_one]

/-- The first address with a difference, from below. -/
theorem State.lowestMismatch_some {s : State} {o : ChainOrder} {m k : Nat} (hm : 1 ≤ m ∧ m ≤ 20)
    (h : s.mismatchAt o m = some k) (hb : ∀ j, 1 ≤ j → j < m → s.mismatchAt o j = none) :
    s.lowestMismatch o = some (m, k) := by
  rw [State.lowestMismatch, List.findSome?_eq_some_iff]
  refine ⟨List.range' 1 (m - 1), m, List.range' (m + 1) (20 - m), ?_, by simp [h], fun j hj => ?_⟩
  · obtain ⟨d, rfl⟩ : ∃ d, m = d + 1 := ⟨m - 1, by omega⟩
    rw [allNodes, Nat.add_sub_cancel, ← List.range'_succ, show d + 1 = 1 + 1 * d by omega, List.range'_append]
    congr 1
    omega
  · have := List.mem_range'_1.mp hj
    simp [hb j this.1 (by omega)]

theorem State.lowestMismatch_none {s : State} {o : ChainOrder} (h : ∀ j, 1 ≤ j → j ≤ 20 → s.mismatchAt o j = none) :
    s.lowestMismatch o = none := by
  rw [State.lowestMismatch, List.findSome?_eq_none_iff]
  intro j hj
  have := List.mem_range'_1.mp hj
  simp [h j this.1 (by omega)]

/-- The differences between the chain found and the profile, kind by kind (R18). -/
theorem State.mismatchAt_eq_some {s : State} {o : ChainOrder} {m kind : Nat} : s.mismatchAt o m = some kind ↔
    (kind = 0 ∧ m ≤ s.profile.declared ∧ s.chain.found < m ∨ kind = 1 ∧ s.profile.declared < m ∧ m ≤ s.chain.found ∨
      kind = 2 ∧ m ≤ s.profile.declared ∧ m ≤ s.chain.found ∧ m ∈ o.badIdentity ∨
      kind = 3 ∧ m ≤ s.profile.declared ∧ m ≤ s.chain.found ∧ m ∉ o.badIdentity ∧
        ((s.chain.node m).cells ≠ s.profile.cellCount m ∨ (s.chain.node m).temps ≠ s.profile.tempCount m)) := by
  simp only [State.mismatchAt, List.contains_iff_mem]
  generalize s.profile.declared = d
  generalize s.chain.found = f
  by_cases h1 : m ≤ d
  · by_cases h2 : f < m
    · simp only [if_pos h1, if_pos h2, Option.some.injEq]
      grind
    · rw [if_pos h1, if_neg h2]
      grind
  · rw [if_neg h1]
    grind

/-- The state with another chain and other alerts on their way. -/
def State.withChain (u : State) (c : Chain) (a : List (AlertKind × List Byte)) : State :=
  { u with chain := c, transit := { u.transit with alerts := a } }

/-- The engine is free and the order `o` alone waits; mode and status are those of `d`. -/
def Chain.orderAlone (c : Chain) (o : ChainOrder) (d : Chain) : Prop :=
  c.engine = none ∧ c.slot = some o ∧ (c.location = none ∧ c.seqRequest = none ∧ c.sleepRequest = none) ∧
  c.ringMode = d.ringMode ∧ c.enumStatus = d.enumStatus

/-- The chain's table and ring, the same in two chains. -/
def Chain.sameTable (c d : Chain) : Prop :=
  c.nodes = d.nodes ∧ c.found = d.found ∧ c.ringMode = d.ringMode ∧ c.ringState = d.ringState ∧ c.breakPos = d.breakPos

theorem Chain.sameTable.trans {c d f : Chain} (h : c.sameTable d) (h' : d.sameTable f) : c.sameTable f := by
  obtain ⟨h1, h2, h3, h4, h5⟩ := h
  obtain ⟨k1, k2, k3, k4, k5⟩ := h'
  exact ⟨h1.trans k1, h2.trans k2, h3.trans k3, h4.trans k4, h5.trans k5⟩

theorem Chain.sameTable.nodes {c d : Chain} (h : c.sameTable d) : c.nodes = d.nodes := h.1
theorem Chain.sameTable.found {c d : Chain} (h : c.sameTable d) : c.found = d.found := h.2.1
theorem Chain.sameTable.ringMode {c d : Chain} (h : c.sameTable d) : c.ringMode = d.ringMode := by
  obtain ⟨-, -, hmode, -⟩ := h
  exact hmode
theorem Chain.sameTable.ringState {c d : Chain} (h : c.sameTable d) : c.ringState = d.ringState := by
  obtain ⟨-, -, -, hring, -⟩ := h
  exact hring
theorem Chain.sameTable.breakPos {c d : Chain} (h : c.sameTable d) : c.breakPos = d.breakPos := by
  obtain ⟨-, -, -, -, hpos⟩ := h
  exact hpos

theorem Chain.sameTable.node {c d : Chain} (h : c.sameTable d) (m : Nat) : c.node m = d.node m := by
  simp [Chain.node, h.1]

/-- What a comparison with the profile finds: the status, the alerts, and the address and flag of its detail word (R18). -/
def State.verdict (v : State) (o : ChainOrder) : EnumStatus × List (AlertKind × List Byte) × Nat × Nat :=
  if o.chainChanged = true then (.needed, [], 0, 0)
  else match v.lowestMismatch o with
    | some (m, k) => (.mismatched, [(.chainMismatch, [BitVec.ofNat 8 v.profile.declared, BitVec.ofNat 8 v.chain.found,
        BitVec.ofNat 8 m, BitVec.ofNat 8 k])], m, 128)
    | none => (.matched, [], 0, 0)

/-- ENUMERATE_CHAIN's detail word (R176). -/
def State.comparedDetail (v : State) (a flags : Nat) : Word :=
  BitVec.ofNat 8 a ++ BitVec.ofNat 8 (ringStateCode v.chain.ringState + flags) ++ BitVec.ofNat 8 v.profile.declared ++
    BitVec.ofNat 8 v.chain.found

/-- The comparison writes the status, raises its alert and completes the order. -/
theorem State.compareChain_eq (v : State) (o : ChainOrder) : v.compareChain o =
    (v.withChain { v.chain with enumStatus := (v.verdict o).1 }
      (v.transit.alerts ++ (v.verdict o).2.1)).completeChainOrder .ok
      (v.comparedDetail (v.verdict o).2.2.1 (v.verdict o).2.2.2) := by
  unfold State.compareChain State.verdict
  by_cases hc : o.chainChanged = true
  · simp [hc, State.enumerateDetail, detailOf_four, State.withChain, State.setEnumStatus, State.onChain,
      State.comparedDetail, boolCode]
  · cases h : v.lowestMismatch o with
    | none => simp [hc, State.enumerateDetail, detailOf_four, State.withChain, State.setEnumStatus, State.onChain,
      State.comparedDetail, boolCode]
    | some x => simp [hc, State.enumerateDetail, detailOf_four, State.withChain, State.setEnumStatus, State.onChain,
      State.comparedDetail, boolCode, packFields_four, State.raise, State.onTransit]

/-- The event of a comparison, whatever it finds. -/
theorem State.compareChain_publish {u old : State} {c : Chain} {a : List (AlertKind × List Byte)} {o : ChainOrder}
    (h : c.orderAlone o u.chain) (hl : u.listIdle) (hold : u.sameReported old) :
    ∃ t, ((((u.withChain c a).compareChain o).settle).publish old) = t ∧
      t.chain = { c with enumStatus := ((u.withChain c a).verdict o).1, slot := none, waitTimer := none } ∧
      t.transit.alerts = a ++ ((u.withChain c a).verdict o).2.1 ∧ SameExcept [.pool, .chain, .transit] u t ∧
      (u.memoryOk → u.pool.sound o.buffer → Completed u t o.buffer .ok
        ((u.withChain c a).comparedDetail ((u.withChain c a).verdict o).2.2.1 ((u.withChain c a).verdict o).2.2.2) 0) := by
  obtain ⟨-, hslot, hwaits, -, -⟩ := h
  rw [State.compareChain_eq]
  generalize (u.withChain c a).verdict o = x
  generalize (u.withChain c a).comparedDetail x.2.2.1 x.2.2.2 = d
  have hsettle := State.settle_completeChainOrder (s := u.withChain { c with enumStatus := x.1 } (a ++ x.2.1)) (o := o)
    ⟨hl, hwaits⟩ hslot .ok d [] false
  refine ⟨_, congrArg (State.publish · old) hsettle, by simp [State.withChain], by simp [State.withChain], ?_,
    fun hm hn => ?_⟩
  · exact SameExcept.publish (by simp [sameExcept_iff, State.withChain]) hold (by simp)
  · exact State.completed_publish (s := u.withChain { c with enumStatus := x.1 } (a ++ x.2.1)) .ok d [] false false hm hn
      rfl rfl

/-- The event in which an enumeration's comparison is made. -/
theorem State.compared_publish {u old : State} {c : Chain} {a : List (AlertKind × List Byte)} {o : ChainOrder}
    (h : c.orderAlone o u.chain) (hl : u.listIdle) (hold : u.sameReported old) :
    ∃ t, ((((u.withChain c a).compareChain o).settle).publish old) = t ∧ u.compared t o a ∧ t.chain.sameTable c ∧
      SameExcept [.pool, .chain, .transit] u t := by
  obtain ⟨t, hpub, hchain, halerts, hsame, hdone⟩ := State.compareChain_publish (a := a) h hl hold
  have htable : t.chain.sameTable c := by rw [hchain]; exact ⟨rfl, rfl, rfl, rfl, rfl⟩
  have hstatus : t.chain.enumStatus = ((u.withChain c a).verdict o).1 := by rw [hchain]
  have hdetail (x flags : Nat) : (u.withChain c a).comparedDetail x flags = BitVec.ofNat 8 x ++
      BitVec.ofNat 8 (ringStateCode t.chain.ringState + flags) ++ BitVec.ofNat 8 u.profile.declared ++
      BitVec.ofNat 8 t.chain.found := by
    rw [htable.found, htable.ringState]; rfl
  simp only [hdetail] at hdone
  refine ⟨t, hpub, ⟨by rw [hchain], by rw [hchain], by rw [hchain]; exact h.1, fun hc => ?_, fun hc hnone => ?_,
    fun m kind hc hm hfirst => ?_⟩, htable, hsame⟩
  · have hv : (u.withChain c a).verdict o = (.needed, [], 0, 0) := by simp [State.verdict, hc]
    rw [hv] at hstatus halerts hdone
    exact ⟨hstatus, hdone, by simpa using halerts⟩
  · have hnone (j : Nat) (h1 : 1 ≤ j) (h2 : j ≤ 20) : (u.withChain c a).mismatchAt o j = none := by
      rw [Option.eq_none_iff_forall_ne_some]
      intro k hk
      refine hnone j k ⟨h1, h2, ?_⟩
      rw [htable.node, htable.found]
      exact State.mismatchAt_eq_some.mp hk
    have hv : (u.withChain c a).verdict o = (.matched, [], 0, 0) := by
      simp [State.verdict, hc, State.lowestMismatch_none hnone]
    rw [hv] at hstatus halerts hdone
    exact ⟨hstatus, hdone, by simpa using halerts⟩
  · obtain ⟨h1, h2, hkind⟩ := hm
    have hm : (u.withChain c a).mismatchAt o m = some kind := by
      rw [htable.node, htable.found] at hkind
      exact State.mismatchAt_eq_some.mpr hkind
    have hbelow (j : Nat) (h3 : 1 ≤ j) (h4 : j < m) : (u.withChain c a).mismatchAt o j = none := by
      rw [Option.eq_none_iff_forall_ne_some]
      intro k hk
      refine hfirst j k h4 ⟨h3, by omega, ?_⟩
      rw [htable.node, htable.found]
      exact State.mismatchAt_eq_some.mp hk
    have hv : (u.withChain c a).verdict o = (.mismatched, [(.chainMismatch, [BitVec.ofNat 8 u.profile.declared,
        BitVec.ofNat 8 t.chain.found, BitVec.ofNat 8 m, BitVec.ofNat 8 kind])], m, 128) := by
      rw [htable.found]
      simp [State.verdict, hc, State.lowestMismatch_some ⟨h1, h2⟩ hm hbelow]
      exact ⟨rfl, rfl⟩
    rw [hv] at hstatus halerts hdone
    exact ⟨hstatus, hdone, halerts⟩

/-- A frame of the order can leave port A at once: no frame runs, the part is awake, and port A is not quiet. -/
def State.grantsA (s : State) : Prop :=
  s.taking ∧ s.seq.sampler ≠ .running ∧ s.sleep.power ≠ .asleep ∧ s.chain.quietA = none

/-- The event in which the order's next transaction leaves port A. -/
theorem State.job_publish {u old : State} {c : Chain} {a : List (AlertKind × List Byte)} {o : ChainOrder} {f : ChainFrame}
    {k : Nat} (h : c.orderAlone o u.chain) (hl : u.listIdle) (hg : u.grantsA) (hq : c.quietA = u.chain.quietA)
    (hold : u.sameShown old) (job : ChainJob)
    (hf : (u.withChain { c with slot := some { o with job := job } } a).orderTransaction { o with job := job } = some (f, .a, k)) :
    ∃ t, (((State.setJob (u.withChain c a) job).settle).publish old) = t ∧
      t.chain.slot = some { o with job := job } ∧ t.granted = some (.order, f, .a, k) ∧
      t.chain.enumStatus = u.chain.enumStatus ∧ t.transit.alerts = a ∧ t.pool = u.pool ∧ t.chain.sameTable c ∧
      SameExcept [.chain, .transit] u t ∧ SameExcept [.chain] (u.withChain c a) t := by
  obtain ⟨hengine, hslot, hwaits, -, hstatus⟩ := h
  obtain ⟨ht, hr, hp, hqa⟩ := hg
  have hjob : State.setJob (u.withChain c a) job = u.withChain { c with slot := some { o with job := job } } a := by
    have : (u.withChain c a).chain.slot = some o := hslot
    simp only [State.setJob, State.onChain, this, Option.map_some]
    rfl
  have hsettle := State.settle_orderSent (s := u.withChain { c with slot := some { o with job := job } } a)
    (o := { o with job := job }) ⟨hl, hwaits⟩ ht hengine rfl hr hp hf (by simp [State.withChain, Chain.quiet, hq, hqa])
  rw [hjob, hsettle, State.publish_of_sameShown (by exact hold)]
  exact ⟨_, rfl, rfl, rfl, hstatus, rfl, rfl, ⟨rfl, rfl, rfl, rfl, rfl⟩,
    by simp [sameExcept_iff, State.withChain, State.orderSent], by simp [sameExcept_iff, State.withChain, State.orderSent]⟩

/-- The event in which address assignment ends (R18). -/
theorem State.assignmentOver_publish {u old : State} {c : Chain} {a : List (AlertKind × List Byte)} {o : ChainOrder}
    (h : c.orderAlone o u.chain) (hl : u.listIdle) (hg : u.chain.ringMode = true → u.grantsA)
    (hq : c.quietA = u.chain.quietA) (hold : u.sameShown old) :
    ∃ t, ((((u.withChain c a).assignmentEnded o).settle).publish old) = t ∧ u.assignmentOver t o a ∧
      t.chain.sameTable c ∧ SameExcept [.pool, .chain, .transit] u t := by
  have hmode : (u.withChain c a).chain.ringMode = u.chain.ringMode := by
    obtain ⟨-, -, -, hmode, -⟩ := h
    exact hmode
  unfold State.assignmentEnded State.assignmentOver
  rw [hmode]
  by_cases hring : u.chain.ringMode = true
  · rw [if_pos hring]
    obtain ⟨t, hpub, hslot, hgranted, hstatus, halerts, hpool, htable, hsame, -⟩ :=
      State.job_publish (a := a) h hl (hg hring) hq hold .ringTest rfl
    refine ⟨t, hpub, ?_, htable, hsame.mono (by simp)⟩
    rw [if_pos hring]
    exact ⟨hslot, hgranted, hstatus, halerts, hpool⟩
  · rw [if_neg hring]
    obtain ⟨t, hpub, hcompared, htable, hsame⟩ := State.compared_publish (a := a) h hl hold.sameReported
    refine ⟨t, hpub, ?_, htable, hsame⟩
    rw [if_neg hring]
    exact hcompared

/-- The event in which an address has been dealt with (R17). -/
theorem State.assignmentFollows_publish {u old : State} {c : Chain} {a : List (AlertKind × List Byte)} {o : ChainOrder}
    (h : c.orderAlone o u.chain) (hl : u.listIdle) (hg : u.grantsA) (hq : c.quietA = u.chain.quietA)
    (hold : u.sameShown old) (n : Nat) :
    ∃ t, ((((if n < 20 then State.setJob (u.withChain c a) (.assign (n + 1)) else
        (u.withChain c a).assignmentEnded o)).settle).publish old) = t ∧ u.assignmentFollows t o n a ∧
      t.chain.sameTable c ∧ SameExcept [.pool, .chain, .transit] u t ∧
      (n < 20 → SameExcept [.chain] (u.withChain c a) t) := by
  unfold State.assignmentFollows
  by_cases hn : n < 20
  · rw [if_pos hn]
    obtain ⟨t, hpub, hslot, hgranted, hstatus, halerts, hpool, htable, hsame, hchain⟩ :=
      State.job_publish (a := a) h hl hg hq hold (.assign (n + 1)) rfl
    refine ⟨t, hpub, ?_, htable, hsame.mono (by simp), fun _ => hchain⟩
    rw [if_pos hn]
    exact ⟨hslot, hgranted, hstatus, halerts, hpool⟩
  · rw [if_neg hn]
    obtain ⟨t, hpub, hover, htable, hsame⟩ := State.assignmentOver_publish (a := a) h hl (fun _ => hg) hq hold
    refine ⟨t, hpub, ?_, htable, hsame, fun h => absurd h hn⟩
    rw [if_neg hn]
    exact hover

theorem Chain.orderAlone_freeEngine {c : Chain} {o : ChainOrder} (hs : c.slot = some o)
    (hw : c.location = none ∧ c.seqRequest = none ∧ c.sleepRequest = none) : c.freeEngine.orderAlone o c :=
  ⟨rfl, hs, hw, rfl, rfl⟩

theorem Chain.orderAlone.setNode {c d : Chain} {o : ChainOrder} (h : c.orderAlone o d) (n : Nat) (x : NodeEntry) :
    (c.setNode n x).orderAlone o d := by
  rw [Chain.setNode_eq]; exact h

theorem Chain.setNode_quietA (c : Chain) (n : Nat) (x : NodeEntry) : (c.setNode n x).quietA = c.quietA := by
  rw [Chain.setNode_eq]

theorem Chain.setNode_kept (c : Chain) (n : Nat) (x : NodeEntry) :
    (c.setNode n x).found = c.found ∧ (c.setNode n x).ringMode = c.ringMode := by
  rw [Chain.setNode_eq]; exact ⟨rfl, rfl⟩

/-- The event in which the IDENTITY read of node `n` ends, with what it has made of the table and the order (R17). -/
theorem State.identity_publish {u v old : State} {c : Chain} {a : List (AlertKind × List Byte)} {o o' : ChainOrder} {n : Nat}
    {x : TransactionEnd} (hs : v.chain.slot = some o) (hjob : o.job = .identity n)
    (hid : v.identityRead n x = u.withChain c a) (h : c.orderAlone o' u.chain) (hl : u.listIdle) (hg : u.grantsA)
    (hq : c.quietA = u.chain.quietA) (hold : u.sameShown old) :
    ∃ t, (((v.orderEnded x).settle).publish old) = t ∧ u.assignmentFollows t o' n a ∧ t.chain.sameTable c ∧
      SameExcept [.pool, .chain, .transit] u t ∧ (n < 20 → SameExcept [.chain] (u.withChain c a) t) := by
  have hended : v.orderEnded x = if n < 20 then State.setJob (u.withChain c a) (.assign (n + 1)) else
      (u.withChain c a).assignmentEnded o' := by
    have hslot : (u.withChain c a).chain.slot = some o' := h.2.1
    simp only [State.orderEnded, hs, hjob, hid, hslot]
  rw [hended]
  exact State.assignmentFollows_publish h hl hg hq hold n

/-- The order with a mark against the node whose identity was not accepted (R17). -/
def ChainOrder.marked (o : ChainOrder) (n : Nat) : ChainOrder := { o with badIdentity := o.badIdentity ++ [n] }

/-- The entry that an accepted identity makes (R17). -/
def State.identified (s : State) (n : Nat) (cells temps offset : Half) : NodeEntry := { s.chain.node n with
  state := .present, path := .pathA, hops := n, cells := cells.toNat, temps := temps.toNat
  offset := if offset.toNat ≤ 255 then offset.toNat else (Config.offsetOf offset).toNat, lastGood := s.seq.frameNumber }

theorem State.identityRead_accepted {s : State} {n : Nat} {tag : Byte} {busy : Bool} {w cells temps offset : Half}
    (hc : 1 ≤ cells.toNat ∧ cells.toNat ≤ 16) (ht : temps.toNat ≤ 4) :
    (s.onChain Chain.freeEngine).identityRead n (.data tag busy [w, cells, temps, offset]) = s.withChain
      (if n ≤ s.profile.declared then s.chain.freeEngine.setNode n (s.identified n cells temps offset)
        else s.chain.freeEngine) s.transit.alerts := by
  have hid : identityOf [w, cells, temps, offset] = some (cells.toNat, temps.toNat,
      if offset.toNat ≤ 255 then offset.toNat else (Config.offsetOf offset).toNat) := by simp [identityOf, hc, ht]
  simp only [State.identityRead, hid]
  by_cases hn : n ≤ s.profile.declared
  · rw [if_pos hn]; exact if_pos hn
  · rw [if_neg hn]; exact if_neg hn

/-- What does not make an identity: another reply, or words that R17 does not accept. -/
theorem identityOf_eq_none {words : List Half} (h : words.length ≠ 4 ∨ ∃ w cells temps offset : Half,
    words = [w, cells, temps, offset] ∧ (cells.toNat = 0 ∨ 16 < cells.toNat ∨ 4 < temps.toNat)) :
    identityOf words = none := by
  unfold identityOf
  split
  · rename_i w cells temps offset
    rw [if_neg]
    rcases h with h | ⟨w', cells', temps', offset', heq, h⟩
    · simp at h
    · obtain ⟨-, rfl, rfl, -⟩ : w = w' ∧ cells = cells' ∧ temps = temps' ∧ offset = offset' := by simpa using heq
      omega
  · rfl

theorem State.identityRead_refused {s : State} {o : ChainOrder} {n : Nat} {x : TransactionEnd} (hs : s.chain.slot = some o)
    (hx : ∀ tag busy words, x = .data tag busy words → identityOf words = none) :
    s.identityRead n x = { s with chain := { s.chain with slot := some (o.marked n) } } := by
  cases x with
  | data tag busy words => simp [State.identityRead, hx tag busy words rfl, State.onChain, hs, ChainOrder.marked]
  | _ => simp [State.identityRead, State.onChain, hs, ChainOrder.marked]

/-- The engine's held attempts, counted against the node that answered (R7, R17). -/
def NodeEntry.credited (x : NodeEntry) (e : Engine) : NodeEntry := { x with
  crcCount := min 15 (x.crcCount + e.crcHeld), timeoutCount := min 15 (x.timeoutCount + e.timeoutHeld)
  lastError := if e.lastHeld = .noError then x.lastError else e.lastHeld }

theorem State.creditHeld_eq (s : State) (e : Engine) {n : Nat} (h : 1 ≤ n ∧ n ≤ 20) : s.creditHeld e n =
    s.withChain (s.chain.setNode n ((s.chain.node n).credited e)) (s.transit.alerts ++
      countAlert n (s.chain.node n).crcCount e.crcHeld 0 ++ countAlert n (s.chain.node n).timeoutCount e.timeoutHeld 1) := by
  unfold State.creditHeld
  rw [State.countCrc_eq _ _ h, State.countTimeout_eq _ _ h]
  by_cases he : e.lastHeld = .noError
  · simp [he, Chain.node_setNode_self _ _ h, Chain.setNode_setNode, State.withChain, NodeEntry.credited]
  · simp [he, Chain.node_setNode_self _ _ h, Chain.setNode_setNode, State.withChain, NodeEntry.credited, State.setNodeError,
      State.onChain, NodeEntry.setError]

/-- An ENUMERATE answered gives the found count, and the identity is asked for next (R17). -/
theorem State.orderEnded_assigned {s : State} {o : ChainOrder} {n : Nat} (hs : s.chain.slot = some o)
    (hjob : o.job = .assign n) : s.orderEnded .ack = State.setJob (s.onChain fun c => { c with found := n }) (.identity n) := by
  simp only [State.orderEnded, hs, hjob]

/-- An ENUMERATE answered by ACK: the found count, the node's counts, and the read of its identity (R7, R17). -/
theorem State.enumerate_ack {s : State} {e : Engine} {o : ChainOrder} {n : Nat} {bytes : List Byte} (hn : 1 ≤ n ∧ n ≤ 20)
    (hw : s.onlyOrderWaits) (hg : s.grantsA) (he : s.chain.engine = some e) (hreq : e.requester = .order)
    (hs : s.chain.slot = some o) (hf : e.frame = .enumerate n) (hjob : o.job = .assign n)
    (hphase : e.phase = .awaiting ∨ e.phase = .receiving) (hj : judgeReply e.frame bytes = some .ack) :
    ∃ t, exec (.replyReceived e.port bytes) s = .next t ∧ t.chain.slot = some { o with job := .identity n } ∧
      t.granted = some (.order, .read n .identity 4, .a, s.profile.retryLimit) ∧ t.chain.enumStatus = s.chain.enumStatus ∧
      t.transit.alerts = s.transit.alerts ++ countAlert n (s.chain.node n).crcCount e.crcHeld 0 ++
        countAlert n (s.chain.node n).timeoutCount e.timeoutHeld 1 ∧
      t.chain.sameTable { s.chain.setNode n ((s.chain.node n).credited e) with found := n } ∧
      SameExcept [.chain, .transit] s t := by
  obtain ⟨hl, hwaits⟩ := hw
  have halone : ({ s.chain.freeEngine.setNode n ((s.chain.node n).credited e) with found := n } : Chain).orderAlone o
      s.chain := (Chain.orderAlone_freeEngine hs hwaits).setNode n _
  have hq : ({ s.chain.freeEngine.setNode n ((s.chain.node n).credited e) with found := n } : Chain).quietA =
      s.chain.quietA := Chain.setNode_quietA _ _ _
  obtain ⟨t, hpub, hslot, hgranted, hstatus, halerts, -, htable, hsame, -⟩ := State.job_publish (old := s)
    (a := s.transit.alerts ++ countAlert n (s.chain.node n).crcCount e.crcHeld 0 ++
        countAlert n (s.chain.node n).timeoutCount e.timeoutHeld 1) halone hl hg hq (by simp [State.sameShown])
    (.identity n) rfl
  have hr : s.replied e bytes = State.setJob (s.withChain { s.chain.freeEngine.setNode n ((s.chain.node n).credited e) with
      found := n } (s.transit.alerts ++ countAlert n (s.chain.node n).crcCount e.crcHeld 0 ++
        countAlert n (s.chain.node n).timeoutCount e.timeoutHeld 1)) (.identity n) := by
    have hfinish : s.replied e bytes = ((s.onChain Chain.freeEngine).creditHeld e n).orderEnded .ack := by
      rw [State.replied, hj]
      unfold State.finishTransaction
      rw [hf, hreq]
      rfl
    rw [hfinish, State.creditHeld_eq _ _ hn]
    exact State.orderEnded_assigned (s := s.withChain _ _) (Chain.orderAlone.setNode
      (Chain.orderAlone_freeEngine hs hwaits) n _).2.1 hjob
  refine ⟨t, by rw [State.exec_replyReceived hg.1 he hphase, hr, hpub], hslot, hgranted, hstatus, halerts, ?_, hsame⟩
  rw [Chain.freeEngine_setNode] at htable
  exact htable

/-- An accepted identity: the entry of a declared node, and the next address (R17). -/
theorem State.identity_accepted {s : State} {e : Engine} {o : ChainOrder} {n : Nat} {bytes : List Byte} {tag : Byte}
    {busy : Bool} {w cells temps offset : Half} (hl : s.listIdle)
    (hw : s.chain.location = none ∧ s.chain.seqRequest = none ∧ s.chain.sleepRequest = none) (hg : s.grantsA)
    (he : s.chain.engine = some e) (hreq : e.requester = .order) (hs : s.chain.slot = some o)
    (hjob : o.job = .identity n) (hphase : e.phase = .awaiting ∨ e.phase = .receiving)
    (hj : judgeReply e.frame bytes = some (.data tag busy [w, cells, temps, offset]))
    (hc : 1 ≤ cells.toNat ∧ cells.toNat ≤ 16) (ht : temps.toNat ≤ 4) :
    ∃ t, exec (.replyReceived e.port bytes) s = .next t ∧ s.assignmentFollows t o n s.transit.alerts ∧
      t.chain.sameTable (if n ≤ s.profile.declared then s.chain.setNode n (s.identified n cells temps offset) else s.chain) ∧
      (n < 20 → SameExcept [.chain] s t) ∧ SameExcept [.pool, .chain, .transit] s t := by
  have hfree : s.chain.freeEngine.orderAlone o s.chain := Chain.orderAlone_freeEngine hs hw
  obtain ⟨c, hcdef⟩ : ∃ c, c = if n ≤ s.profile.declared then
    s.chain.freeEngine.setNode n (s.identified n cells temps offset) else s.chain.freeEngine := ⟨_, rfl⟩
  have halone : c.orderAlone o s.chain ∧ c.quietA = s.chain.quietA ∧ c.sameTable (if n ≤ s.profile.declared then
      s.chain.setNode n (s.identified n cells temps offset) else s.chain) := by
    by_cases hn : n ≤ s.profile.declared
    · rw [hcdef, if_pos hn, if_pos hn, Chain.freeEngine_setNode, Chain.setNode_eq]
      exact ⟨hfree, rfl, rfl, rfl, rfl, rfl, rfl⟩
    · rw [hcdef, if_neg hn, if_neg hn]
      exact ⟨hfree, rfl, rfl, rfl, rfl, rfl, rfl⟩
  obtain ⟨halone, hq, hkeeps⟩ := halone
  have hid := State.identityRead_accepted (s := s) (n := n) (tag := tag) (busy := busy) (w := w) (offset := offset) hc ht
  rw [← hcdef] at hid
  obtain ⟨t, hpub, hfollows, htable, hsame, hchain⟩ := State.identity_publish (old := s) (v := s.onChain Chain.freeEngine) hs
    hjob hid halone hl hg hq (by simp [State.sameShown])
  have hr : s.replied e bytes = (s.onChain Chain.freeEngine).orderEnded (.data tag busy [w, cells, temps, offset]) := by
    rw [State.replied, hj]
    exact State.finishTransaction_order hreq (by simp) (by simp)
  refine ⟨t, by rw [State.exec_replyReceived hg.1 he hphase, hr, hpub], hfollows, htable.trans hkeeps, fun hn => ?_, hsame⟩
  exact SameExcept.trans (by simp [sameExcept_iff, State.withChain]) (hchain hn)

/-- An identity that is not accepted, or not read: the node is marked, and the next address follows (R17). -/
theorem State.identity_refused {u old : State} {c : Chain} {a : List (AlertKind × List Byte)} {o : ChainOrder} {n : Nat}
    {x : TransactionEnd} (hl : u.listIdle)
    (hw : c.location = none ∧ c.seqRequest = none ∧ c.sleepRequest = none) (hg : u.grantsA) (hq : c.quietA = u.chain.quietA)
    (hc : c.slot = some o ∧ c.ringMode = u.chain.ringMode ∧ c.enumStatus = u.chain.enumStatus)
    (hjob : o.job = .identity n) (hx : ∀ tag busy words, x = .data tag busy words → identityOf words = none)
    (hold : u.sameShown old) :
    ∃ t, ((((u.withChain c.freeEngine a).orderEnded x).settle).publish old) = t ∧ u.assignmentFollows t (o.marked n) n a ∧
      t.chain.sameTable c ∧ SameExcept [.pool, .chain, .transit] u t ∧
      (n < 20 → SameExcept [.chain] (u.withChain c.freeEngine a) t) := by
  obtain ⟨hs, hmode, hstatus⟩ := hc
  have halone : ({ c.freeEngine with slot := some (o.marked n) } : Chain).orderAlone (o.marked n) u.chain :=
    ⟨rfl, rfl, hw, hmode, hstatus⟩
  obtain ⟨t, hpub, hfollows, htable, hsame, hchain⟩ := State.identity_publish (a := a) (u := u) (old := old)
    (v := u.withChain c.freeEngine a) hs hjob (State.identityRead_refused hs hx) halone hl hg hq hold
  refine ⟨t, hpub, hfollows, htable, hsame, fun hn => SameExcept.trans ?_ (hchain hn)⟩
  simp [sameExcept_iff, State.withChain]

/-- The outcome of the ring check, and the comparison behind it (R18). -/
theorem State.ringTested_eq (s : State) (o : ChainOrder) (returned : Bool) : (s.onChain Chain.freeEngine).ringTested o returned =
    (s.withChain { s.chain.freeEngine with
      ringState := if returned then .closed else .opened, breakPos := if returned then 0 else s.chain.found }
      (s.transit.alerts ++ if o.ringBefore = (if returned then .closed else .opened) then [] else
        [(.chainBreak, [if returned then 0 else 1, if returned then 0 else BitVec.ofNat 8 s.chain.found])])).compareChain o := by
  unfold State.ringTested
  simp only [chainBreakPayload_eq, eq_comm (b := o.ringBefore)]
  cases returned
  · by_cases h : o.ringBefore = .opened
    · simp [h, State.onChain, State.withChain, Chain.freeEngine]
    · simp [h, State.onChain, State.withChain, Chain.freeEngine, State.raise, State.onTransit, ringStateCode]
  · by_cases h : o.ringBefore = .closed
    · simp [h, State.onChain, State.withChain, Chain.freeEngine]
    · simp [h, State.onChain, State.withChain, Chain.freeEngine, State.raise, State.onTransit, ringStateCode]

/-- What a failing event finds is as it was before the time of its expiry. -/
theorem State.lastAttemptFails.before {s u : State} {e : Engine} {c : Instr} {crc : Bool} {o : ChainOrder}
    (h : s.lastAttemptFails e c u crc) (hl : s.listIdle)
    (hw : s.chain.location = none ∧ s.chain.seqRequest = none ∧ s.chain.sleepRequest = none)
    (hs : s.chain.slot = some o) : u.sameShown s ∧ u.listIdle ∧ (s.grantsA → u.grantsA) ∧
      (u.chain.location = none ∧ u.chain.seqRequest = none ∧ u.chain.sleepRequest = none) ∧ u.chain.slot = some o ∧
      u.chain.sameTable s.chain ∧ u.transit = s.transit := by
  rcases h.state with rfl | ⟨r, rfl⟩
  · exact ⟨by simp [State.sameShown], hl, id, hw, hs, ⟨rfl, rfl, rfl, rfl, rfl⟩, rfl⟩
  · refine ⟨by simp, by simpa using hl, fun hg => ?_, by simpa using hw, by simpa using hs, by simp [Chain.sameTable], by simp⟩
    simpa [State.grantsA, State.taking, State.elapse_quietA_none] using hg

/-- ENUMERATE_CHAIN taken with the sampler stopped: the table is reset, and the FORGET leaves or waits (R16). -/
theorem State.enumerate_taken {n : Nat} {s : State} (h : s.orderTaken n .enumerateChain)
    (hr : s.seq.sampler = .stopped ∨ s.seq.sampler = .halted) (hw : s.onlyOrderWaits) :
    ∃ t, exec .enumerateChain s = .next t ∧ InService s t n ∧ SameExcept [.pool, .chain] s t ∧
      (let taken : Chain := { s.chain with
         nodes := Vector.replicate 20 .reset, found := 0, enumStatus := .running
         slot := some ⟨n, .forget .a, s.chain.ringState, [], false⟩ }
       (s.chain.engine = none → s.chain.quietA = none → t.chain = { taken with
         engine := some ⟨.order, .forget, .a, .sending, 0, s.profile.replyTimeout, 0, 0, .noError⟩
         txTimer := some 15, replyTimer := none, watchTimer := none, idleTimer := none, waitTimer := none }) ∧
       (s.chain.engine ≠ none ∨ s.chain.quietA ≠ none →
         t.chain = { taken with waitTimer := some 2000000 })) := by
  obtain ⟨ht, hactive, -, hn, -⟩ := h.taking
  obtain ⟨hl, hwaits⟩ := hw
  obtain ⟨c, hc⟩ : ∃ c : Chain, c = { s.chain with
    nodes := Vector.replicate 20 .reset, found := 0, enumStatus := .running
    slot := some ⟨n, .forget .a, s.chain.ringState, [], false⟩, waitTimer := some 2000000 } := ⟨_, rfl⟩
  have hkind : (s.taken n).takeKind .enumerateChain n = { s.taken n with chain := c } := by
    rw [hc]
    rcases hr with hr | hr <;> simp [State.takeKind, State.takeEnumerate, hr, State.holdChainOrder, State.onChain]
  have hexec : exec .enumerateChain s = .next ((State.settle { s.taken n with chain := c }).publish s) := by
    rw [← hkind]; exact State.orderEvent_taken h
  have hr' : s.seq.sampler ≠ .running := by rcases hr with hr | hr <;> simp [hr]
  have hp : s.sleep.power ≠ .asleep := by simp [hactive]
  have hv : State.onlyOrderWaits { s.taken n with chain := c } := by rw [hc]; exact ⟨hl, hwaits⟩
  have hs : c.slot = some ⟨n, .forget .a, s.chain.ringState, [], false⟩ := by rw [hc]
  have hengine : c.engine = s.chain.engine ∧ c.quietA = s.chain.quietA := by rw [hc]; exact ⟨rfl, rfl⟩
  by_cases hfree : s.chain.engine = none ∧ s.chain.quietA = none
  · obtain ⟨he, hq⟩ := hfree
    rw [hexec, State.settle_orderSent (s := { s.taken n with chain := c }) hv ht (hengine.1.trans he) hs hr' hp rfl
      (by simp [Chain.quiet, hengine.2, hq])]
    refine ⟨_, rfl, State.inService_publish_taken hn rfl, ?_, fun _ _ => ?_, fun h => absurd h (by simp [he, hq])⟩
    · exact SameExcept.publish (by simp [sameExcept_iff, State.orderSent]) (by simp [State.sameReported, State.orderSent]) (by simp)
    · simp [State.orderSent, Chain.quiet, hq, hc, ChainFrame.duration, ChainFrame.bytes, withCrc, beHalf]
  · have hsettle : State.settle { s.taken n with chain := c } = { s.taken n with chain := c } := by
      by_cases hq : s.chain.quietA = none
      · exact State.settle_order_blocked hv (.inl fun he => hfree ⟨hengine.1 ▸ he, hq⟩)
      · exact State.settle_order_quiet (s := { s.taken n with chain := c }) hv ht hs hp rfl
          (by simpa [Chain.quiet, hengine.2, Option.isSome_iff_ne_none] using hq)
    rw [hexec, hsettle]
    refine ⟨_, rfl, State.inService_publish_taken hn rfl, ?_, fun he hq => absurd ⟨he, hq⟩ hfree, fun _ => ?_⟩
    · exact SameExcept.publish (by simp [sameExcept_iff]) (by simp [State.sameReported]) (by simp)
    · rw [State.publish_chain, hc]

/-- Settles O25: the taking, then each end of the order's transactions, by what it makes of the table and the order. -/
theorem enumerateChainResetsTheTable : Obligations.EnumerateChainResetsTheTable := by
  refine ⟨fun n s h hm hn => ⟨fun hr hw => ?_, fun hr hw => ?_⟩, ?_⟩
  · exact State.enumerate_taken h hr hw
  · have hkind : (s.taken n).takeKind .enumerateChain n = (s.taken n).complete n .refusedState 0 := by
      rcases hr with hr | hr <;> simp [State.takeKind, State.takeEnumerate, hr]
    obtain ⟨t, hexec, hdone, hsame, -⟩ := State.order_refused h hm hn hw hkind
    exact ⟨t, hexec, hdone, hsame⟩
  intro n e o s ht hw he hreq hs grants awaits others kept
  obtain ⟨hl, hwaits⟩ := hw
  have hgrants : grants → s.grantsA := fun h => ⟨ht, h⟩
  have hshown : s.sameShown s := by simp [State.sameShown]
  have hfree : s.chain.freeEngine.orderAlone o s.chain := Chain.orderAlone_freeEngine hs hwaits
  refine ⟨?_, ?_, ?_, ?_⟩
  · intro bytes hf hjob hn hg hphase hj
    obtain ⟨t, hexec, hslot, hgranted, hstatus, halerts, htable, hsame⟩ :=
      State.enumerate_ack hn ⟨hl, hwaits⟩ (hgrants hg) he hreq hs hf hjob hphase hj
    refine ⟨t, hexec, htable.found, hslot, hgranted, ?_, fun m hm => ?_, ?_, hstatus, ?_, hsame⟩
    · rw [htable.node]
      exact Chain.node_setNode_self _ _ hn
    · rw [htable.node]
      exact Chain.node_setNode_other _ _ hm
    · exact halerts
    · rw [htable.ringState, Chain.setNode_eq]
  · intro hf hjob hn hg marked
    have hg := hgrants hg
    refine ⟨?_, ?_, ?_, ?_⟩
    · intro bytes tag busy w cells temps offset hphase hj hcells htemps
      obtain ⟨t, hexec, hfollows, htable, hchain, hsame⟩ := State.identity_accepted hl hwaits hg he hreq hs hjob hphase hj
        hcells htemps
      refine ⟨t, hexec, fun hd => ?_, fun hd hoff => ?_, fun hd => ?_, fun m hm => ?_, ?_, hfollows, hchain, hsame⟩
      · rw [htable.node, if_pos hd, Chain.node_setNode_self _ _ hn]
        rfl
      · rw [htable.node, if_pos hd, Chain.node_setNode_self _ _ hn]
        exact if_pos hoff
      · rw [htable.node, if_neg (by omega)]
      · rw [htable.node]
        split
        · exact Chain.node_setNode_other _ _ hm
        · rfl
      · refine (show t.chain.found = s.chain.found ∧ t.chain.ringMode = s.chain.ringMode from ?_)
        rw [htable.found, htable.ringMode]
        split
        · exact Chain.setNode_kept _ _ _
        · exact ⟨rfl, rfl⟩
    · intro bytes tag busy words hphase hj hwords
      obtain ⟨t, hpub, hfollows, htable, hsame, hchain⟩ := State.identity_refused (u := s) (old := s) (c := s.chain)
        (a := s.transit.alerts) (x := .data tag busy words) hl hwaits hg rfl ⟨hs, rfl, rfl⟩ hjob
        (fun tag' busy' words' h => by cases h; exact identityOf_eq_none hwords) hshown
      have hr : s.replied e bytes = (s.withChain s.chain.freeEngine s.transit.alerts).orderEnded (.data tag busy words) := by
        rw [State.replied, hj]
        exact State.finishTransaction_order hreq (by simp) (by simp)
      exact ⟨t, by rw [State.exec_replyReceived ht he hphase, hr, hpub], htable.nodes, ⟨htable.found, htable.ringMode⟩, hfollows,
        fun hn => SameExcept.trans (by simp [sameExcept_iff, State.withChain]) (hchain hn), hsame⟩
    · intro bytes badValue hphase hj
      have hnode : e.frame.node = n := by rw [hf]; rfl
      obtain ⟨t, hpub, hfollows, htable, hsame, -⟩ := State.identity_refused (u := s) (old := s)
        (c := s.chain.setNode n { s.chain.node n with lastError := if badValue then .nackBadValue else .nackBadBlock })
        (a := s.transit.alerts) (x := .nack badValue) hl (by rw [Chain.setNode_eq]; exact hwaits) hg (Chain.setNode_quietA _ _ _)
        (by rw [Chain.setNode_eq]; exact ⟨hs, rfl, rfl⟩) hjob (by simp) hshown
      have hr : s.replied e bytes = (s.withChain (s.chain.setNode n { s.chain.node n with
          lastError := if badValue then .nackBadValue else .nackBadBlock }).freeEngine s.transit.alerts).orderEnded
            (.nack badValue) := by
        rw [State.replied, hj, ← Chain.freeEngine_setNode]
        refine (State.finishTransaction_nack _ _ _).trans ?_
        rw [hreq, hnode]
        rfl
      refine ⟨t, by rw [State.exec_replyReceived ht he hphase, hr, hpub], ?_, fun m hm => ?_, ?_, hfollows, hsame⟩
      · rw [htable.node, Chain.node_setNode_self _ _ hn]
      · rw [htable.node, Chain.node_setNode_other _ _ hm]
      · exact ⟨htable.found.trans (Chain.setNode_kept _ _ _).1, htable.ringMode.trans (Chain.setNode_kept _ _ _).2⟩
    · intro c u crc h
      obtain ⟨hus, hlu, hgu, hwu, hsu, htable, -⟩ := h.before hl hwaits hs
      obtain ⟨t, hpub, hfollows, htable', hsame, -⟩ := State.identity_refused (u := u) (old := s)
        (c := u.chain.setNode n ((u.chain.node n).attempted crc)) (a := u.transit.alerts ++ (u.chain.node n).fullAlert n crc)
        (x := if crc then .crcFailure else .timeout) hlu (by rw [Chain.setNode_eq]; exact hwu) (hgu hg)
        (Chain.setNode_quietA _ _ _) (by rw [Chain.setNode_eq]; exact ⟨hsu, rfl, rfl⟩) hjob (by cases crc <;> simp) hus
      have hend : u.endAttempt e crc = (u.withChain (u.chain.setNode n ((u.chain.node n).attempted crc)).freeEngine
          (u.transit.alerts ++ (u.chain.node n).fullAlert n crc)).orderEnded (if crc then .crcFailure else .timeout) := by
        rw [State.endAttempt_last (by rw [hf]; rfl) (by rw [hf]; rfl) hn h.1 crc]
        exact State.finishTransaction_order hreq (by cases crc <;> simp) (by simp [hf])
      refine ⟨t, by rw [State.exec_lastAttemptFails ht he h, hend, hpub], ?_, fun m hm => ?_, ?_, hfollows, hsame⟩
      · rw [htable'.node, Chain.node_setNode_self _ _ hn]
      · rw [htable'.node, Chain.node_setNode_other _ _ hm]
      · exact ⟨(htable'.found.trans (Chain.setNode_kept _ _ _).1).trans htable.found,
          (htable'.ringMode.trans (Chain.setNode_kept _ _ _).2).trans htable.ringMode⟩
  · intro hf hjob hg c u crc h
    obtain ⟨hus, hlu, hgu, hwu, hsu, htable, htransit⟩ := h.before hl hwaits hs
    obtain ⟨t, hpub, hover, htable', hsame⟩ := State.assignmentOver_publish (u := u) (old := s) (a := s.transit.alerts)
      (Chain.orderAlone_freeEngine hsu hwu) hlu (fun hr => hgu (hgrants (hg (htable.ringMode ▸ hr)))) rfl hus
    have hend : u.endAttempt e crc = (u.withChain u.chain.freeEngine s.transit.alerts).assignmentEnded o := by
      have hended (x : TransactionEnd) (hx : x ≠ .ack) : (u.withChain u.chain.freeEngine s.transit.alerts).orderEnded x =
          (u.withChain u.chain.freeEngine s.transit.alerts).assignmentEnded o := by
        have hslot : (u.withChain u.chain.freeEngine s.transit.alerts).chain.slot = some o := hsu
        simp [State.orderEnded, hslot, hjob]
      rw [← hended (if crc then .crcFailure else .timeout) (by cases crc <;> simp), State.endAttempt, if_pos h.1, ← htransit]
      refine (State.finishTransaction_order hreq (by cases crc <;> simp) (by cases crc <;> simp)).trans ?_
      rw [State.attemptFailed, hf]
      rfl
    refine ⟨t, by rw [State.exec_lastAttemptFails ht he h, hend, hpub], htable'.1.trans htable.nodes,
      ⟨htable'.found.trans htable.found, htable'.ringMode.trans htable.ringMode⟩, htable'.ringState.trans htable.ringState,
      htable'.breakPos.trans htable.breakPos, hover, hsame⟩
  · intro r hf hphase hjob hr
    refine ⟨?_, ?_⟩
    · obtain ⟨t, hpub, hcompared, htable, hsame⟩ := State.compared_publish (u := s) (old := s) (o := o)
        (a := s.transit.alerts ++ if o.ringBefore = .closed then [] else [(.chainBreak, [0, 0])])
        (c := { s.chain.freeEngine with ringState := .closed, breakPos := 0 }) ⟨rfl, hs, hwaits, rfl, rfl⟩ hl hshown.sameReported
      have hr : s.frameReturned e = (s.onChain Chain.freeEngine).ringTested o true := by
        simp [State.frameReturned, hf, hreq, hs]
      exact ⟨t, by rw [State.exec_ringFrameReturn ht he hphase, hr, State.ringTested_eq, ← hpub]; rfl, htable.ringState,
        htable.breakPos, htable.nodes, ⟨htable.found, htable.ringMode⟩, hcompared, hsame⟩
    · obtain ⟨t, hpub, hcompared, htable, hsame⟩ := State.compared_publish (u := s.elapse r) (old := s) (o := o)
        (a := s.transit.alerts ++ if o.ringBefore = .opened then [] else
          [(.chainBreak, [1, BitVec.ofNat 8 s.chain.found])])
        (c := { (s.elapse r).chain.freeEngine with ringState := .opened, breakPos := s.chain.found })
        ⟨rfl, by simpa [Chain.freeEngine] using hs, by simpa [Chain.freeEngine] using hwaits, rfl, rfl⟩ (by simpa using hl) (by simp)
      have hended : (s.elapse r).watchEnded e = ((s.elapse r).onChain Chain.freeEngine).ringTested o false := by
        simp [State.watchEnded, hf, hreq, hs]
      refine ⟨t, by
        rw [State.exec_ringWatchExpiry ht he hphase hr, hended, State.ringTested_eq, ← hpub]
        simp, htable.ringState, htable.breakPos, ?_, ⟨?_, ?_⟩, hcompared, hsame⟩
      · rw [htable.nodes]; simp [Chain.freeEngine]
      · rw [htable.found]; simp [Chain.freeEngine]
      · rw [htable.ringMode]; simp [Chain.freeEngine]

end Sys2Proof.Machine

namespace Sys2Proof.Machine

open Sys2Proof

/-! ## READ_CHAIN_STATUS and SNAPSHOT_HISTORY (R23, R57, R58, R177) -/

/-- A signed field is read back where its size holds the number. -/
theorem ofLeSigned_leSigned {k : Nat} {v : Int} (h1 : -(2 ^ (8 * k) : Nat) ≤ 2 * v) (h2 : 2 * v < (2 ^ (8 * k) : Nat)) :
    ofLeSigned (leSigned k v) = v := by
  have hp : 256 ^ k = 2 ^ (8 * k) := by rw [show (256 : Nat) = 2 ^ 8 by norm_num, ← pow_mul]
  have hlen : (leSigned k v).length = k := leBytes_length _ _
  have hpos : 0 < 2 ^ (8 * k) := by positivity
  simp only [ofLeSigned, hlen]
  rw [leSigned, ofLe_leBytes, hp]
  generalize 2 ^ (8 * k) = m at *
  have hlt : v % (m : Int) < m := Int.emod_lt_of_pos v (by omega)
  have hm : (v % (m : Int)).toNat % m = (v % (m : Int)).toNat := Nat.mod_eq_of_lt (by omega)
  rw [hm]
  by_cases hv : 0 ≤ v
  · rw [Int.emod_eq_of_lt hv (by omega)]
    rw [if_pos (by omega)]
    omega
  · have : v % (m : Int) = v + m := by
      rw [← Int.add_emod_right, Int.emod_eq_of_lt (by omega) (by omega)]
    rw [this, if_neg (by omega)]
    omega

/-- A history entry's fields at their offsets (R177). -/
theorem HistoryEntry.bytes_fields (e : HistoryEntry) (h1 : -2 ^ 31 ≤ e.current) (h2 : e.current < 2 ^ 31)
    (h3 : e.packMv < 2 ^ 24) (h4 : e.linkMv < 2 ^ 24) :
    (let b := e.bytes
     b.length = 16 ∧ u32 b 0 = e.tag.toNat ∧ ofLeSigned (slice b 4 4) = e.current ∧
     u16 b 8 + 65536 * u8 b 10 = e.packMv ∧ u8 b 11 = (if e.iSat then 1 else 0) + (if e.vSat then 2 else 0) ∧
     u16 b 12 + 65536 * u8 b 14 = e.linkMv ∧ u8 b 15 = 0) := by
  refine ⟨rfl, ofLe_leBytes_word e.tag, ?_, ?_, ?_, ?_, rfl⟩
  · exact ofLeSigned_leSigned (k := 4) (by norm_num; omega) (by norm_num; omega)
  · have h : ofLe (leBytes 3 e.packMv) = e.packMv := by rw [ofLe_leBytes]; omega
    refine Eq.trans ?_ h
    simp [u16, u8, slice, HistoryEntry.bytes, leBytes, leSigned, ofLe]
    omega
  · cases hi : e.iSat <;> cases hv : e.vSat <;>
      simp [u8, slice, HistoryEntry.bytes, leBytes, leSigned, ofLe, hi, hv, boolCode]
  · have h : ofLe (leBytes 3 e.linkMv) = e.linkMv := by rw [ofLe_leBytes]; omega
    refine Eq.trans ?_ h
    simp [u16, u8, slice, HistoryEntry.bytes, leBytes, leSigned, ofLe]
    omega

theorem length_flatten_map {α : Type} {f : α → List Byte} {k : Nat} (hf : ∀ a, (f a).length = k) (l : List α) :
    (l.map f).flatten.length = k * l.length := by
  induction l with
  | nil => rfl
  | cons x l ih =>
    rw [List.map_cons, List.flatten_cons, List.length_append, hf, ih, List.length_cons]
    ring

/-- A detail word of two 16-bit fields. -/
theorem packDetail_halves {a b : Nat} (ha : a < 65536) (hb : b < 65536) :
    packDetail [(2, (a : Int)), (2, (b : Int))] = BitVec.ofNat 32 (a + 65536 * b) := by
  have hf (n : Nat) (hn : n < 65536) : leSigned 2 (n : Int) = leBytes 2 n := by
    rw [leSigned]
    congr 1
    omega
  have hfields : packFields [(2, (a : Int)), (2, (b : Int))] = leBytes 2 a ++ leBytes 2 b := by
    simp [packFields, hf a ha, hf b hb]
  rw [packDetail, hfields]
  apply BitVec.eq_of_toNat_eq
  simp [detailOf, slice, leBytes, ofLe]
  omega

/-- READ_CHAIN_STATUS's clear of the counts (R23). -/
def Chain.clearCounts (c : Chain) : Chain := c.mapNodes fun _ e => { e with crcCount := 0, timeoutCount := 0 }

theorem Chain.node_clearCounts (c : Chain) (m : Nat) :
    c.clearCounts.node m = { c.node m with crcCount := 0, timeoutCount := 0 } := by
  by_cases hm : 1 ≤ m ∧ m ≤ 20
  · exact Chain.node_mapNodes _ _ hm
  · by_cases h0 : m = 0
    · subst h0; rfl
    · have h1 : 20 ≤ m - 1 := by omega
      simp [Chain.clearCounts, Chain.mapNodes, Chain.node, h0, h1, NodeEntry.reset]

/-- READ_CHAIN_STATUS answers and clears (R23). -/
theorem State.readChainStatus_answers {n : Nat} {s : State} (h : s.orderTaken n .readChainStatus) (hm : s.memoryOk)
    (hn : s.pool.sound n) (hw : s.workIdle) :
    ∃ t, exec .readChainStatus s = .next t ∧
      Completed s t n .ok 0 (if (s.answerRoom n - 8) / 12 < 20 then 2 else 0) ∧
      t.chain = (if s.body8 n 0 % 2 = 1 then s.chain.clearCounts else s.chain) ∧ SameExcept [.pool, .chain] s t ∧
      ∀ i b, (s.chainStatusAnswer (s.answerRoom n))[i]? = some b → i < s.answerRoom n →
        t.pool.readBuffer n (16 + i) = b := by
  obtain ⟨c, hc⟩ : ∃ c, c = if s.body8 n 0 % 2 = 1 then s.chain.clearCounts else s.chain := ⟨_, rfl⟩
  obtain ⟨flag, hflag⟩ : ∃ x, x = decide ((s.answerRoom n - 8) / 12 < 20) := ⟨_, rfl⟩
  have hkind : (s.taken n).takeKind .readChainStatus n =
      { (s.taken n).complete n .ok 0 (s.chainStatusAnswer (s.answerRoom n)) false flag with chain := c } := by
    have hanswer : (s.taken n).chainStatusAnswer = s.chainStatusAnswer := rfl
    simp only [State.takeKind, State.takeReadChainStatus, State.taken_body8, State.taken_answerRoom, hanswer, ← hflag, hc]
    by_cases hb : s.body8 n 0 % 2 = 1
    · simp [hb, State.onChain, Chain.clearCounts]
    · rw [if_neg hb, if_neg (by simpa using hb)]
      rfl
  have hidle : State.workIdle { (s.taken n).complete n .ok 0 (s.chainStatusAnswer (s.answerRoom n)) false flag with
      chain := c } := by
    rw [hc]
    split
    · exact hw
    · exact hw
  refine ⟨_, by rw [show exec .readChainStatus s = s.orderEvent .readChainStatus from rfl, State.orderEvent_taken h, hkind,
    State.settle_of_workIdle hidle], ?_, by rw [State.publish_chain, hc], ?_, ?_⟩
  · have hdone := State.completed_publish_taken (s := s) (old := s) (u := { (s.taken n).complete n .ok 0
      (s.chainStatusAnswer (s.answerRoom n)) false flag with chain := c }) .ok 0 (s.chainStatusAnswer (s.answerRoom n)) false
      flag hm hn rfl rfl
    have hval : boolCode false + 2 * boolCode flag = if (s.answerRoom n - 8) / 12 < 20 then 2 else 0 := by
      rw [hflag]
      by_cases hx : (s.answerRoom n - 8) / 12 < 20 <;> simp [hx, boolCode]
    rwa [hval] at hdone
  · exact SameExcept.publish (by simp [sameExcept_iff]) (by simp [State.sameReported]) (by simp)
  · intro i b hb hi
    obtain ⟨hlt, rfl⟩ := List.getElem?_eq_some_iff.mp hb
    rw [State.publish_readBuffer]
    refine State.complete_answer (s := s.taken n) .ok 0 _ false flag (by simpa using hm) (by simpa using hn) hlt ?_
    simp only [State.answerRoom, BufferEntry.capacity, State.taken_pages] at hi ⊢
    omega

/-- The bytes of a node's entry stand in the answer behind its eight header bytes, twelve for each entry before it. -/
theorem State.chainStatusAnswer_entry (s : State) {room m j : Nat} (hm : 1 ≤ m ∧ m ≤ 20) (hr : 8 + 12 * m ≤ room) (hj : j < 12) :
    (s.chainStatusAnswer room)[8 + 12 * (m - 1) + j]? = (nodeEntryBytes (s.chain.node m))[j]? := by
  have hnode : (allNodes.take ((room - 8) / 12))[m - 1]? = some m := by
    rw [List.getElem?_take_of_lt (by omega), allNodes, List.getElem?_range' (by omega)]
    congr 1
    omega
  rw [State.chainStatusAnswer, List.getElem?_append_right (by simp [Chain.statusHeader]; omega),
    ← getElem?_flatten_map (f := fun n => nodeEntryBytes (s.chain.node n)) (fun _ => rfl) hnode hj]
  congr 1
  simp [Chain.statusHeader]
  omega

/-- Settles O26: each answer by the law of completions, its records by their place. -/
theorem answeringOrdersFillTheirRoom : Obligations.AnsweringOrdersFillTheirRoom := by
  refine ⟨?_, HistoryEntry.bytes_fields, ?_⟩
  · intro n s h hm hn hw
    have hroom : 240 ≤ s.answerRoom n := by
      have := hn.capacity
      simp only [State.answerRoom]; omega
    obtain ⟨t, hexec, hdone, hchain, hsame, hbytes⟩ := State.readChainStatus_answers h hm hn hw
    have head (i : Nat) (b : Byte) (hb : s.chain.statusHeader[i]? = some b) : t.orderByte n (16 + i) = b.toNat := by
      have hi : i < 8 := (List.getElem?_eq_some_iff.mp hb).1
      rw [State.orderByte, hbytes i b _ (by omega)]
      rw [State.chainStatusAnswer, List.getElem?_append_left hi, hb]
    refine ⟨t, hexec, hdone, ?_, ?_, ?_, ?_, ?_, ?_, ?_, ?_, ?_, hsame⟩
    · rw [head 0 _ rfl]
      cases s.chain.ringMode <;> rfl
    · rw [head 1 _ rfl]
      cases s.chain.ringState <;> rfl
    · exact head 2 _ rfl
    · exact head 3 _ rfl
    · rw [head 4 _ rfl]
      cases s.chain.enumStatus <;> rfl
    · intro i h1 h2
      obtain ⟨j, rfl⟩ : ∃ j, i = 16 + j := ⟨i - 16, by omega⟩
      obtain rfl | rfl | rfl : j = 5 ∨ j = 6 ∨ j = 7 := by omega
      all_goals exact head _ 0 rfl
    · intro m h1 h2 hr
      have field (j : Nat) (b : Byte) (hb : (nodeEntryBytes (s.chain.node m))[j]? = some b) :
          t.pool.readBuffer n (24 + 12 * (m - 1) + j) = b := by
        have hj : j < 12 := (List.getElem?_eq_some_iff.mp hb).1
        rw [show 24 + 12 * (m - 1) + j = 16 + (8 + 12 * (m - 1) + j) by omega]
        exact hbytes _ b ((s.chainStatusAnswer_entry ⟨h1, h2⟩ hr hj).trans hb) (by omega)
      have byte (j : Nat) (v : Nat) (hb : (nodeEntryBytes (s.chain.node m))[j]? = some (BitVec.ofNat 8 v)) :
          t.orderByte n (24 + 12 * (m - 1) + j) = v % 256 := by
        rw [State.orderByte, field j _ hb, BitVec.toNat_ofNat]
      refine ⟨?_, ?_, byte 2 _ rfl, byte 3 _ rfl, byte 4 _ rfl, byte 5 _ rfl, byte 6 _ rfl, byte 7 _ rfl, byte 8 _ rfl, ?_, ?_⟩
      · refine (byte 0 _ rfl).trans ?_
        cases (s.chain.node m).state <;> rfl
      · refine (byte 1 _ rfl).trans ?_
        cases (s.chain.node m).path <;> rfl
      · refine (byte 9 _ rfl).trans ?_
        cases (s.chain.node m).lastError <;> rfl
      · rw [State.orderHalf_of_readBuffer (bs := leBytes 2 (s.chain.node m).lastGood.toNat) (by simp), ofLe_leBytes_half]
        intro j hj
        rw [Nat.add_assoc]
        refine field (10 + j) _ ?_
        obtain rfl | rfl : j = 0 ∨ j = 1 := by simp at hj; omega
        · rfl
        · rfl
    · intro hb
      rw [hchain, if_neg (by omega)]
    · intro hb
      rw [hchain, if_pos hb]
      exact ⟨rfl, s.chain.node_clearCounts⟩
  · intro n s h hm hn hw hbound
    have hroom : 240 ≤ s.answerRoom n := by
      have := hn.capacity
      simp only [State.answerRoom]; omega
    by_cases hcount : 128 < s.body16 n 0
    · obtain ⟨t, hexec, hdone, hsame, -⟩ := State.order_refused (code := .range) (detail := 0) (answer := []) (clamped := false)
        (truncated := false) h hm hn hw (by simp [State.takeKind, State.takeSnapshot, hcount])
      refine ⟨t, hexec, hsame, ?_⟩
      rw [if_pos hcount]
      exact hdone
    · have hselect : (if s.body16 n 0 = 0 then s.sensing.history
          else s.sensing.history.drop (s.sensing.history.length - s.body16 n 0)) =
            selectEntries s.sensing.history (s.body16 n 0) := rfl
      obtain ⟨selected, hsel⟩ : ∃ l, l = selectEntries s.sensing.history (s.body16 n 0) := ⟨_, rfl⟩
      have hlen : selected.length ≤ 128 := by
        have hle : selected.length ≤ s.sensing.history.length := by
          rw [hsel, selectEntries]
          split
          · exact le_refl _
          · rw [List.length_drop]; omega
        exact hle.trans hbound
      obtain ⟨written, hwr⟩ : ∃ l, l = selected.take ((s.answerRoom n - 8) / 16) := ⟨_, rfl⟩
      have hwlen : written.length ≤ selected.length ∧ written.length ≤ (s.answerRoom n - 8) / 16 := by
        rw [hwr, List.length_take]; omega
      obtain ⟨answer, ha⟩ : ∃ l, l = leBytes 4 s.clock.packTime.toNat ++ [BitVec.ofNat 8 s.sensing.history.length,
        BitVec.ofNat 8 selected.length, BitVec.ofNat 8 written.length, 0] ++
        (written.map HistoryEntry.bytes).flatten := ⟨_, rfl⟩
      have hkind : (s.taken n).takeKind .snapshotHistory n = (s.taken n).complete n .ok
          (BitVec.ofNat 32 (selected.length + 65536 * written.length)) answer false
          (decide (written.length < selected.length)) := by
        rw [← packDetail_halves (by omega) (by omega)]
        simp [State.takeKind, State.takeSnapshot, hcount, show ¬ s.answerRoom n < 8 by omega, ← hsel, ← hwr, ha]
      obtain ⟨t, hexec, hdone, hsame, hbytes⟩ := State.order_refused h hm hn hw hkind
      refine ⟨t, hexec, hsame, ?_⟩
      rw [if_neg hcount, hselect, ← hsel]
      dsimp only
      rw [← hwr, ← ha]
      refine ⟨?_, fun i hi => ?_⟩
      · by_cases hc : written.length < selected.length <;> simpa [boolCode, hc] using hdone
      · rw [hbytes i hi ?_, List.getElem?_eq_getElem hi, Option.getD_some]
        have : answer.length = 8 + 16 * written.length := by
          rw [ha, List.length_append, length_flatten_map (k := 16) (f := HistoryEntry.bytes) fun e => rfl]; simp
        simp only [State.answerRoom] at hwlen hroom
        omega

end Sys2Proof.Machine

namespace Sys2Proof.Machine

open Sys2Proof

/-! ## The end of a reset (R46, R85, R88, R89, R94, R96, R97, R134, R147) -/

theorem Contactors.faulty_iff (c : Contactors) (k : Contactor) : c.faulty k = true ↔
    ∃ subKind : Fin 4, c.faults.getLsbD (3 * subKind.val + contactorCode k) = true := by
  simp [Contactors.faulty, Fin.exists_fin_succ]

/-- The level that the sequencer expects of an aux is that of R97's table. -/
theorem Contactors.tableLevel_eq (c : Contactors) (k : Contactor) : c.tableLevel k = c.expected k := by
  have hfaulty := c.faulty_iff k
  unfold Contactors.tableLevel Contactors.expected
  by_cases hf : c.faulty k = true
  · rw [if_pos hf]
    have hex := hfaulty.mp hf
    cases k <;> exact if_pos hex
  · rw [if_neg hf]
    have hex := fun h => hf (hfaulty.mpr h)
    cases k
    all_goals
      refine (if_neg hex).trans ?_
      cases c.state <;> simp [Triple.get]

/-- Every watch set afresh stands as R97's table asks. -/
theorem State.freshWatch_eq (s : State) (k : Contactor) : s.freshWatch k = s.watchOf k none := by
  unfold State.freshWatch State.watchOf Contactors.differs
  rw [Contactors.tableLevel_eq]
  cases he : s.cont.expected k with
  | none => simp
  | some e => cases e <;> cases ha : s.cont.aux.get k <;> simp [State.now]

/-- The watches of a state, all set afresh. -/
def State.freshWatches (s : State) : Triple (Option StampedTimer) :=
  ⟨s.watchOf .pos none, s.watchOf .neg none, s.watchOf .pre none⟩

theorem State.freshWatches_get (s : State) (k : Contactor) : s.freshWatches.get k = s.watchOf k none := by cases k <;> rfl

theorem State.restartWatches_eq (s : State) : s.restartWatches = { s with cont := { s.cont with
    watches := s.freshWatches } } := by
  simp only [State.restartWatches, State.onCont, State.freshWatch_eq, State.freshWatches]

/-- The contactor sequencer with the aux levels just taken, no edge logged (R96). -/
def State.auxSampled (s : State) : State := { s with cont := { s.cont with
  aux := PinLevels.aux s.inputs.pins, holds := ⟨none, none, none⟩ } }

theorem State.sampleAux_false (s : State) : s.sampleAux false = { s.auxSampled with cont := { s.auxSampled.cont with
    watches := s.auxSampled.freshWatches } } := by
  rw [State.sampleAux, State.restartWatches_eq]
  rfl

/-- A trip by its effects: the latch, the alert and the demand (R83). -/
theorem State.trip_eq (s : State) (k : TripKind) (r : TripReport) : s.trip k r = { s with
    prot := { s.prot with latches := (s.trip k r).prot.latches }
    transit := { s.transit with
      alerts := s.transit.alerts ++ if s.prot.latch k = none then [(.trip, tripPayload k (s.profile.actionOf k) r)] else []
      demands := s.transit.demands + if s.prot.latch k = none then (if s.profile.actionOf k = .orderlyOpen then 1 else 0)
        else 0 } } := by
  cases h : s.prot.latch k with
  | some a => simp [State.trip_set r h]
  | none =>
    rw [State.trip_clear r h]
    simp [Protection.setLatch]

theorem State.trip_latch (s : State) (k : TripKind) (r : TripReport) (j : TripKind) : (s.trip k r).prot.latch j =
    if j = k then some ((s.prot.latch k).getD (s.profile.actionOf k)) else s.prot.latch j := by
  cases h : s.prot.latch k with
  | some a =>
    rw [State.trip_set r h]
    split
    · subst j; simp [h]
    · rfl
  | none =>
    rw [State.trip_clear r h]
    exact Protection.latch_setLatch _ _ _ _

/-- A line sampled at the reset's end trips its kind where it is asserted (R88, R89). -/
theorem State.tripIf_eq (s : State) (k : TripKind) (b : Bool) : (if b then s.trip k .plain else s) = { s with
    prot := { s.prot with latches := (if b then s.trip k .plain else s).prot.latches }
    transit := { s.transit with
      alerts := s.transit.alerts ++ if b then (if s.prot.latch k = none then
        [(.trip, tripPayload k (s.profile.actionOf k) .plain)] else []) else []
      demands := s.transit.demands + if b then (if s.prot.latch k = none then
        (if s.profile.actionOf k = .orderlyOpen then 1 else 0) else 0) else 0 } } := by
  cases b
  · simp
  · exact State.trip_eq s k .plain

theorem State.tripIf_latch (s : State) (k : TripKind) (b : Bool) (j : TripKind) :
    (if b then s.trip k .plain else s).prot.latch j =
      if j = k ∧ b = true then some ((s.prot.latch k).getD (s.profile.actionOf k)) else s.prot.latch j := by
  cases b
  · simp
  · simpa using s.trip_latch k .plain j

/-- SAFE_OPEN and TAMPER_IN as the Protection Monitor samples them (R88, R89). -/
def State.linesTripped (s : State) : State :=
  let s := if s.inputs.pins.safeOpen then s.trip .safeLine .plain else s
  if s.inputs.pins.tamperIn then s.trip .tamper .plain else s

/-- The TRIP alerts of the two lines. -/
def State.lineAlerts (s : State) : List (AlertKind × List Byte) :=
  (if s.inputs.pins.safeOpen then (if s.prot.latch .safeLine = none then
    [(.trip, tripPayload .safeLine .immediateOpen .plain)] else []) else []) ++
  (if s.inputs.pins.tamperIn then s.tamperTrip else [])

/-- The ORDERLY_OPEN demand that TAMPER may make. -/
def State.lineDemands (s : State) : Nat :=
  if s.inputs.pins.tamperIn then (if s.prot.latch .tamper = none then
    (if s.profile.actionOf .tamper = .orderlyOpen then 1 else 0) else 0) else 0

theorem State.linesTripped_latch (s : State) (k : TripKind) : s.linesTripped.prot.latch k =
    if k = .safeLine ∧ s.inputs.pins.safeOpen = true then some ((s.prot.latch .safeLine).getD .immediateOpen)
    else if k = .tamper ∧ s.inputs.pins.tamperIn = true then
      some ((s.prot.latch .tamper).getD (s.profile.actionOf .tamper))
    else s.prot.latch k := by
  unfold State.linesTripped
  have h1 := s.tripIf_latch .safeLine s.inputs.pins.safeOpen
  have he := s.tripIf_eq .safeLine s.inputs.pins.safeOpen
  generalize (if s.inputs.pins.safeOpen then s.trip .safeLine .plain else s) = u at h1 he ⊢
  have hpins : u.inputs = s.inputs ∧ u.profile = s.profile := by rw [he]; exact ⟨rfl, rfl⟩
  dsimp only
  rw [State.tripIf_latch, hpins.1, hpins.2, h1, h1]
  by_cases hk : k = .tamper
  · subst hk; simp
  · by_cases hs : k = .safeLine
    · subst hs; simp [Profile.actionOf]
    · simp [hk, hs]

theorem State.linesTripped_eq (s : State) : s.linesTripped = { s with
    prot := { s.prot with latches := s.linesTripped.prot.latches }
    transit := { s.transit with
      alerts := s.transit.alerts ++ s.lineAlerts, demands := s.transit.demands + s.lineDemands } } := by
  have h1 := s.tripIf_latch .safeLine s.inputs.pins.safeOpen .tamper
  have he := s.tripIf_eq .safeLine s.inputs.pins.safeOpen
  unfold State.linesTripped
  generalize (if s.inputs.pins.safeOpen then s.trip .safeLine .plain else s) = u at h1 he ⊢
  dsimp only
  have hu := u.tripIf_eq .tamper u.inputs.pins.tamperIn
  generalize (if u.inputs.pins.tamperIn then u.trip .tamper .plain else u) = v at hu ⊢
  rw [if_neg (by simp)] at h1
  rw [h1] at hu
  refine hu.trans ?_
  rw [he]
  have hsafe : s.profile.actionOf .safeLine = .immediateOpen := rfl
  simp only [State.lineAlerts, State.lineDemands, hsafe, List.append_assoc]
  simp [State.tamperTrip]
  rfl

/-- The blocks that the end of a reset sets before the lines are sampled: the sample timer and the aux levels (R46, R96). -/
def State.resetSampled (s : State) : State := { s with
  inputs := { s.inputs with inReset := false }
  sensing := { s.sensing with sampleTimer := some 250 }
  cont := { s.auxSampled.cont with watches := s.auxSampled.freshWatches } }

/-- The state at the end of a reset, with the lines sampled and the tone leaving port A (R85, R94, R147). -/
def State.resetEnded (s : State) : State := { s.resetSampled with
  prot := { s.prot with latches := s.resetSampled.linesTripped.prot.latches }
  transit := { s.transit with
    killEdges := if s.resetSampled.linesTripped.killGate then [true] else []
    alerts := s.transit.alerts ++ s.lineAlerts
    demands := s.transit.demands + s.lineDemands }
  pool := { s.pool with updateCount := 1 }
  chain := { s.chain with
    engine := some ⟨.sleepController, .wakeTone, .a, .sending, 0, s.profile.replyTimeout, 0, 0, .noError⟩
    txTimer := some 500, replyTimer := none, watchTimer := none, idleTimer := none, sleepRequest := none } }

/-- The end of a reset with the chain idle. -/
theorem State.endReset_eq {s : State} (hf : s.seq.frame = none) (he : s.chain.engine = none)
    (hl : s.chain.location = none) (hr : s.chain.seqRequest = none) (hq : s.chain.quietA = none)
    (hp : s.sleep.power ≠ .asleep) : s.endReset = s.resetEnded.fetch := by
  obtain ⟨v, hv⟩ : ∃ v : State, v = { s.resetSampled.linesTripped with
    chain := { s.resetSampled.linesTripped.chain with sleepRequest := some .wakeTone }
    transit := { s.resetSampled.linesTripped.transit with
      killEdges := if s.resetSampled.linesTripped.killGate then [true] else [] } } := ⟨_, rfl⟩
  have hform : s.endReset = (v.settle.onPool fun p => { p with updateCount := 1 }).fetch := by
    rw [hv, ← show State.sampleAux ((s.onInputs fun i => { i with inReset := false }).onSensing fun x =>
      { x with sampleTimer := some 250 }) false = s.resetSampled by rw [State.sampleAux_false]; rfl]
    rfl
  have hsettle : v.settle = { v with chain := { v.chain with
      engine := some ⟨.sleepController, .wakeTone, .a, .sending, 0, s.profile.replyTimeout, 0, 0, .noError⟩
      txTimer := some 500, replyTimer := none, watchTimer := none, idleTimer := none, sleepRequest := none } } := by
    rw [State.linesTripped_eq] at hv
    have hchain : v.chain = { s.chain with sleepRequest := some .wakeTone } := by rw [hv]; rfl
    have hengine : v.chain.engine = none := by rw [hchain]; exact he
    have hquiet : v.chain.quiet .a = false := by rw [hchain]; simp [Chain.quiet, hq]
    rw [State.settle_sleepRequest (f := .wakeTone) (by rw [hv]; simp [State.listIdle, State.resetSampled, hf]) (by rw [hv]; rfl)
      (by rw [hv]; exact hp) (by rw [hchain]) (.inr (by rw [hchain]; exact ⟨hl, hr⟩)), hengine, hquiet]
    rw [hv]
    rfl
  rw [hform, hsettle, hv, State.resetEnded]
  rw [State.linesTripped_eq s.resetSampled]
  rfl

theorem State.resetEnded_latch (s : State) (k : TripKind) : s.resetEnded.prot.latch k =
    if k = .safeLine ∧ s.inputs.pins.safeOpen = true then some ((s.prot.latch .safeLine).getD .immediateOpen)
    else if k = .tamper ∧ s.inputs.pins.tamperIn = true then
      some ((s.prot.latch .tamper).getD (s.profile.actionOf .tamper))
    else s.prot.latch k := s.resetSampled.linesTripped_latch k

/-- The gate that the sequencer finds at the end of a reset is the gate of the state it ends in (R85). -/
theorem State.resetEnded_killGate (s : State) : s.resetSampled.linesTripped.killGate = s.resetEnded.killGate := by
  rw [State.linesTripped_eq]; rfl

theorem exists_tripKindCode {i : Nat} (h : i < 11) : ∃ k, tripKindCode k = i := by
  interval_cases i
  exacts [⟨.cellOv, rfl⟩, ⟨.cellUv, rfl⟩, ⟨.cellUvAbs, rfl⟩, ⟨.tempHigh, rfl⟩, ⟨.tempLow, rfl⟩, ⟨.plausibility, rfl⟩,
    ⟨.currentDischarge, rfl⟩, ⟨.currentCharge, rfl⟩, ⟨.supervisionLoss, rfl⟩, ⟨.safeLine, rfl⟩, ⟨.tamper, rfl⟩]

/-- The gate in terms of the line and the latches (R85). -/
theorem State.killGate_iff (s : State) : s.killGate = true ↔
    s.inputs.pins.safeOpen = true ∨ ∃ k, s.prot.latch k = some .immediateOpen := by
  have hany : s.prot.latches.any (· == some .immediateOpen) = true ↔ ∃ k, s.prot.latch k = some .immediateOpen := by
    rw [← Vector.any_toList]
    simp only [List.any_eq_true, Vector.mem_toList_iff, Vector.mem_iff_getElem, beq_iff_eq]
    constructor
    · rintro ⟨x, ⟨i, hi, rfl⟩, hx⟩
      obtain ⟨k, rfl⟩ := exists_tripKindCode hi
      exact ⟨k, by simpa [Protection.latch, hi] using hx⟩
    · rintro ⟨k, hk⟩
      exact ⟨_, ⟨tripKindCode k, tripKindCode_lt k, rfl⟩, by simpa [Protection.latch, tripKindCode_lt k] using hk⟩
  simp [State.killGate, hany]

/-- The byte fetched at the start of the Status Block is the update count's low one (R134, R145). -/
theorem State.fetch_status {s : State} (hn : s.link.number = 0) (ho : s.link.offset = 0) (hu : s.pool.updateCount = 1) :
    s.fetch = { s with link := { s.link with readAhead := .captured 1 } } := by
  have hbyte : s.exchangeByte 0 = 1 := by
    simp [State.exchangeByte, State.statusByte, hu, leBytes]
  simp [State.fetch, State.onLink, State.fetchAt, hn, ho, hbyte]

theorem lockedPayload_one : lockedPayload 1 = [1] := by decide

/-- A reset chooses the session's state, with TAMPER_IN sampled (R173). -/
theorem State.sampleTamperAtStore_eq (s : State) (b : Bool) : s.sampleTamperAtStore b = { s with
    store := { s.store with session := if b = true then .locked else s.store.session }
    transit := { s.transit with alerts := s.transit.alerts ++
      if b = true ∧ s.store.session ≠ .locked then [(.updateLocked, [1])] else [] } } := by
  unfold State.sampleTamperAtStore State.lockAtReset
  cases b
  · simp
  · by_cases h : s.store.session = .locked
    · simp [h]
      rw [← h]
    · simp [h, State.onStore, State.raise, State.onTransit, lockedPayload_one]

/-- The choice of the ACTIVE bank keeps the key and the count of rejected images, and ends what a session holds (R173). -/
theorem ProfileStore.choose_eq (p : ProfileStore) : p.choose = { p.choose with
    packKey := p.packKey, rejected := p.rejected, session := p.session, declVersion := 0, declLength := 0, nextOffset := 0
    chainChange := false, slot := none, waitTimer := none } := by
  unfold ProfileStore.choose
  dsimp only
  split_ifs <;> rfl

/-- RESET_N's assertion, and the release behind it. -/
theorem State.resetNAssertion_spec (l : ResetLevels) (s : State) : ∃ u, exec (.resetNAssertion l) s = .next u ∧
    u.inputs.inReset = true ∧ u.inputs.pins = { s.inputs.pins with ringEn := l.ringEn, tamperIn := l.tamperIn } ∧
    u.clock = { s.clock with packTime := 0 } ∧ (∀ k, u.coilOutput k = false) ∧ u.link = Link.reset .resetLine ∧
    u.chain = Chain.reset l.ringEn ∧ u.pool = Pool.reset ∧ u.sensing = Sensing.reset ∧
    u.seq = Sequencer.reset u.store.inUse.defaultPeriod ∧ u.table = FrameTable.reset ∧ u.prot = Protection.reset ∧
    u.cont = Contactors.reset ∧ u.sleep = Sleep.reset ∧ u.alerts = AlertWriter.reset ∧
    u.store.rejected = s.store.rejected ∧
    u.store.session = (if s.store.session = .locked ∨ l.tamperIn = true then .locked else .idle) ∧
    u.transit = { Transit.empty with alerts :=
      if l.tamperIn = true ∧ s.store.session ≠ .locked then [(.updateLocked, [1])] else [] } ∧
    ∀ pins, ∃ t, exec (.resetNRelease pins) u = .next t ∧
      t.link = { Link.reset .resetLine with readAhead := .captured 1 } ∧ t.pool = { Pool.reset with updateCount := 1 } ∧
      t.sensing = { Sensing.reset with sampleTimer := some 250 } ∧ t.sleep = Sleep.reset ∧ t.seq = u.seq := by
  obtain ⟨u, hu⟩ : ∃ u, exec (.resetNAssertion l) s = .next u := ⟨_, rfl⟩
  have hform : u = State.onInputs (fun i => { i with
      pins := { i.pins with ringEn := l.ringEn, tamperIn := l.tamperIn }, inReset := true })
      ((s.resetBlocks .resetLine l.ringEn s.store.resetLine).sampleTamperAtStore l.tamperIn) := (Host.Outcome.next.inj hu).symm
  rw [State.sampleTamperAtStore_eq] at hform
  have hrejected : s.store.choose.rejected = s.store.rejected := by
    rw [ProfileStore.choose_eq]
  refine ⟨u, hu, ?_, ?_, ?_, fun k => ?_, ?_, ?_, ?_, ?_, ?_, ?_, ?_, ?_, ?_, ?_, ?_, ?_, ?_, fun pins => ?_⟩
  case refine_4 => simp [State.coilOutput, hform, State.onInputs]
  case refine_15 => rw [hform]; exact hrejected
  case refine_16 =>
    rw [hform]
    cases hs : s.store.session <;> cases hl : l.tamperIn <;>
      simp [State.onInputs, State.resetBlocks, ProfileStore.resetLine, hs]
  case refine_17 =>
    rw [hform]
    cases hs : s.store.session <;> cases hl : l.tamperIn <;>
      simp [State.onInputs, State.resetBlocks, ProfileStore.resetLine, hs, Transit.empty]
  case refine_18 =>
    obtain ⟨v, hv⟩ : ∃ v, v = u.onInputs fun i => { i with pins := { pins with ringEn := i.pins.ringEn } } := ⟨_, rfl⟩
    have hexec : exec (.resetNRelease pins) u = .next v.resetEnded.fetch := by
      rw [← State.endReset_eq (s := v) (by rw [hv, hform]; rfl) (by rw [hv, hform]; rfl) (by rw [hv, hform]; rfl)
        (by rw [hv, hform]; rfl) (by rw [hv, hform]; rfl) (by rw [hv, hform]; exact nofun), hv, hform]
      rfl
    rw [State.fetch_status (by rw [hv, hform]; rfl) (by rw [hv, hform]; rfl) rfl] at hexec
    refine ⟨_, hexec, ?_, ?_, ?_, ?_, ?_⟩
    all_goals rw [hv, hform]; rfl
  all_goals rw [hform]; rfl

/-- Settles O11: the assertion field for field, the release by `State.endReset_eq`. -/
theorem resetLineResetsAndReleases : Obligations.ResetLineResetsAndReleases := by
  refine ⟨fun l s => ?_, fun pins s => ⟨fun h => ?_, fun h hf he hl hr hq hp => ?_⟩⟩
  · exact State.resetNAssertion_spec l s
  · have : s.inputs.inReset = false := h
    exact (show exec (.resetNRelease pins) s = .next (if s.inputs.inReset then _ else s) from rfl).trans (by rw [this]; rfl)
  · obtain ⟨u, hu⟩ : ∃ u, u = s.onInputs fun i => { i with pins := { pins with ringEn := i.pins.ringEn } } := ⟨_, rfl⟩
    have hexec : exec (.resetNRelease pins) s = .next u.resetEnded.fetch := by
      rw [← State.endReset_eq (s := u) (by rw [hu]; exact hf) (by rw [hu]; exact he) (by rw [hu]; exact hl) (by rw [hu]; exact hr)
        (by rw [hu]; exact hq) (by rw [hu]; exact hp), hu]
      exact (show exec (.resetNRelease pins) s = .next (if s.inputs.inReset then _ else s) from rfl).trans (by rw [h]; rfl)
    refine ⟨_, hexec, rfl, by rw [hu]; rfl, by rw [hu]; rfl, rfl, by rw [hu]; rfl, by rw [hu]; rfl, by rw [hu]; rfl, by rw [hu]; rfl,
      by rw [hu]; rfl, rfl, by rw [hu]; rfl, by rw [hu]; rfl, fun k => ?_, fun k => ?_, ?_, ?_, ?_⟩
    · refine (u.resetEnded_latch k).trans ?_
      rw [hu]; rfl
    · exact (State.freshWatches_get _ k).trans rfl
    · exact congrArg (fun g : Bool => if g then [true] else []) u.resetEnded_killGate
    · have halerts : u.lineAlerts = (if pins.safeOpen = true ∧ s.prot.latch .safeLine = none then
            [(.trip, tripPayload .safeLine .immediateOpen .plain)] else []) ++
          (if pins.tamperIn then s.tamperTrip else []) := by
        have hpins : u.inputs.pins.safeOpen = pins.safeOpen ∧ u.inputs.pins.tamperIn = pins.tamperIn := by rw [hu]; exact ⟨rfl, rfl⟩
        have htrip : u.tamperTrip = s.tamperTrip ∧ u.prot = s.prot := by rw [hu]; exact ⟨rfl, rfl⟩
        rw [State.lineAlerts, hpins.1, hpins.2, htrip.1, htrip.2]
        cases pins.safeOpen <;> simp
      rw [List.append_assoc, ← halerts, hu]
      rfl
    · rw [hu]
      simp [sameExcept_iff, State.fetch, State.onLink, State.resetEnded, State.resetSampled, State.onInputs]

/-- The part at power-on, before the end of the reset: every block at its reset values, TAMPER_IN sampled at the store. -/
def State.poweredOn (s : State) (pins : PinLevels) : State := { s with
  clock := ⟨0, 1000⟩
  inputs := { s.inputs with pins := pins }
  link := Link.reset .powerOn
  pool := Pool.reset
  alerts := AlertWriter.reset
  chain := Chain.reset pins.ringEn
  seq := Sequencer.reset s.store.choose.inUse.defaultPeriod
  sensing := Sensing.reset
  table := FrameTable.reset
  prot := Protection.reset
  cont := Contactors.reset
  sleep := Sleep.reset
  store := { s.store.choose with rejected := 0, session := if pins.tamperIn then .locked else .idle }
  transit := { Transit.empty with alerts := if pins.tamperIn then [(.updateLocked, [1])] else [] } }

theorem State.exec_powerOnReset (pins : PinLevels) (s : State) :
    exec (.powerOnReset pins) s = .next (s.poweredOn pins).endReset := by
  refine (show exec (.powerOnReset pins) s = .next (State.endReset (State.onClock (fun c => { c with tick := 1000 })
    (State.sampleTamperAtStore ((s.resetBlocks .powerOn pins.ringEn s.store.powerOn).onInputs fun i => { i with pins := pins })
      pins.tamperIn))) from rfl).trans ?_
  rw [State.sampleTamperAtStore_eq]
  cases hp : pins.tamperIn <;>
    simp [State.onClock, State.onInputs, State.resetBlocks, ProfileStore.powerOn, State.poweredOn, hp, Transit.empty]

theorem Protection.latch_reset (k : TripKind) : Protection.reset.latch k = none := by cases k <;> rfl

/-- Settles O10: the reset blocks are those of `State.poweredOn`, the rest is the end of a reset. -/
theorem powerOnResetSetsEveryBlock : Obligations.PowerOnResetSetsEveryBlock := by
  intro pins s
  obtain ⟨v, hv⟩ : ∃ v, v = s.poweredOn pins := ⟨_, rfl⟩
  have hexec : exec (.powerOnReset pins) s = .next { v.resetEnded with
      link := { v.resetEnded.link with readAhead := .captured 1 } } := by
    rw [← State.fetch_status (s := v.resetEnded) (by rw [hv]; rfl) (by rw [hv]; rfl) rfl, ← State.endReset_eq (s := v) (by rw [hv]; rfl) (by rw [hv]; rfl)
      (by rw [hv]; rfl) (by rw [hv]; rfl) (by rw [hv]; rfl) (by rw [hv]; exact nofun), hv, State.exec_powerOnReset]
  have hlatch (k : TripKind) : v.prot.latch k = none := by rw [hv]; exact Protection.latch_reset k
  have hlatches (k : TripKind) : v.resetEnded.prot.latch k =
      if k = .safeLine ∧ pins.safeOpen = true then some .immediateOpen
      else if k = .tamper ∧ pins.tamperIn = true then some (v.profile.actionOf .tamper) else none := by
    rw [State.resetEnded_latch, hlatch, hlatch, hlatch]
    rw [hv]; rfl
  refine ⟨_, hexec, ?_, ?_, ?_, ?_, ?_, ?_, ?_, ?_, ?_, ?_, hlatches, ?_, fun k => ?_, ?_, ?_, ?_, ?_⟩
  case refine_12 =>
    have hwatch : v.auxSampled.watchOf k none = if v.auxSampled.cont.expected k = some (!(PinLevels.aux pins).get k) then
        some ⟨1000 * v.profile.window, 0⟩ else none := by
      rw [← Contactors.tableLevel_eq, hv]; rfl
    have hexpected : v.auxSampled.cont.expected k = some false := by
      rw [hv]
      simp [Contactors.expected, Contactors.faulty, State.auxSampled, State.poweredOn, Contactors.reset]
    refine (State.freshWatches_get _ k).trans (hwatch.trans ?_)
    rw [hexpected]
    cases (PinLevels.aux pins).get k <;> rfl
  case refine_14 =>
    have hstore : v.store = { s.store.choose with rejected := 0, session := if pins.tamperIn then .locked else .idle } := by
      rw [hv]; rfl
    have hkeeps : v.resetEnded.store = v.store := rfl
    rw [hkeeps, hstore, ProfileStore.choose_eq]
  case refine_15 =>
    have hpins : v.resetEnded.inputs.pins = pins := by rw [hv]; rfl
    have hgate : v.resetSampled.linesTripped.killGate = true ↔
        pins.safeOpen = true ∨ pins.tamperIn = true ∧ v.profile.actionOf .tamper = .immediateOpen := by
      rw [State.resetEnded_killGate, State.killGate_iff, hpins]
      constructor
      · rintro (h | ⟨k, hk⟩)
        · exact .inl h
        · rw [hlatches] at hk
          split_ifs at hk with h1 h2
          · exact .inl h1.2
          · exact .inr ⟨h2.2, by simpa using hk⟩
      · rintro (h | ⟨h1, h2⟩)
        · exact .inl h
        · exact .inr ⟨.tamper, by rw [hlatches, if_neg (by simp), if_pos ⟨rfl, h1⟩, h2]⟩
    have hdemands : v.lineDemands = if pins.tamperIn = true ∧ v.profile.actionOf .tamper = .orderlyOpen then 1 else 0 := by
      rw [State.lineDemands, hlatch, if_pos rfl, show v.inputs.pins = pins by rw [hv]; rfl]
      by_cases ha : v.profile.actionOf .tamper = .orderlyOpen
      · cases pins.tamperIn <;> simp [-State.profile_eq, ha]
      · cases pins.tamperIn <;> simp [-State.profile_eq, ha]
    have halerts : v.lineAlerts = (if pins.safeOpen then [(.trip, tripPayload .safeLine .immediateOpen .plain)] else []) ++
        if pins.tamperIn then [(.trip, tripPayload .tamper (v.profile.actionOf .tamper) .plain)] else [] := by
      rw [State.lineAlerts, State.tamperTrip, hlatch, hlatch, if_pos rfl, if_pos rfl, show v.inputs.pins = pins by rw [hv]; rfl]
    have htransit : v.resetEnded.transit = { Transit.empty with
        killEdges := if v.resetSampled.linesTripped.killGate then [true] else []
        alerts := (if pins.tamperIn then [(.updateLocked, [1])] else []) ++ v.lineAlerts
        demands := v.lineDemands } := by
      have hbefore : v.transit = { Transit.empty with alerts := if pins.tamperIn then [(.updateLocked, [1])] else [] } := by
        rw [hv]; rfl
      rw [State.resetEnded, hbefore]
      simp [Transit.empty]
    refine Eq.trans (b := v.resetEnded.transit) rfl (htransit.trans ?_)
    rw [hdemands, halerts, List.append_assoc]
    simp only [hgate]
    rfl
  all_goals rw [hv]; rfl

end Sys2Proof.Machine

namespace Sys2Proof.Machine

open Sys2Proof

/-! ## The commit (R169) -/

/-- The commit writes the two banks, the floor, the profile in use, the session, the wait and the mark. -/
theorem ProfileStore.commit_eq (p : ProfileStore) : p.commit = { p with
    bankA := p.commit.bankA
    bankB := p.commit.bankB
    floor := p.target.version
    inUse := profileOf p.target.image
    session := .idle
    waitTimer := none
    chainChange := false } := by
  unfold ProfileStore.commit ProfileStore.setBank
  cases p.targetBank <;> cases p.activeBank <;> rfl

theorem ProfileStore.commit_bank_target (p : ProfileStore) :
    p.commit.bank p.targetBank = { p.target with state := .active, sequence := p.active.sequence + 1 } := by
  by_cases h : p.bankA.state = .active <;>
    simp [ProfileStore.commit, ProfileStore.bank, ProfileStore.setBank, ProfileStore.targetBank,
      ProfileStore.activeBank, h]

theorem ProfileStore.commit_bank_active (p : ProfileStore) :
    p.commit.bank p.activeBank = { p.active with state := .stale } := by
  by_cases h : p.bankA.state = .active <;>
    simp [ProfileStore.commit, ProfileStore.bank, ProfileStore.setBank, ProfileStore.targetBank,
      ProfileStore.activeBank, h]

/-- After the commit the bank that the session worked on is the ACTIVE one. -/
theorem ProfileStore.commit_activeBank (p : ProfileStore) : p.commit.activeBank = p.targetBank := by
  by_cases h : p.bankA.state = .active <;>
    simp [ProfileStore.commit, ProfileStore.setBank, ProfileStore.targetBank, ProfileStore.activeBank, h]

theorem ProfileStore.commit_active (p : ProfileStore) :
    p.commit.active = { p.target with state := .active, sequence := p.active.sequence + 1 } := by
  rw [ProfileStore.active, ProfileStore.commit_activeBank, ProfileStore.commit_bank_target]

/-! ## The activation (R18, R43, R45, R169) -/

/-- A detail word of a 16-bit field and two bytes. -/
theorem packDetail_half_bytes {a b c : Nat} (ha : a < 65536) (hb : b < 256) (hc : c < 256) :
    packDetail [(2, (a : Int)), (1, (b : Int)), (1, (c : Int))] =
      BitVec.ofNat 32 (a + 65536 * b + 2 ^ 24 * c) := by
  have h2 (n : Nat) (hn : n < 65536) : leSigned 2 (n : Int) = leBytes 2 n := by
    rw [leSigned]
    congr 1
    omega
  have h1 (n : Nat) (hn : n < 256) : leSigned 1 (n : Int) = leBytes 1 n := by
    rw [leSigned]
    congr 1
    omega
  have hfields : packFields [(2, (a : Int)), (1, (b : Int)), (1, (c : Int))] =
      leBytes 2 a ++ (leBytes 1 b ++ leBytes 1 c) := by
    simp [packFields, h2 a ha, h1 b hb, h1 c hc]
  rw [packDetail, hfields]
  apply BitVec.eq_of_toNat_eq
  simp [detailOf, slice, leBytes, ofLe]
  omega

/-- The Frame Sequencer after an activation that changes CHAIN (R43, R45). -/
def Sequencer.stoppedForChain (q : Sequencer) : Sequencer :=
  if q.sampler = .waiting ∨ q.sampler = .halted then { q with
    sampler := .stopped
    frameTimer := none
    startDue := false
    activeSlot := none
    pendingSwitch := none
    slot := match q.slot with | some (.select _) => none | x => x }
  else q

/-- The buffer of the pending SELECT_LIST that the stop of the sampler aborts (R43). -/
def Sequencer.abortedSelect (q : Sequencer) : Option Nat :=
  if q.sampler = .waiting ∨ q.sampler = .halted then
    match q.slot with
    | some (.select m) => some m
    | _ => none
  else none

theorem State.stopForChainChange_eq (s : State) : s.stopForChainChange =
    { (match s.seq.abortedSelect with | none => s | some m => s.complete m .aborted 0) with
      seq := s.seq.stoppedForChain } := by
  have stopped (h : s.seq.sampler = .waiting ∨ s.seq.sampler = .halted) :
      (s.onSeq fun q => q.leave .stopped).abortSwitch =
        { (match s.seq.abortedSelect with | none => s | some m => s.complete m .aborted 0) with
          seq := s.seq.stoppedForChain } := by
    have hd : packDetail [(1, (samplerCode .stopped : Int))] = 0 := by decide
    rw [Sequencer.abortedSelect, if_pos h, Sequencer.stoppedForChain, if_pos h, State.abortSwitch]
    cases hs : s.seq.slot with
    | none => simp [State.onSeq, Sequencer.leave, hs]
    | some o =>
      cases o <;> simp [State.onSeq, Sequencer.leave, hs, hd] <;> rfl
  cases hs : s.seq.sampler with
  | waiting => rw [← stopped (.inl hs), State.stopForChainChange, hs]
  | halted => rw [← stopped (.inr hs), State.stopForChainChange, hs]
  | stopped => simp [State.stopForChainChange, hs, Sequencer.abortedSelect, Sequencer.stoppedForChain]
  | running => simp [State.stopForChainChange, hs, Sequencer.abortedSelect, Sequencer.stoppedForChain]

/-- The state with the profile committed and loaded, and all that its change of CHAIN brings but the completions. -/
def State.loaded (s : State) : State := { s with
  store := s.store.commit
  prot := { s.prot with counters := Vector.replicate 8 0 }
  chain := if s.store.chainChange then s.chain.chainChanged else s.chain
  seq := if s.store.chainChange then s.seq.stoppedForChain else s.seq }

/-- The buffer of the SELECT_LIST that an activation aborts. -/
def State.abortedSelect (s : State) : Option Nat := if s.store.chainChange then s.seq.abortedSelect else none

/-- An activation: the loads, the SELECT_LIST that it aborts, and its own completion. -/
theorem State.activate_eq (s : State) : s.activate =
    State.completeStoreOrder (match s.abortedSelect with
      | none => s.loaded
      | some m => s.loaded.complete m .aborted 0) .ok (s.activationDetail s.store.chainChange) := by
  have hdetail (mark : Bool) : packDetail [(2, (s.store.commit.active.sequence.toNat % 65536 : Nat)),
      (1, bankCode s.store.commit.activeBank), (1, boolCode mark)] = s.activationDetail mark := by
    have hb : bankCode s.store.targetBank < 256 := by cases s.store.targetBank <;> decide
    have hm : boolCode mark < 256 := by cases mark <;> decide
    rw [ProfileStore.commit_activeBank, ProfileStore.commit_active, packDetail_half_bytes (by omega) hb hm]
    cases h : s.store.targetBank <;> cases mark <;> simp [State.activationDetail, h, bankCode, boolCode]
  unfold State.activate State.abortedSelect State.loaded
  cases hm : s.store.chainChange
  · exact congrArg (State.completeStoreOrder _ .ok) (hdetail false)
  · simp only [if_true, State.stopForChainChange_eq, State.onChain_seq, State.onProt_seq, State.onStore_seq]
    cases s.seq.abortedSelect
    · exact congrArg (State.completeStoreOrder _ .ok) (hdetail true)
    · exact congrArg (State.completeStoreOrder _ .ok) (hdetail true)

/-- What stands behind the completions of an activation has been activated (R169). -/
theorem State.activated_loaded {s t : State}
    (hstore : t.store = { s.loaded.store with slot := none }) (hprot : t.prot = s.loaded.prot)
    (hchain : t.chain = s.loaded.chain) (hseq : t.seq = s.loaded.seq) : s.activated t s.store.chainChange := by
  refine ⟨?_, ?_, ?_, hprot, ?_, ?_⟩
  · rw [hstore, State.loaded, ProfileStore.commit_eq]
  · rw [hstore]
    exact s.store.commit_bank_target
  · rw [hstore]
    exact s.store.commit_bank_active
  · intro h
    rw [hchain, hseq]
    simp [State.loaded, h]
  · intro h
    rw [hchain, hseq]
    simp only [State.loaded, h, if_true]
    refine ⟨?_, rfl⟩
    cases he : s.chain.enumStatus <;> simp [Chain.chainChanged, he]

/-- Nothing is ready behind an activation that was not before it. -/
theorem State.loaded_workIdle {s : State} (h : s.workIdle) : s.loaded.workIdle := by
  obtain ⟨hl, hreq⟩ := h
  have hframe : s.loaded.seq.frame = s.seq.frame := by
    cases hm : s.store.chainChange <;> simp [State.loaded, hm, Sequencer.stoppedForChain]
    split <;> rfl
  have hengine : s.loaded.chain.engine = s.chain.engine := by
    cases hm : s.store.chainChange <;> simp [State.loaded, hm, Chain.chainChanged]
    split <;> rfl
  refine ⟨by simpa [State.listIdle, hframe] using hl, ?_⟩
  rw [hengine]
  refine hreq.imp id fun ⟨h1, h2, h3, h4⟩ => ?_
  cases hm : s.store.chainChange <;> simp [State.loaded, hm, Chain.chainChanged]
  · exact ⟨h1, h2, h3, h4⟩
  · split <;> simp [Chain.noRequest, h1, h2, h3, h4]

/-- With the session not waiting for its activation, what an event reports is the kill gate and the contactors. -/
theorem State.report_of_session {s old : State} (hs : s.store.session ≠ .activationPending)
    (hpins : s.inputs.pins.safeOpen = old.inputs.pins.safeOpen) (hlatch : s.prot.latches = old.prot.latches)
    (hcont : s.cont.state = old.cont.state) : s.report old = s := by
  have hgate : s.killGate = old.killGate := by simp [State.killGate, hpins, hlatch]
  simp [State.report, hgate, hcont, hs, State.onTransit]

/-- The state behind an activation: loaded, the order's slot empty, and the pool with the completions. -/
def State.activatedWith (s : State) (pool : Pool) : State :=
  { s.loaded with store := { s.loaded.store with slot := none }, pool := pool }

theorem State.activate_activatedWith {s : State} {n : Nat} (hslot : s.store.slot = some (.activate n)) :
    s.activate = s.activatedWith (State.complete n .ok (s.activationDetail s.store.chainChange)
      (match s.abortedSelect with | none => s | some m => s.complete m .aborted 0)).pool := by
  have hslot' : s.loaded.store.slot = some (.activate n) := by
    rw [State.loaded, ProfileStore.commit_eq]
    exact hslot
  rw [State.activate_eq]
  cases s.abortedSelect <;> simp only [State.completeStoreOrder, State.complete_store, hslot'] <;> rfl

/-- The event that ends with an activation made; `old` is the state that the event began with. -/
theorem State.publish_activatedWith {s old : State} (hw : s.workIdle)
    (hpins : s.inputs.pins.safeOpen = old.inputs.pins.safeOpen) (hlatch : s.prot.latches = old.prot.latches)
    (hcont : s.cont.state = old.cont.state) (pool : Pool) :
    (s.activatedWith pool).settle = s.activatedWith pool ∧
      s.activated ((s.activatedWith pool).publish old) s.store.chainChange ∧
      SameExcept [.pool, .chain, .seq, .prot, .store] s ((s.activatedWith pool).publish old) := by
  have hreport : (s.activatedWith pool).report old = s.activatedWith pool := by
    refine State.report_of_session ?_ hpins hlatch hcont
    rw [State.activatedWith, State.loaded, ProfileStore.commit_eq]
    simp
  have hend : (s.activatedWith pool).publish old = { s.activatedWith pool with
      pool := { pool with updateCount := ((s.activatedWith pool).publish old).pool.updateCount } } := by
    conv_lhs => rw [State.publish_eq, hreport]
    rfl
  refine ⟨State.settle_of_workIdle (by exact State.loaded_workIdle hw), ?_, ?_⟩
  · refine State.activated_loaded ?_ ?_ ?_ ?_ <;> simp [State.activatedWith]
  · rw [hend, sameExcept_iff]
    simp [State.activatedWith, State.loaded]

/-- An activation with no SELECT_LIST pending. -/
theorem State.publish_activate {s old : State} {n : Nat} (hm : s.memoryOk) (hn : s.pool.sound n) (hw : s.workIdle)
    (hslot : s.store.slot = some (.activate n)) (hselect : s.abortedSelect = none)
    (hpins : s.inputs.pins.safeOpen = old.inputs.pins.safeOpen) (hlatch : s.prot.latches = old.prot.latches)
    (hcont : s.cont.state = old.cont.state) :
    ∃ t, s.activate.settle.publish old = t ∧ Completed s t n .ok (s.activationDetail s.store.chainChange) 0 ∧
      s.activated t s.store.chainChange ∧ SameExcept [.pool, .chain, .seq, .prot, .store] s t := by
  have hact := State.activate_activatedWith hslot
  rw [hselect] at hact
  obtain ⟨hset, ha, hs⟩ := State.publish_activatedWith hw hpins hlatch hcont
    (s.complete n .ok (s.activationDetail s.store.chainChange)).pool
  refine ⟨_, by rw [hact, hset], ?_, ha, hs⟩
  exact State.completed_publish .ok _ [] false false hm hn rfl rfl

/-! ## Two buffers with no page in common -/

/-- A write into one buffer leaves the bytes of another that shares no page with it. -/
theorem Pool.readBuffer_writeBuffer_disjoint {p : Pool} {n m : Nat}
    (hd : ∀ q ∈ (p.entry m).pages, q ∉ (p.entry n).pages) (o : Nat) (bs : List Byte) (i : Nat) :
    (p.writeBuffer n o bs).readBuffer m i = p.readBuffer m i := by
  have address_page {e : BufferEntry} {o a : Nat} (h : e.address o = some a) : a / 256 ∈ e.pages := by
    simp only [BufferEntry.address, Option.map_eq_some_iff] at h
    obtain ⟨q, hq, rfl⟩ := h
    rw [show (256 * q + o % 256) / 256 = q by omega]
    exact List.mem_of_getElem? hq
  induction bs generalizing p o with
  | nil => rfl
  | cons b bs ih =>
    rw [Pool.writeBuffer, ih (by simpa using hd)]
    unfold Pool.readBuffer
    rw [Pool.writeByte_entry]
    cases hm : (p.entry m).address i with
    | none => rfl
    | some a' =>
      cases hn : (p.entry n).address o with
      | none => simp [Pool.writeByte, hn]
      | some a =>
        have hne : a' ≠ a := fun h => hd _ (address_page hm) (h ▸ address_page hn)
        simp [Pool.writeByte, hn, memRead_memWrite_other b hne]

/-- A completion leaves the bytes of a buffer that shares no page with the one completed. -/
theorem State.complete_readBuffer_disjoint {s : State} {n m : Nat} (code : Completion) (detail : Word)
    (hd : ∀ q ∈ (s.pool.entry m).pages, q ∉ (s.pool.entry n).pages) (i : Nat) :
    (s.complete n code detail).pool.readBuffer m i = s.pool.readBuffer m i := by
  rw [State.complete_readBuffer, Pool.completed, Pool.readBuffer_writeBuffer_disjoint (by simpa using hd),
    Pool.readBuffer_writeBuffer_disjoint hd]

/-- A completion keeps exchange memory and the page lists in order. -/
theorem State.complete_memoryOk {s : State} (h : s.memoryOk) (n : Nat) (code : Completion) (detail : Word) :
    (s.complete n code detail).memoryOk := by
  obtain ⟨hwf, hpages, htarget⟩ := h
  refine ⟨?_, Pool.pagesOk_iff.mpr fun m => ?_, htarget⟩
  · have hmem : (s.complete n code detail).pool.memory =
        (s.pool.completed n [] (completionHeader s code detail false false)).memory := by
      rw [State.complete_eq]
      dsimp only
      split <;> simp
    rw [hmem]
    exact Pool.completed_wf _ _ hwf (hpages.lt n)
  · rw [State.complete_pages]
    exact Pool.pagesOk_iff.mp hpages m

end Sys2Proof.Machine

namespace Sys2Proof.Machine

open Sys2Proof

/-! ## ACTIVATE_PROFILE (R168, R169) -/

/-- The state in which an ACTIVATE_PROFILE waits for its conditions, with the session ACTIVATION_PENDING. -/
def State.awaitingActivation (s : State) (n : Nat) : State := s.onStore fun p => { p with
  chainChange := decide ((sectionsOf p.target.image).chain ≠ (sectionsOf p.active.image).chain)
  session := .activationPending
  waitTimer := some 10000000
  slot := some (.activate n) }

/-- An activation is ready where the contactors have settled and no frame runs (R168). -/
theorem State.activationReady_iff (s : State) : s.activationReady = true ↔
    (s.cont.state = .opened ∨ s.cont.state = .faulted ∨ s.cont.state = .closed ∧ s.store.chainChange = false) ∧
      s.seq.sampler ≠ .running := by
  unfold State.activationReady State.contactorsSettled
  cases s.cont.state <;> simp

theorem State.takeActivate_locked {s : State} (n : Nat) (h : s.store.session = .locked) :
    s.takeActivate n = s.complete n .lockedOut 0 := by
  rw [State.takeActivate, if_pos h]

theorem State.takeActivate_refused {s : State} (n : Nat) (h : s.store.session ≠ .locked)
    (h' : s.store.session ≠ .verified) : s.takeActivate n = s.complete n .refusedState 0 := by
  rw [State.takeActivate, if_neg h, if_pos h']

theorem State.takeActivate_verified {s : State} (n : Nat) (h : s.store.session = .verified) :
    s.takeActivate n = if (s.awaitingActivation n).activationReady = true then (s.awaitingActivation n).activate
      else s.awaitingActivation n := by
  rw [State.takeActivate, if_neg (by simp [h]), if_neg (by simp [h])]
  rfl

/-- The state that stands behind the taking of an ACTIVATE_PROFILE from a VERIFIED session. -/
def State.activating (s : State) (n : Nat) : State := (s.taken n).awaitingActivation n

/-- Its conditions not holding, the order waits in its slot (R168). -/
theorem State.activateProfile_waits {s : State} {n : Nat} (h : s.orderTaken n .activateProfile) (hw : s.workIdle)
    (hv : s.store.session = .verified) (hr : (s.activating n).activationReady = false) :
    ∃ t, exec .activateProfile s = .next t ∧ InService s t n ∧ t.store = (s.activating n).store ∧
      SameExcept [.pool, .store] s t := by
  have htake : (s.taken n).takeKind .activateProfile n = s.activating n := by
    refine (State.takeActivate_verified n (by exact hv)).trans (if_neg ?_)
    exact Bool.eq_false_iff.mp hr
  have hidle : (s.activating n).settle = s.activating n := State.settle_of_workIdle (by exact hw)
  refine ⟨(s.activating n).publish s, ?_, ?_, by simp, ?_⟩
  · exact (State.orderEvent_taken h).trans (by rw [htake, hidle])
  · exact State.inService_publish_taken h.range rfl
  · exact SameExcept.publish (by simp [sameExcept_iff, State.activating, State.awaitingActivation])
      (by simp [State.sameReported, State.activating, State.awaitingActivation]) (by simp)

/-- Its conditions holding, the activation is made in the event of the taking (R169). -/
theorem State.activateProfile_activates {s : State} {n : Nat} (h : s.orderTaken n .activateProfile) (hm : s.memoryOk)
    (hn : s.pool.sound n) (hw : s.workIdle) (hv : s.store.session = .verified)
    (hr : (s.activating n).activationReady = true) (hq : s.seq.slot = none) :
    ∃ t, exec .activateProfile s = .next t ∧
      Completed s t n .ok (s.activationDetail (s.activating n).store.chainChange) 0 ∧
      s.activated t (s.activating n).store.chainChange ∧ SameExcept [.pool, .chain, .seq, .prot, .store] s t := by
  have htake : (s.taken n).takeKind .activateProfile n = (s.activating n).activate :=
    (State.takeActivate_verified n (by exact hv)).trans (if_pos hr)
  have hselect : (s.activating n).abortedSelect = none := by
    simp [State.abortedSelect, Sequencer.abortedSelect, State.activating, State.awaitingActivation, hq]
  obtain ⟨t, ht, hc, ha, hs⟩ := State.publish_activate (s := s.activating n) (old := s) (n := n)
    ((State.taken_memoryOk s n).mpr hm)
    (by simpa [State.activating, State.awaitingActivation] using hn) (by exact hw) rfl hselect rfl rfl rfl
  refine ⟨t, (State.orderEvent_taken h).trans (by rw [htake, ht]), State.completed_of_taken (by exact hc), ha, ?_⟩
  have hbefore : SameExcept [.pool, .chain, .seq, .prot, .store] s (s.activating n) := by
    simp [sameExcept_iff, State.activating, State.awaitingActivation]
  exact hbefore.trans hs

/-- The completion of one order behind another's keeps both, where their buffers share no page. -/
theorem State.complete_two {s : State} {n m : Nat} (hm : s.memoryOk) (hn : s.pool.sound n) (hsm : s.pool.sound m)
    (hne : m ≠ n) (hd : ∀ q ∈ (s.pool.entry m).pages, q ∉ (s.pool.entry n).pages) (dm dn : Word)
    {u : State} (hclock : u.clock = s.clock)
    (hpool : u.pool = ((s.complete m .aborted dm).complete n .ok dn).pool) (old : State) :
    (u.publish old).orderWord n 12 = dn.toNat ∧
      (u.publish old).pool.resultQueue = s.pool.resultQueue ++ (if s.quiet n then [m] else [m, n]) ∧
      (u.publish old).orderByte m 6 = completionCode .aborted ∧ (u.publish old).orderByte m 7 = 0 ∧
      (u.publish old).orderWord m 12 = dm.toNat ∧ ((u.publish old).pool.entry m).state = .resultQueued ∧
      (u.publish old).orderByte n 6 = completionCode .ok := by
  obtain ⟨v, hv⟩ : ∃ v, v = s.complete m .aborted dm := ⟨_, rfl⟩
  have hfirst : Completed s v m .aborted dm 0 := by
    rw [hv]
    exact State.completed_of_complete .aborted dm [] false false hm hsm rfl (fun _ => rfl) rfl rfl rfl
  have hpagesv (k : Nat) : (v.pool.entry k).pages = (s.pool.entry k).pages := by rw [hv, State.complete_pages]
  have hsecond : Completed v (u.publish old) n .ok dn 0 := by
    refine State.completed_publish .ok dn [] false false (by rw [hv]; exact State.complete_memoryOk hm _ _ _)
      (by simpa only [Pool.sound, hpagesv] using hn) (by rw [hclock, hv]; rfl) (by rw [hpool, hv])
  have hquiet : v.quiet n = s.quiet n := by
    rw [State.quiet, State.orderByte, hv, State.complete_readBuffer_disjoint _ _ fun q hq hq' => hd q hq' hq]
    rfl
  have hbytes (i : Nat) : (u.publish old).pool.readBuffer m i = v.pool.readBuffer m i := by
    rw [State.publish_readBuffer, hpool, ← hv]
    exact State.complete_readBuffer_disjoint _ _ (by simpa only [hpagesv] using hd) i
  have hentry : (u.publish old).pool.entry m = v.pool.entry m := by
    rw [State.publish_entry, hpool, ← hv]
    exact State.complete_entry_other _ _ _ _ _ _ _ hne
  obtain ⟨m6, m7, -, m12, -, hjoin⟩ := hfirst
  obtain ⟨n6, -, -, n12, -, hnjoin⟩ := hsecond
  have hword : (u.publish old).orderWord m 12 = v.orderWord m 12 := by
    rw [State.orderWord, State.orderWord, Pool.bytes_congr hbytes]
  rw [if_neg (by simp)] at hjoin
  obtain ⟨hstate, hqueue, -⟩ := hjoin
  refine ⟨n12, ?_, ?_, ?_, by rw [hword, m12], by rw [hentry, hstate], n6⟩
  · rw [hquiet] at hnjoin
    cases hq : s.quiet n
    · rw [if_neg (by simp [hq])] at hnjoin
      rw [hnjoin.2.1, hqueue]
      simp
    · rw [if_pos (by simp [hq])] at hnjoin
      obtain ⟨-, -, -, hresults⟩ := hnjoin
      rw [hresults, hqueue]
      simp
  · rw [State.orderByte, hbytes]
    exact m6
  · rw [State.orderByte, hbytes]
    exact m7

/-- An activation at the taking that stops a WAITING sampler with a SELECT_LIST pending (R43, R45). -/
theorem State.activateProfile_aborts {s : State} {n m : Nat} (h : s.orderTaken n .activateProfile) (hm : s.memoryOk)
    (hn : s.pool.sound n) (hsm : s.pool.sound m) (hne : m ≠ n)
    (hd : ∀ q ∈ (s.pool.entry m).pages, q ∉ (s.pool.entry n).pages) (hw : s.workIdle)
    (hv : s.store.session = .verified) (hchain : (s.activating n).store.chainChange = true)
    (hr : (s.activating n).activationReady = true) (hwait : s.seq.sampler = .waiting)
    (hq : s.seq.slot = some (.select m)) :
    ∃ t, exec .activateProfile s = .next t ∧ s.activated t true ∧ t.orderWord n 12 = (s.activationDetail true).toNat ∧
      t.pool.resultQueue = s.pool.resultQueue ++ (if s.quiet n then [m] else [m, n]) ∧
      SameExcept [.pool, .chain, .seq, .prot, .store] s t ∧
      t.orderByte m 6 = completionCode .aborted ∧ t.orderByte m 7 = 0 ∧
      t.orderWord m 12 = samplerCode .stopped ∧ (t.pool.entry m).state = .resultQueued ∧
      t.orderByte n 6 = completionCode .ok := by
  have htake : (s.taken n).takeKind .activateProfile n = (s.activating n).activate :=
    (State.takeActivate_verified n (by exact hv)).trans (if_pos hr)
  have hwait' : (s.activating n).seq.sampler = .waiting := hwait
  have hq' : (s.activating n).seq.slot = some (.select m) := hq
  have hselect : (s.activating n).abortedSelect = some m := by
    simp [State.abortedSelect, Sequencer.abortedSelect, hchain, hwait', hq']
  have hact := State.activate_activatedWith (s := s.activating n) (n := n) rfl
  rw [hselect, hchain] at hact
  obtain ⟨hset, ha, hs⟩ := State.publish_activatedWith (s := s.activating n) (old := s) (by exact hw) rfl rfl rfl
    (((s.activating n).complete m .aborted 0).complete n .ok ((s.activating n).activationDetail true)).pool
  rw [hchain] at ha
  have hbefore : SameExcept [.pool, .chain, .seq, .prot, .store] s (s.activating n) := by
    simp [sameExcept_iff, State.activating, State.awaitingActivation]
  have hpages (k : Nat) : ((s.activating n).pool.entry k).pages = (s.pool.entry k).pages := s.taken_pages n k
  obtain ⟨hword, hqueue, m6, m7, m12, hstate, n6⟩ := State.complete_two (s := s.activating n) (n := n) (m := m)
    ((State.taken_memoryOk s n).mpr hm) (by simpa only [Pool.sound, hpages] using hn)
    (by simpa only [Pool.sound, hpages] using hsm) hne (by simpa only [hpages] using hd) 0
    ((s.activating n).activationDetail true) (u := (s.activating n).activatedWith _) rfl rfl s
  have hquiet : (s.activating n).quiet n = s.quiet n := s.taken_quiet n n
  have hresults : (s.activating n).pool.resultQueue = s.pool.resultQueue := s.taken_resultQueue n
  refine ⟨_, (State.orderEvent_taken h).trans (by rw [htake, hact, hset]), ha, hword, ?_, hbefore.trans hs, m6, m7,
    m12, hstate, n6⟩
  exact hqueue.trans (by rw [hquiet, hresults])

/-- Settles O34: each taking by the session, the wait and the activation through the lemmas of the activation above. -/
theorem activateProfileCommitsOrWaits : Obligations.ActivateProfileCommitsOrWaits := by
  unfold Obligations.ActivateProfileCommitsOrWaits
  constructor
  · intro n s h hm hn hw hq
    have hready := State.activationReady_iff (s.activating n)
    by_cases hv : s.store.session = .verified
    · by_cases hr : (s.activating n).activationReady = true
      · obtain ⟨t, hx, hc, ha, hs⟩ := State.activateProfile_activates h hm hn hw hv hr hq
        exact ⟨t, hx, by simp [hv], by simp [hv], fun _ hno => absurd (hready.mp hr) hno, fun _ _ => ⟨hc, ha, hs⟩⟩
      · obtain ⟨t, hx, hi, hst, hs⟩ := State.activateProfile_waits h hw hv (by simpa using hr)
        exact ⟨t, hx, by simp [hv], by simp [hv], fun _ _ => ⟨hi, hst, hs⟩, fun _ hyes => absurd (hready.mpr hyes) hr⟩
    · by_cases hl : s.store.session = .locked
      · obtain ⟨t, hx, hc, hs, -⟩ := State.order_refused h hm hn hw
          ((s.taken n).takeActivate_locked n (by exact hl))
        exact ⟨t, hx, fun _ => ⟨hc, hs⟩, by simp [hl], by simp [hl], by simp [hl]⟩
      · obtain ⟨t, hx, hc, hs, -⟩ := State.order_refused h hm hn hw
          ((s.taken n).takeActivate_refused n (by exact hl) (by exact hv))
        exact ⟨t, hx, by simp [hl], fun _ _ => ⟨hc, hs⟩, by simp [hv], by simp [hv]⟩
  · intro n m s h hm hn hsm hne hd hw hv hc hcont hwait hq
    have hchange : (s.activating n).store.chainChange = true := decide_eq_true hc
    have hr : (s.activating n).activationReady = true :=
      (State.activationReady_iff _).mpr ⟨hcont.imp_right .inl, by
        rw [show (s.activating n).seq.sampler = .waiting from hwait]
        decide⟩
    exact State.activateProfile_aborts h hm hn hsm hne hd hw hv hchange hr hwait hq

end Sys2Proof.Machine

namespace Sys2Proof.Machine

open Sys2Proof

/-! ## Slices of an image -/

@[simp] theorem slice_length (bs : List Byte) (i k : Nat) : (slice bs i k).length = k := by
  induction k generalizing i with
  | zero => rfl
  | succ k ih => simp [slice, ih]

theorem slice_getElem? (bs : List Byte) {i k j : Nat} (h : j < k) :
    (slice bs i k)[j]? = some ((bs[i + j]?).getD 0) := by
  induction k generalizing i j with
  | zero => omega
  | succ k ih =>
    cases j with
    | zero => rfl
    | succ j =>
      rw [slice, List.getElem?_cons_succ, ih (by omega), show i + 1 + j = i + (j + 1) by omega]

/-- Two slices at one place agree where the bytes there do. -/
theorem slice_congr {bs cs : List Byte} {i k : Nat} (h : ∀ j, j < k → bs[i + j]? = cs[i + j]?) :
    slice bs i k = slice cs i k := by
  apply List.ext_getElem?
  intro j
  by_cases hj : j < k
  · rw [slice_getElem? _ hj, slice_getElem? _ hj, h j hj]
  · rw [List.getElem?_eq_none (by simpa using hj), List.getElem?_eq_none (by simpa using hj)]

/-- A slice of a slice, inside it, is a slice of the whole. -/
theorem slice_slice (bs : List Byte) {i k o m : Nat} (h : o + m ≤ k) :
    slice (slice bs i k) o m = slice bs (i + o) m := by
  apply List.ext_getElem?
  intro j
  by_cases hj : j < m
  · rw [slice_getElem? _ hj, slice_getElem? _ hj, slice_getElem? _ (by omega), Option.getD_some,
      show i + (o + j) = i + o + j by omega]
  · rw [List.getElem?_eq_none (by simpa using hj), List.getElem?_eq_none (by simpa using hj)]

section
variable (bs : List Byte) {i k o : Nat}

theorem u8_slice (h : o + 1 ≤ k) : u8 (slice bs i k) o = u8 bs (i + o) := by rw [u8, slice_slice _ h, u8]
theorem u16_slice (h : o + 2 ≤ k) : u16 (slice bs i k) o = u16 bs (i + o) := by rw [u16, slice_slice _ h, u16]
theorem u32_slice (h : o + 4 ≤ k) : u32 (slice bs i k) o = u32 bs (i + o) := by rw [u32, slice_slice _ h, u32]
theorem s16_slice (h : o + 2 ≤ k) : s16 (slice bs i k) o = s16 bs (i + o) := by rw [s16, slice_slice _ h, s16]

end

/-! ## The keyed tag of an image (R162, R166) -/

theorem tagOk_iff (key : BitVec 128) (image : List Byte) (length : Nat) : tagOk key image length = true ↔
    leBytes 16 (Config.keyedTag key (image.take (length - 16))).toNat = slice image (length - 16) 16 := by
  rw [tagOk, beq_iff_eq]

/-- The bytes of a tag spell it. -/
theorem leBytes_tag_inj {a b : BitVec 128} (h : leBytes 16 a.toNat = leBytes 16 b.toNat) : a = b := by
  have h := congrArg ofLe h
  rw [ofLe_leBytes, ofLe_leBytes] at h
  exact BitVec.eq_of_toNat_eq (by omega)

theorem keyedTag_key {key key' : BitVec 128} (bytes : List Byte) (h : key ≠ key') :
    Config.keyedTag key bytes ≠ Config.keyedTag key' bytes :=
  KeyedTag.key_changes _ key key' bytes h

theorem keyedTag_byte (key : BitVec 128) (before after : List Byte) {b b' : Byte} (h : b ≠ b') :
    Config.keyedTag key (before ++ b :: after) ≠ Config.keyedTag key (before ++ b' :: after) :=
  KeyedTag.byte_changes _ key before after b b' h

theorem tagOk_other_key {key key' : BitVec 128} {image : List Byte} {length : Nat} (h : tagOk key image length = true)
    (hk : key' ≠ key) : tagOk key' image length = false := by
  rw [Bool.eq_false_iff]
  intro h'
  rw [tagOk_iff] at h h'
  exact keyedTag_key _ hk (leBytes_tag_inj (h'.trans h.symm))

/-- An image with one byte changed fails its tag: a byte under the tag changes the tag, and one of the tag's own bytes
differs from the tag. -/
theorem tagOk_other_byte {key : BitVec 128} {before after : List Byte} {b b' : Byte} {length : Nat}
    (h : tagOk key (before ++ b :: after) length = true) (hb : b ≠ b') (hl : before.length < length) :
    tagOk key (before ++ b' :: after) length = false := by
  rw [Bool.eq_false_iff]
  intro h'
  rw [tagOk_iff] at h h'
  have hother {j : Nat} (hj : j ≠ before.length) :
      (before ++ b :: after)[j]? = (before ++ b' :: after)[j]? := by
    rcases Nat.lt_or_gt_of_ne hj with hj | hj
    · rw [List.getElem?_append_left hj, List.getElem?_append_left hj]
    · obtain ⟨d, rfl⟩ : ∃ d, j = before.length + (d + 1) := ⟨j - before.length - 1, by omega⟩
      simp [List.getElem?_append_right]
  by_cases hin : before.length < length - 16
  · have hslice : slice (before ++ b :: after) (length - 16) 16 = slice (before ++ b' :: after) (length - 16) 16 :=
      slice_congr fun j _ => hother (by omega)
    obtain ⟨d, hd⟩ : ∃ d, length - 16 - before.length = d + 1 := ⟨length - 16 - before.length - 1, by omega⟩
    have htake (x : Byte) : (before ++ x :: after).take (length - 16) = before ++ x :: after.take d := by
      rw [List.take_append, List.take_of_length_le (by omega), hd, List.take_succ_cons]
    rw [htake] at h h'
    exact keyedTag_byte key before (after.take d) hb (leBytes_tag_inj (h.trans (hslice.trans h'.symm)))
  · have htake (x : Byte) : (before ++ x :: after).take (length - 16) = before.take (length - 16) :=
      List.take_append_of_le_length (by omega)
    rw [htake] at h h'
    have hj : before.length - (length - 16) < 16 := by omega
    have hslice := congrArg (·[before.length - (length - 16)]?) (h.symm.trans h')
    simp only [slice_getElem? _ hj] at hslice
    rw [show length - 16 + (before.length - (length - 16)) = before.length by omega] at hslice
    exact hb (by simpa using hslice)

/-! ## The checks of an image, by the offsets of R181 (R166) -/

theorem imageSection_eq (b : List Byte) : imageSection b 0 = 24 ∧ imageSection b 1 = 24 + u16 b 8 ∧
    imageSection b 2 = 24 + u16 b 8 + u16 b 10 ∧ imageSection b 3 = 24 + u16 b 8 + u16 b 10 + u16 b 12 ∧
    imageSection b 4 = 24 + u16 b 8 + u16 b 10 + u16 b 12 + u16 b 14 ∧
    imageSection b 5 = 24 + u16 b 8 + u16 b 10 + u16 b 12 + u16 b 14 + u16 b 16 ∧
    imageSection b 6 = 24 + u16 b 8 + u16 b 10 + u16 b 12 + u16 b 14 + u16 b 16 + u16 b 18 := by
  simp [imageSection, List.range_succ]
  omega

/-- The sections of an image begin where `imageSection` says. -/
theorem sectionsOf_eq (b : List Byte) : sectionsOf b =
    { chain := slice b (imageSection b 0) (u16 b 8), calib := slice b (imageSection b 1) (u16 b 10)
      limits := slice b (imageSection b 2) (u16 b 12), contactor := slice b (imageSection b 3) (u16 b 14)
      sleep := slice b (imageSection b 4) (u16 b 16), frame := slice b (imageSection b 5) (u16 b 18) } := by
  obtain ⟨h0, h1, h2, h3, h4, h5, -⟩ := imageSection_eq b
  rw [h0, h1, h2, h3, h4, h5]
  rfl

theorem structureOk_iff (b : List Byte) (length : Nat) : structureOk b length = true ↔ ImageShape b length := by
  obtain ⟨-, -, -, -, -, -, h6⟩ := imageSection_eq b
  have hcells {d : Nat} (h : u16 b 8 = 8 + 2 * d) :
      ((List.range d).map fun i => u8 (slice b 24 (u16 b 8)) (8 + 2 * i)).sum =
        ((List.range d).map fun i => u8 b (32 + 2 * i)).sum := by
    congr 1
    refine List.map_congr_left fun i hi => ?_
    have := List.mem_range.mp hi
    rw [u8_slice _ (by omega), show 24 + (8 + 2 * i) = 32 + 2 * i by omega]
  have hd (h : 8 ≤ u16 b 8) : u8 (slice b 24 (u16 b 8)) 0 = u8 b 24 := u8_slice _ (by omega)
  rw [structureOk, decide_eq_true_eq, ImageShape, h6]
  by_cases h8 : 8 ≤ u16 b 8
  · simp only [sectionsOf, hd h8, Nat.mul_zero, Nat.add_zero, Nat.mul_one]
    by_cases hlen : u16 b 8 = 8 + 2 * u8 b 24
    · rw [hcells hlen]
    · simp [hlen]
  · constructor
    · rintro ⟨-, -, -, -, -, h0, -⟩
      simp only [Nat.mul_zero, Nat.add_zero] at h0
      omega
    · rintro ⟨-, -, -, -, -, h0, -⟩
      simp only [Nat.mul_zero, Nat.add_zero] at h0
      omega

theorem within_nat (a v b : Nat) : within a v b = true ↔ a ≤ v ∧ v ≤ b := by simp [within]

theorem tripActionOf_isSome (v : Nat) : (tripActionOf v).isSome = true ↔ 1 ≤ v ∧ v ≤ 3 := by
  constructor
  · unfold tripActionOf
    split <;> simp
  · rintro ⟨h1, h3⟩
    obtain rfl | rfl | rfl : v = 1 ∨ v = 2 ∨ v = 3 := by omega
    all_goals rfl

/-- The fields of an image's profile are those at R181's offsets, where the image has its shape. -/
theorem rangesOk_iff {b : List Byte} {length : Nat} (h : ImageShape b length) : rangesOk b = true ↔ ImageRanges b := by
  obtain ⟨-, -, -, -, -, h0, -, h2, h3, h4, h5⟩ := h
  simp only [Nat.mul_zero, Nat.add_zero, Nat.reduceMul, Nat.reduceAdd] at h0 h2 h3 h4 h5
  have hi0 := (imageSection_eq b).1
  have hcount (i : Nat) (hi : i < u8 b 24) : u8 (slice b 24 (8 + 2 * u8 b 24)) (8 + 2 * i) = u8 b (32 + 2 * i) := by
    rw [u8_slice _ (by omega), show 24 + (8 + 2 * i) = 32 + 2 * i by omega]
  have htemp (i : Nat) (hi : i < u8 b 24) : u8 (slice b 24 (8 + 2 * u8 b 24)) (9 + 2 * i) = u8 b (33 + 2 * i) := by
    rw [u8_slice _ (by omega), show 24 + (9 + 2 * i) = 33 + 2 * i by omega]
  simp only [rangesOk, profileOf, sectionsOf_eq, h0, h2, h3, h4, h5, hi0, Bool.and_eq_true, List.all_eq_true,
    List.mem_map, List.mem_range, forall_exists_index, and_imp, forall_apply_eq_imp_iff₂, tripActionOf_isSome]
  simp (disch := omega) only [u8_slice, u16_slice, u32_slice, s16_slice, Nat.add_zero, Nat.reduceAdd]
  have hcells : (∀ i, i < u8 b 24 → within 1 (u8 (slice b 24 (8 + 2 * u8 b 24)) (8 + 2 * i)) 16 = true) ↔
      ∀ i, i < u8 b 24 → 1 ≤ u8 b (32 + 2 * i) ∧ u8 b (32 + 2 * i) ≤ 16 :=
    forall₂_congr fun i hi => by rw [hcount i hi]; exact within_nat 1 _ 16
  have htemps : (∀ i, i < u8 b 24 → within 0 (u8 (slice b 24 (8 + 2 * u8 b 24)) (9 + 2 * i)) 4 = true) ↔
      ∀ i, i < u8 b 24 → u8 b (33 + 2 * i) ≤ 4 :=
    forall₂_congr fun i hi => by rw [htemp i hi]; exact (within_nat 0 _ 4).trans (by simp)
  have hpersist : (∀ i, i < 8 → within 1 (u8 (slice b (imageSection b 2) 44) (24 + i)) 15 = true) ↔
      ∀ i, i < 8 → 1 ≤ u8 b (imageSection b 2 + 24 + i) ∧ u8 b (imageSection b 2 + 24 + i) ≤ 15 :=
    forall₂_congr fun i hi => by rw [u8_slice _ (by omega), ← Nat.add_assoc]; exact within_nat 1 _ 15
  have hactions : (∀ i, i < 10 → 1 ≤ u8 (slice b (imageSection b 2) 44) (32 + i) ∧
        u8 (slice b (imageSection b 2) 44) (32 + i) ≤ 3) ↔
      ∀ i, i < 10 → 1 ≤ u8 b (imageSection b 2 + 32 + i) ∧ u8 b (imageSection b 2 + 32 + i) ≤ 3 :=
    forall₂_congr fun i hi => by rw [u8_slice _ (by omega), ← Nat.add_assoc]
  rw [hcells, htemps, hpersist, hactions]
  simp only [ImageRanges, within, decide_eq_true_eq, forall_and, and_assoc, Nat.cast_nonneg, true_and]
  norm_cast

/-- The checks are made in the order TAG, STRUCTURE, VERSION and RANGE (R166). -/
theorem verifyReason_first (key : BitVec 128) (floor declared : Word) (length : Nat) (image : List Byte) :
    (¬ tagOk key image length = true → verifyReason key floor declared length image = 1) ∧
    (tagOk key image length = true → ¬ ImageShape image length → verifyReason key floor declared length image = 2) ∧
    (tagOk key image length = true → ImageShape image length → ¬ ImageVersion image declared floor →
      verifyReason key floor declared length image = 3) ∧
    (tagOk key image length = true → ImageShape image length → ImageVersion image declared floor →
      ¬ ImageRanges image → verifyReason key floor declared length image = 4) ∧
    (tagOk key image length = true → ImageShape image length → ImageVersion image declared floor →
      ImageRanges image → verifyReason key floor declared length image = 0) := by
  have hversion : (u32 image 4 ≠ declared.toNat ∨ u32 image 4 ≤ floor.toNat) ↔ ¬ ImageVersion image declared floor := by
    rw [ImageVersion, not_and_or, Nat.not_lt]
  refine ⟨fun ht => ?_, fun ht hs => ?_, fun ht hs hv => ?_, fun ht hs hv hr => ?_, fun ht hs hv hr => ?_⟩
  · simp [verifyReason, ht]
  · rw [← structureOk_iff] at hs
    simp [verifyReason, ht, hs]
  · rw [← structureOk_iff] at hs
    rw [verifyReason, if_neg (by simp [ht]), if_neg (by simp [hs]), if_pos (hversion.mpr hv)]
  · rw [← rangesOk_iff hs] at hr
    rw [← structureOk_iff] at hs
    rw [verifyReason, if_neg (by simp [ht]), if_neg (by simp [hs]), if_neg (fun h => hversion.mp h hv),
      if_pos (by simpa using hr)]
  · rw [← rangesOk_iff hs] at hr
    rw [← structureOk_iff] at hs
    rw [verifyReason, if_neg (by simp [ht]), if_neg (by simp [hs]), if_neg (fun h => hversion.mp h hv),
      if_neg (by simp [hr])]

/-! ## The end of a verification (R166, R167) -/

theorem ProfileStore.bank_setTarget_target (p : ProfileStore) (x : BankContent) :
    (p.setTarget x).bank p.targetBank = x := by
  unfold ProfileStore.setTarget ProfileStore.setBank
  cases p.targetBank <;> rfl

theorem ProfileStore.bank_setTarget_active (p : ProfileStore) (x : BankContent) :
    (p.setTarget x).bank p.activeBank = p.active := by
  by_cases h : p.bankA.state = .active <;>
    simp [ProfileStore.setTarget, ProfileStore.setBank, ProfileStore.active, ProfileStore.bank,
      ProfileStore.targetBank, ProfileStore.activeBank, h]

/-- A write of the target bank writes the two banks alone. -/
theorem ProfileStore.setTarget_eq (p : ProfileStore) (x : BankContent) :
    p.setTarget x = { p with bankA := (p.setTarget x).bankA, bankB := (p.setTarget x).bankB } := by
  unfold ProfileStore.setTarget ProfileStore.setBank
  cases p.targetBank <;> rfl

/-- A field of a number has the number's bytes. -/
theorem leSigned_nat (k n : Nat) : leSigned k (n : Int) = leBytes k n := by
  have hmod (k n : Nat) : leBytes k (n % 256 ^ k) = leBytes k n := by
    induction k generalizing n with
    | zero => rfl
    | succ k ih =>
      rw [leBytes, leBytes, Nat.pow_succ', Nat.mod_mul_right_div_self, ih]
      exact congrArg (· :: _) (BitVec.eq_of_toNat_eq (by simp))
  rw [leSigned, ← Int.natCast_mod, Int.toNat_natCast, Nat.pow_mul, hmod]

theorem State.rejectedPayload_zero (s : State) (reason : Nat) :
    (AlertKind.updateRejected, s.store.rejectedPayload reason 0) = s.rejectedAlert reason 0 := by
  have h0 : packFields [(1, (reason : Int)), (1, (bankCode s.store.targetBank : Int)),
      (4, (s.store.declVersion.toNat : Int)), (2, ((0 : Nat) : Int))] =
      [BitVec.ofNat 8 reason, BitVec.ofNat 8 (bankCode s.store.targetBank), 0, 0] ++
        leBytes 4 s.store.declVersion.toNat ++ leBytes 2 0 := by
    have hzero : leSigned 2 0 = [0, 0] := by decide
    simp [packFields, leSigned_nat, leBytes, hzero]
  rw [ProfileStore.rejectedPayload, h0, State.rejectedAlert]
  cases s.store.targetBank <;> rfl

theorem verifyReason_lt (key : BitVec 128) (floor declared : Word) (length : Nat) (image : List Byte) :
    verifyReason key floor declared length image < 5 := by
  unfold verifyReason
  split_ifs <;> decide

theorem packDetail_byte {a : Nat} (ha : a < 256) : packDetail [(1, (a : Int))] = BitVec.ofNat 32 a := by
  rw [packDetail, show packFields [(1, (a : Int))] = leBytes 1 a by simp [packFields, leSigned_nat]]
  apply BitVec.eq_of_toNat_eq
  simp [detailOf, slice, leBytes, ofLe]
  omega

/-- The order in the store's slot completes behind a write of the store that keeps it. -/
theorem State.completeStoreOrder_onStore {s : State} {f : ProfileStore → ProfileStore} {o : ProfileOrder}
    (h : (f s.store).slot = some o) (code : Completion) (detail : Word) :
    (s.onStore f).completeStoreOrder code detail =
      { s.complete o.buffer code detail with store := { f s.store with slot := none } } := by
  rw [State.completeStoreOrder, State.onStore_store, h]
  rfl

/-- The reason of the verification of the session's image (R166). -/
def State.imageReason (s : State) : Nat :=
  verifyReason s.store.packKey s.store.floor s.store.declVersion s.store.declLength s.store.target.image

/-- The end of a verification that passes, and of one that fails: the state behind it (R166, R167). -/
theorem State.verified_eq {s : State} {n : Nat} (h : s.store.slot = some (.verify n)) :
    s.verified = if s.imageReason = 0 then
        { s.complete n .ok s.store.declVersion with store :=
          { s.store.setTarget { s.store.target with state := .valid } with session := .verified, slot := none } }
      else
        { s.complete n .verifyFailed (BitVec.ofNat 32 s.imageReason) with
          store := { s.store.invalidate with
            rejected := min 3 (s.store.rejected + 1)
            session := if 3 ≤ s.store.rejected + 1 then .locked else .idle
            slot := none }
          transit := { s.transit with alerts := s.transit.alerts ++ [s.rejectedAlert s.imageReason 0] ++
            if 3 ≤ s.store.rejected + 1 then [(.updateLocked, [0])] else [] } } := by
  have hset (x : BankContent) : (s.store.setTarget x).slot = some (.verify n) := by
    rw [ProfileStore.setTarget_eq]
    exact h
  have hlocked : lockedPayload 0 = [0] := by decide
  have hreason : s.imageReason < 256 := (verifyReason_lt ..).trans (by decide)
  have hfold : verifyReason s.store.packKey s.store.floor s.store.declVersion s.store.declLength s.store.target.image =
    s.imageReason := rfl
  simp only [State.verified, hfold]
  by_cases hr : s.imageReason = 0
  · rw [if_pos hr, if_pos hr, State.completeStoreOrder_onStore (o := .verify n) (by exact hset _)]
    rfl
  · rw [if_neg hr, if_neg hr]
    rw [State.completeStoreOrder_onStore (o := .verify n) (by exact hset _), packDetail_byte hreason]
    by_cases hc : 3 ≤ s.store.rejected + 1
    · simp only [if_pos hc, hlocked, ← State.rejectedPayload_zero]
      rfl
    · simp only [if_neg hc, ← State.rejectedPayload_zero, List.append_nil]
      rfl

/-- The end of an event changes the pool and the events on their way alone, so it keeps the frame. -/
theorem SameExcept.publish_transit {L : List BlockName} {s t old : State} (h : SameExcept L s t) (hp : .pool ∈ L)
    (ht : .transit ∈ L) : SameExcept L s (t.publish old) := by
  rw [sameExcept_iff] at h ⊢
  simpa [hp, ht] using h

/-- VERIFY_COMPLETE (R166, R167). -/
theorem exec_verifyComplete {s : State} {n : Nat} (ht : s.taking) (hm : s.memoryOk) (hn : s.pool.sound n)
    (h : s.store.slot = some (.verify n)) :
    ∃ t, exec .verifyComplete s = .next t ∧ t.store.slot = none ∧ t.store.floor = s.store.floor ∧
      t.store.inUse = s.store.inUse ∧ t.store.bank s.store.activeBank = s.store.active ∧
      SameExcept [.pool, .store, .transit] s t ∧
      (s.imageReason = 0 → Completed s t n .ok s.store.declVersion 0 ∧ t.store.session = .verified ∧
        t.store.bank s.store.targetBank = { s.store.target with state := .valid } ∧
        t.store.rejected = s.store.rejected ∧ t.transit.alerts = s.transit.alerts) ∧
      (s.imageReason ≠ 0 → Completed s t n .verifyFailed (BitVec.ofNat 32 s.imageReason) 0 ∧
        t.store.bank s.store.targetBank = { s.store.target with state := .invalid } ∧
        t.store.rejected = min 3 (s.store.rejected + 1) ∧
        t.store.session = (if 3 ≤ s.store.rejected + 1 then .locked else .idle) ∧
        t.transit.alerts = s.transit.alerts ++ [s.rejectedAlert s.imageReason 0] ++
          (if 3 ≤ s.store.rejected + 1 then [(.updateLocked, [0])] else [])) := by
  have hexec : exec .verifyComplete s = .next (s.verified.publish s) := by
    rw [show exec .verifyComplete s = execVerifyComplete s from rfl, execVerifyComplete, State.event_taking _ ht, h]
  have hform := State.verified_eq h
  have hbank (x : BankContent) := s.store.bank_setTarget_target x
  have hkept (x : BankContent) := s.store.bank_setTarget_active x
  have hset (x : BankContent) := s.store.setTarget_eq x
  refine ⟨_, hexec, ?_⟩
  by_cases hr : s.imageReason = 0
  · rw [if_pos hr] at hform
    refine ⟨by simp [hform], ?_, ?_, ?_, ?_, fun _ => ⟨?_, by simp [hform], ?_, ?_, by simp [hform]⟩,
      fun hno => absurd hr hno⟩
    · rw [State.publish_store, hform, hset]
    · rw [State.publish_store, hform, hset]
    · rw [State.publish_store, hform]
      exact hkept _
    · exact SameExcept.publish_transit (by rw [hform]; simp [sameExcept_iff]) (by simp) (by simp)
    · exact State.completed_publish .ok _ [] false false hm hn (by rw [hform]; rfl) (by rw [hform])
    · rw [State.publish_store, hform]
      exact hbank _
    · rw [State.publish_store, hform, hset]
  · rw [if_neg hr] at hform
    refine ⟨by simp [hform], ?_, ?_, ?_, ?_, fun h0 => absurd h0 hr,
      fun _ => ⟨?_, ?_, by simp [hform], by simp [hform], by simp only [State.publish_transitAlerts, hform]⟩⟩
    · rw [State.publish_store, hform, ProfileStore.invalidate, hset]
    · rw [State.publish_store, hform, ProfileStore.invalidate, hset]
    · rw [State.publish_store, hform]
      exact hkept _
    · exact SameExcept.publish_transit (by rw [hform]; simp [sameExcept_iff]) (by simp) (by simp)
    · exact State.completed_publish .verifyFailed _ [] false false hm hn (by rw [hform]; rfl) (by rw [hform])
    · rw [State.publish_store, hform]
      exact hbank _

/-! ## The reports to a waiting activation, and the end of its wait (R168) -/

/-- The state with one report to the Profile Store taken. -/
def State.reportTaken (s : State) : State :=
  { s with transit := { s.transit with activation := s.transit.activation - 1 } }

theorem exec_activationConditionReport {s : State} (ht : s.taking) : exec .activationConditionReport s =
    .next ((if s.store.session = .activationPending ∧ s.activationReady = true then s.reportTaken.activate.settle
      else s.reportTaken).publish s) := by
  rw [show exec .activationConditionReport s = execActivationConditionReport s from rfl, execActivationConditionReport,
    State.event_taking _ ht]
  rfl

theorem State.activationTimedOut_waiting {s : State} {n : Nat} (hs : s.store.session = .activationPending)
    (h : s.store.slot = some (.activate n)) : s.activationTimedOut =
      { s.complete n .timeout (if s.contactorsSettled then 1 else 0) with
        store := { s.store with session := .verified, waitTimer := none, slot := none } } := by
  have hd : packDetail [(1, (boolCode s.contactorsSettled : Int))] = if s.contactorsSettled then 1 else 0 := by
    cases s.contactorsSettled <;> decide
  rw [State.activationTimedOut, if_pos hs, State.completeStoreOrder_onStore (o := .activate n) (by exact h), hd]
  rfl

theorem exec_activationWaitTimeout {s : State} {r : Nat} (ht : s.taking) (hr : s.store.waitTimer = some r) :
    exec .activationWaitTimeout s = .next ((s.elapse r).activationTimedOut.publish s) := by
  rw [show exec .activationWaitTimeout s = execActivationWaitTimeout s from rfl, execActivationWaitTimeout,
    State.event_taking _ ht, hr, State.onExpiry_some]

@[simp] theorem State.elapse_contactorsSettled (s : State) (d : Nat) :
    (s.elapse d).contactorsSettled = s.contactorsSettled := by
  have hmark : (s.elapse d).store.chainChange = s.store.chainChange := by
    unfold State.elapse
    split <;> rfl
  simp [State.contactorsSettled, hmark]

/-- Settles O60: the tag by the keyed tag's two laws, the checks in their order, and each row by the lemma of its event. -/
theorem verificationAndActivationEnd : Obligations.VerificationAndActivationEnd := by
  unfold Obligations.VerificationAndActivationEnd
  refine ⟨fun key image length h _ => ⟨fun key' hk => tagOk_other_key h hk, ?_⟩, ?_, ?_⟩
  · rintro before after b b' rfl hb hl
    exact tagOk_other_byte h hb hl
  · intro key floor declared length image
    have hchecks := verifyReason_first key floor declared length image
    rw [tagOk_iff] at hchecks
    exact hchecks
  · intro n s ht hm hn
    refine ⟨exec_verifyComplete ht hm hn, fun hno => ?_, fun hs hready hslot hw hq => ?_, fun r hr => ⟨?_, ?_⟩⟩
    · have hno : ¬ (s.store.session = .activationPending ∧ s.activationReady = true) := by
        rintro ⟨hs, hready⟩
        rcases hno with h | h
        · exact h hs
        · simp [h] at hready
      rw [exec_activationConditionReport ht, if_neg hno, State.publish_of_sameShown]
      · rfl
      · simp [State.sameShown, State.reportTaken]
    · obtain ⟨t, hpub, hc, ha, hsame⟩ := State.publish_activate (s := s.reportTaken) (old := s) hm hn hw hslot
        (by simp [State.abortedSelect, Sequencer.abortedSelect, State.reportTaken, hq]) rfl rfl rfl
      refine ⟨t, ?_, hc, ha, hsame .transit (by simp), ?_⟩
      · rw [exec_activationConditionReport ht, if_pos ⟨hs, hready⟩, hpub]
      · have hbefore : SameExcept [.pool, .chain, .seq, .prot, .store, .transit] s s.reportTaken := by
          simp [sameExcept_iff, State.reportTaken]
        exact hbefore.trans (hsame.mono (by simp))
    · intro hs
      rw [exec_activationWaitTimeout ht hr, State.activationTimedOut, if_neg (by simpa using hs),
        State.publish_of_sameShown (State.elapse_sameShown s r)]
    · intro hs hslot
      have hform := State.activationTimedOut_waiting (s := s.elapse r) (n := n) (by simpa using hs) (by simpa using hslot)
      rw [State.elapse_contactorsSettled] at hform
      refine ⟨_, exec_activationWaitTimeout ht hr, ?_, by rw [State.publish_store, hform], ?_⟩
      · exact State.completed_publish .timeout _ [] false false (by simpa using hm) (by simpa [Pool.sound] using hn)
          (by rw [hform]; rfl) (by rw [hform])
      · refine SameExcept.publish ?_ ?_ (by simp)
        · rw [hform]
          simp [sameExcept_iff]
        · rw [hform]
          simp [State.sameReported]

end Sys2Proof.Machine

namespace Sys2Proof.Machine

open Sys2Proof

/-! ## Slices of bytes written field behind field -/

theorem slice_append_left {a : List Byte} (b : List Byte) {i k : Nat} (h : i + k ≤ a.length) :
    slice (a ++ b) i k = slice a i k :=
  slice_congr fun j hj => List.getElem?_append_left (by omega)

theorem slice_append_right (a b : List Byte) (i k : Nat) : slice (a ++ b) (a.length + i) k = slice b i k := by
  apply List.ext_getElem?
  intro j
  by_cases hj : j < k
  · rw [slice_getElem? _ hj, slice_getElem? _ hj, List.getElem?_append_right (by omega)]
    congr 3
    omega
  · rw [List.getElem?_eq_none (by simpa using hj), List.getElem?_eq_none (by simpa using hj)]

theorem slice_self (a : List Byte) : slice a 0 a.length = a := by
  apply List.ext_getElem?
  intro j
  by_cases hj : j < a.length
  · rw [slice_getElem? _ hj, Nat.zero_add, List.getElem?_eq_getElem hj, Option.getD_some]
  · rw [List.getElem?_eq_none (by simpa using hj), List.getElem?_eq_none (by simpa using hj)]

/-- Each of some fields in a row is read back at the sum of the lengths before it. -/
theorem slice_fields {segs : List (List Byte)} {seg : List Byte} {j i : Nat} (hs : segs[j]? = some seg)
    (hi : ((segs.take j).map List.length).sum = i) (rest : List Byte) :
    slice (segs.flatten ++ rest) i seg.length = seg := by
  induction segs generalizing j i with
  | nil => simp at hs
  | cons a segs ih =>
    rw [List.flatten_cons, List.append_assoc]
    cases j with
    | zero =>
      obtain rfl : a = seg := by simpa using hs
      obtain rfl : i = 0 := by simpa using hi.symm
      rw [slice_append_left _ (by omega), slice_self]
    | succ j =>
      obtain rfl : a.length + ((segs.take j).map List.length).sum = i := by simpa using hi
      rw [slice_append_right]
      exact ih (by simpa using hs) rfl

section
variable {b seg : List Byte} {i k : Nat}

theorem u8_of_slice (h : slice b i k = seg) (o : Nat) (ho : o + 1 ≤ k) : u8 b (i + o) = u8 seg o := by
  rw [← h, u8_slice _ ho]
theorem u16_of_slice (h : slice b i k = seg) (o : Nat) (ho : o + 2 ≤ k) : u16 b (i + o) = u16 seg o := by
  rw [← h, u16_slice _ ho]

end

/-- The numbers that fields of one, two, three and four bytes hold. -/
theorem u8_field {b : List Byte} {i v : Nat} (h : slice b i 1 = leBytes 1 v) : u8 b i = v % 256 := by
  rw [u8, h, ofLe_leBytes, pow_one]
theorem u16_field {b : List Byte} {i v : Nat} (h : slice b i 2 = leBytes 2 v) : u16 b i = v % 65536 := by
  rw [u16, h, ofLe_leBytes, show 256 ^ 2 = 65536 from rfl]
theorem u32_field {b : List Byte} {i v : Nat} (h : slice b i 4 = leBytes 4 v) : u32 b i = v % 2 ^ 32 := by
  rw [u32, h, ofLe_leBytes, show 256 ^ 4 = 2 ^ 32 from rfl]
theorem three_field {b : List Byte} {i v : Nat} (h : slice b i 3 = leBytes 3 v) :
    u16 b i + 65536 * u8 b (i + 2) = v % 2 ^ 24 := by
  have h2 : u16 b i = u16 (leBytes 3 v) 0 := u16_of_slice h 0 (by omega)
  rw [h2, u8_of_slice h 2 (by omega)]
  simp [u16, u8, slice, leBytes, ofLe]
  omega

/-! ## The header of a frame result (R74, R178) -/

/-- The fields of the header, in their order. -/
def State.headerFields (s : State) (f : Frame) : List (List Byte) :=
  let t := s.table
  let cells := t.aggregate.bind (·.cells)
  let temps := t.aggregate.bind (·.temps)
  let get := fun (g : Aggregate → Nat) => (t.aggregate.map g).getD 0
  let flag := fun (g : Aggregate → Bool) => boolCode ((t.aggregate.map g).getD false)
  [leBytes 2 s.seq.frameNumber.toNat, leBytes 1 (qualityFlags f t.evalCount + 128 * slotCode f.slot),
    leBytes 1 f.first, leBytes 1 f.last, leBytes 1 f.trapIndex, leBytes 1 f.stopCodes.length, leBytes 1 t.evalCount,
    leBytes 2 s.seq.period,
    leBytes 1 (boolCode cells.isSome + 2 * boolCode temps.isSome + 4 * flag (·.packAhead) +
      8 * flag (·.packAged) + 16 * boolCode t.issueA.isSome + 32 * boolCode t.issueB.isSome),
    leBytes 1 (get (fun a => plausOutcomeCode a.outcome) + 16 * get (fun a => plausReasonCode a.reason)),
    leBytes 4 s.seq.frameStart.toNat, leBytes 4 (t.issueA.getD 0).toNat, leBytes 4 (t.issueB.getD 0).toNat,
    leBytes 2 (get (·.validCells)), leBytes 2 ((cells.map (·.meanVcomp)).getD 0),
    extremeBytes (cells.map (·.minVcomp)), extremeBytes (cells.map (·.maxVcomp)),
    extremeBytes (cells.map (·.minVc)), extremeBytes (cells.map (·.maxVc)),
    leBytes 4 ((cells.map (·.sumVc)).getD 0), leBytes 2 ((cells.map (·.imbalance)).getD 0),
    extremeBytes (temps.map (·.minTemp)), extremeBytes (temps.map (·.maxTemp)),
    leBytes 3 (get (·.packMv)), leBytes 3 (get (·.cellMv))]

theorem State.resultHeader_fields (s : State) (f : Frame) : s.resultHeader f = (s.headerFields f).flatten := by
  simp [State.resultHeader, State.headerFields, issueBytes, leBytes]

@[simp] theorem extremeBytes_length (x : Option Extreme) : (extremeBytes x).length = 4 := by
  cases x <;> simp [extremeBytes, leSigned]

@[simp] theorem State.resultHeader_length (s : State) (f : Frame) : (s.resultHeader f).length = 64 := by
  rw [State.resultHeader_fields]
  simp [State.headerFields]

/-- What the four bytes of an extreme hold (R178). -/
def ShowsExtreme (b : List Byte) (i : Nat) : Option Extreme → Prop
  | some x => u16 b i = (x.value % 65536).toNat ∧ u8 b (i + 2) = x.node % 256 ∧ u8 b (i + 3) = x.channel % 256
  | none => u32 b i = 0

theorem showsExtreme_of_slice {b : List Byte} {i : Nat} {x : Option Extreme} (h : slice b i 4 = extremeBytes x) :
    ShowsExtreme b i x := by
  cases x with
  | none =>
    rw [ShowsExtreme, u32, h]
    rfl
  | some x =>
    have h0 : u16 b i = u16 (extremeBytes (some x)) 0 := u16_of_slice h 0 (by omega)
    rw [ShowsExtreme, h0, u8_of_slice h 2 (by omega), u8_of_slice h 3 (by omega)]
    have hv : (x.value % 65536).toNat < 65536 := by omega
    refine ⟨?_, ?_, ?_⟩
    · simp [u16, slice, extremeBytes, leSigned, leBytes, ofLe]
      omega
    · simp [u8, slice, extremeBytes, leSigned, leBytes, ofLe]
    · simp [u8, slice, extremeBytes, leSigned, leBytes, ofLe]

/-- Each field of the header is read back at its offset. -/
theorem State.header_slice (s : State) (f : Frame) (rest : List Byte) (j : Nat) {i : Nat} {seg : List Byte}
    (hs : (s.headerFields f)[j]? = some seg)
    (hi : (((s.headerFields f).take j).map List.length).sum = i := by simp [State.headerFields]) :
    slice (s.resultHeader f ++ rest) i seg.length = seg := by
  rw [State.resultHeader_fields]
  exact slice_fields hs hi rest

theorem State.header_extreme (s : State) (f : Frame) (rest : List Byte) (j : Nat) {i : Nat} {x : Option Extreme}
    (hs : (s.headerFields f)[j]? = some (extremeBytes x))
    (hi : (((s.headerFields f).take j).map List.length).sum = i := by simp [State.headerFields]) :
    ShowsExtreme (s.resultHeader f ++ rest) i x := by
  have h := s.header_slice f rest j hs hi
  rw [extremeBytes_length] at h
  exact showsExtreme_of_slice h

/-- The fields of a result's first 64 bytes (R74, R178), whatever stands behind them. -/
theorem State.header_laidOut (s : State) (f : Frame) (rest : List Byte) :
    let b := s.resultHeader f ++ rest
    let a := s.table.aggregate
    let cells := a.bind (·.cells)
    let temps := a.bind (·.temps)
    let three (i v : Nat) : Prop := u16 b i + 65536 * u8 b (i + 2) = v % 2 ^ 24
    let flag (g : Aggregate → Bool) (weight : Nat) : Nat := if (a.map g).getD false then weight else 0
    u16 b 0 = s.seq.frameNumber.toNat ∧
    u8 b 2 = (if f.late then 1 else 0) + (if f.trapped then 2 else 0) + (if f.halted then 4 else 0) +
      (if s.table.evalCount = 0 then 8 else 0) + (if f.slot = .slotB then 128 else 0) ∧
    u8 b 3 = f.first % 256 ∧ u8 b 4 = f.last % 256 ∧ u8 b 5 = f.trapIndex % 256 ∧
    u8 b 6 = f.stopCodes.length % 256 ∧ u8 b 7 = s.table.evalCount % 256 ∧ u16 b 8 = s.seq.period % 65536 ∧
    u8 b 10 = (if cells.isSome then 1 else 0) + (if temps.isSome then 2 else 0) + flag (·.packAhead) 4 +
      flag (·.packAged) 8 + (if s.table.issueA.isSome then 16 else 0) + (if s.table.issueB.isSome then 32 else 0) ∧
    [PlausOutcome.notEvaluated, .pass, .violation][u8 b 11 % 16]? = some ((a.map (·.outcome)).getD .notEvaluated) ∧
    [PlausReason.noReason, .patrol, .incomplete, .noIssue, .noHistory, .vSat][u8 b 11 / 16]? =
      some ((a.map (·.reason)).getD .noReason) ∧
    u32 b 12 = s.seq.frameStart.toNat ∧ u32 b 16 = (s.table.issueA.getD 0).toNat ∧
    u32 b 20 = (s.table.issueB.getD 0).toNat ∧ u16 b 24 = (a.map (·.validCells)).getD 0 % 65536 ∧
    u16 b 26 = (cells.map (·.meanVcomp)).getD 0 % 65536 ∧ ShowsExtreme b 28 (cells.map (·.minVcomp)) ∧
    ShowsExtreme b 32 (cells.map (·.maxVcomp)) ∧ ShowsExtreme b 36 (cells.map (·.minVc)) ∧
    ShowsExtreme b 40 (cells.map (·.maxVc)) ∧
    u32 b 44 = (cells.map (·.sumVc)).getD 0 % 2 ^ 32 ∧ u16 b 48 = (cells.map (·.imbalance)).getD 0 % 65536 ∧
    ShowsExtreme b 50 (temps.map (·.minTemp)) ∧ ShowsExtreme b 54 (temps.map (·.maxTemp)) ∧
    three 58 ((a.map (·.packMv)).getD 0) ∧ three 61 ((a.map (·.cellMv)).getD 0) := by
  intro b a cells temps three flag
  have bit (c : Bool) : boolCode c ≤ 1 := by cases c <;> decide
  have weigh (c : Bool) (w : Nat) : (if c = true then w else 0) = w * boolCode c := by cases c <;> simp [boolCode]
  have word (v : Word) : v.toNat % 2 ^ 32 = v.toNat := Nat.mod_eq_of_lt v.isLt
  have half (v : Half) : v.toNat % 65536 = v.toNat := Nat.mod_eq_of_lt v.isLt
  have h11 := u8_field (i := 11) (s.header_slice f rest 9 rfl)
  have hcode : [PlausOutcome.notEvaluated, .pass, .violation][u8 b 11 % 16]? =
      some ((a.map (·.outcome)).getD .notEvaluated) ∧
      [PlausReason.noReason, .patrol, .incomplete, .noIssue, .noHistory, .vSat][u8 b 11 / 16]? =
        some ((a.map (·.reason)).getD .noReason) := by
    rw [h11]
    cases ha : s.table.aggregate with
    | none => simp [a, ha]
    | some x => cases ho : x.outcome <;> cases hr : x.reason <;> simp [a, ha, ho, hr, plausOutcomeCode, plausReasonCode]
  refine ⟨?_, ?_, u8_field (s.header_slice f rest 2 rfl), u8_field (s.header_slice f rest 3 rfl), u8_field (s.header_slice f rest 4 rfl), u8_field (s.header_slice f rest 5 rfl),
    u8_field (s.header_slice f rest 6 rfl), u16_field (s.header_slice f rest 7 rfl), ?_, hcode.1, hcode.2, ?_, ?_, ?_, u16_field (s.header_slice f rest 13 rfl),
    u16_field (s.header_slice f rest 14 rfl), ?_, ?_, ?_, ?_, u32_field (s.header_slice f rest 19 rfl), u16_field (s.header_slice f rest 20 rfl), ?_, ?_,
    three_field (s.header_slice f rest 23 rfl), three_field (s.header_slice f rest 24 rfl)⟩
  · rw [u16_field (s.header_slice f rest 0 rfl), half]
  · rw [u8_field (s.header_slice f rest 1 rfl)]
    have hslot : 128 * slotCode f.slot = if f.slot = .slotB then 128 else 0 := by cases f.slot <;> rfl
    have hcount : (if s.table.evalCount = 0 then 8 else 0) = 8 * boolCode (s.table.evalCount == 0) := by
      rw [← weigh]
      simp
    have h5 : 128 * slotCode f.slot ≤ 128 := by cases f.slot <;> decide
    rw [← hslot, hcount, qualityFlags]
    simp only [weigh, one_mul]
    refine Nat.mod_eq_of_lt ?_
    have h1 := bit f.late
    have h2 := bit f.trapped
    have h3 := bit f.halted
    have h4 := bit (s.table.evalCount == 0)
    omega
  · rw [u8_field (s.header_slice f rest 8 rfl)]
    simp only [flag, weigh, one_mul, a, cells, temps]
    refine Nat.mod_eq_of_lt ?_
    have h1 := bit (s.table.aggregate.bind (·.cells)).isSome
    have h2 := bit (s.table.aggregate.bind (·.temps)).isSome
    have h3 := bit ((s.table.aggregate.map (·.packAhead)).getD false)
    have h4 := bit ((s.table.aggregate.map (·.packAged)).getD false)
    have h5 := bit s.table.issueA.isSome
    have h6 := bit s.table.issueB.isSome
    omega
  · rw [u32_field (s.header_slice f rest 10 rfl), word]
  · rw [u32_field (s.header_slice f rest 11 rfl), word]
  · rw [u32_field (s.header_slice f rest 12 rfl), word]
  · exact s.header_extreme f rest 15 rfl
  · exact s.header_extreme f rest 16 rfl
  · exact s.header_extreme f rest 17 rfl
  · exact s.header_extreme f rest 18 rfl
  · exact s.header_extreme f rest 21 rfl
  · exact s.header_extreme f rest 22 rfl

/-! ## The node records of a frame result (R31, R178) -/

/-- The fields of a node record, in their order. -/
def recordFields (r : ResultNode) (x : NodeSlot) : List (List Byte) :=
  [leBytes 1 (r.node + 128 * boolCode (x.capture.map (·.path) == some .pathB)),
    leBytes 1 (markCode x.cellMark + 4 * markCode x.tempMark), leBytes 1 x.flags.code, leSigned 3 x.current,
    leBytes 2 (x.ts.getD 0).toNat,
    ((List.range r.cells).map fun i => leBytes 2 ((x.vc[i]?).getD 0) ++ leBytes 2 ((x.vcomp[i]?).getD 0)).flatten,
    ((List.range r.temps).map fun i => leBytes 2 ((x.temps[i]?).getD 0).toNat).flatten]

theorem nodeRecord_fields (r : ResultNode) (x : NodeSlot) :
    nodeRecord r x = padTo r.size (recordFields r x).flatten := by
  have hpath : (match x.capture with | some c => c.path == .pathB | none => false) =
      (x.capture.map (·.path) == some .pathB) := by
    cases x.capture <;> simp
  rw [nodeRecord, recordFields, ← hpath]
  simp only [List.flatten_cons, List.flatten_nil, leBytes, List.append_assoc, List.cons_append, List.nil_append,
    List.append_nil] <;> rfl

theorem cellBytes_length (x : NodeSlot) (n : Nat) :
    ((List.range n).map fun i => leBytes 2 ((x.vc[i]?).getD 0) ++ leBytes 2 ((x.vcomp[i]?).getD 0)).flatten.length =
      4 * n := by
  rw [length_flatten_map (k := 4) (by simp), List.length_range]

theorem tempBytes_length (x : NodeSlot) (n : Nat) :
    ((List.range n).map fun i => leBytes 2 ((x.temps[i]?).getD 0).toNat).flatten.length = 2 * n := by
  rw [length_flatten_map (k := 2) (by simp), List.length_range]

theorem recordFields_length (r : ResultNode) (x : NodeSlot) :
    (recordFields r x).flatten.length = 8 + 4 * r.cells + 2 * r.temps := by
  simp only [recordFields, List.flatten_cons, List.flatten_nil, List.length_append, List.length_nil, leBytes_length,
    leSigned, cellBytes_length, tempBytes_length]
  omega

theorem recordSize_le (r : ResultNode) : 8 + 4 * r.cells + 2 * r.temps ≤ recordSize r := by
  rw [recordSize]
  omega

theorem padTo_length {n : Nat} {bs : List Byte} (h : bs.length ≤ n) : (padTo n bs).length = n := by
  simp [padTo]
  omega

theorem nodeRecord_length (r : ResultNode) (x : NodeSlot) : (nodeRecord r x).length = recordSize r := by
  rw [nodeRecord_fields]
  exact padTo_length (by rw [recordFields_length]; exact recordSize_le r)

/-- A record of a row of records of one length. -/
theorem slice_flatten_map {α : Type} {f : α → List Byte} {k : Nat} (hf : ∀ a, (f a).length = k) {l : List α} {i : Nat}
    {x : α} (h : l[i]? = some x) : slice (l.map f).flatten (k * i) k = f x := by
  apply List.ext_getElem?
  intro j
  by_cases hj : j < k
  · rw [slice_getElem? _ hj, getElem?_flatten_map hf h hj, List.getElem?_eq_getElem (by rw [hf]; exact hj),
      Option.getD_some]
  · rw [List.getElem?_eq_none (by simpa using hj), List.getElem?_eq_none (by rw [hf]; omega)]

/-- The code of a mark is its place in the order of R178. -/
theorem mark_of_code (m : Mark) : [Mark.notGathered, .good, .stale, .failed][markCode m]? = some m := by
  cases m <;> rfl

theorem markCode_lt (m : Mark) : markCode m < 4 := by cases m <;> decide

theorem NodeFlags.code_eq (x : NodeFlags) : x.code =
    [x.currentAhead, x.currentAged, x.noCurrent, x.currentSat, x.notTimed, x.vcSat, x.vcompSat, x.unaligned].foldr
      (fun bit rest => (if bit then 1 else 0) + 2 * rest) 0 := by
  simp only [NodeFlags.code, boolCode, List.foldr_cons, List.foldr_nil]
  omega

/-- The fields of a node record in a result, at the record's offset (R178). -/
theorem record_laidOut {b : List Byte} {base : Nat} {r : ResultNode} {x : NodeSlot}
    (h : slice b base (recordSize r) = nodeRecord r x) :
    let values := base + 8 + 4 * r.cells
    u8 b base = (r.node + if x.capture.map (·.path) = some .pathB then 128 else 0) % 256 ∧
    [Mark.notGathered, .good, .stale, .failed][u8 b (base + 1) % 4]? = some x.cellMark ∧
    [Mark.notGathered, .good, .stale, .failed][u8 b (base + 1) / 4]? = some x.tempMark ∧
    u8 b (base + 2) = ([x.flags.currentAhead, x.flags.currentAged, x.flags.noCurrent, x.flags.currentSat,
      x.flags.notTimed, x.flags.vcSat, x.flags.vcompSat, x.flags.unaligned].foldr
        (fun bit rest => (if bit then 1 else 0) + 2 * rest) 0) ∧
    u16 b (base + 3) + 65536 * u8 b (base + 3 + 2) = (x.current % 2 ^ 24).toNat % 2 ^ 24 ∧
    u16 b (base + 6) = (x.ts.getD 0).toNat % 65536 ∧
    (∀ i, i < r.cells → u16 b (base + 8 + 4 * i) = (x.vc[i]?).getD 0 % 65536 ∧
      u16 b (base + 10 + 4 * i) = (x.vcomp[i]?).getD 0 % 65536) ∧
    (∀ i, i < r.temps → u16 b (values + 2 * i) = ((x.temps[i]?).getD 0).toNat) ∧
    ∀ i, values + 2 * r.temps ≤ i → i < base + recordSize r → u8 b i = 0 := by
  intro values
  have hsize := recordSize_le r
  have hpad : nodeRecord r x = (recordFields r x).flatten ++
      List.replicate (r.size - (recordFields r x).flatten.length) 0 := by
    rw [nodeRecord_fields, padTo]
  have inside {i k : Nat} (hk : i + k ≤ recordSize r) : slice b (base + i) k = slice (nodeRecord r x) i k := by
    rw [← h, slice_slice _ hk]
  have field (j : Nat) {i : Nat} {seg : List Byte} (hs : (recordFields r x)[j]? = some seg)
      (hi : (((recordFields r x).take j).map List.length).sum = i) (hk : i + seg.length ≤ recordSize r) :
      slice b (base + i) seg.length = seg := by
    rw [inside hk, hpad]
    exact slice_fields hs hi _
  have h0 := u8_field (field 0 (i := 0) rfl rfl (by rw [leBytes_length]; omega))
  have h1 := u8_field (field 1 (i := 1) rfl (by simp [recordFields]) (by rw [leBytes_length]; omega))
  have h2 := u8_field (field 2 (i := 2) rfl (by simp [recordFields]) (by rw [leBytes_length]; omega))
  have h3 := field 3 (i := 3) rfl (by simp [recordFields]) (by rw [leSigned, leBytes_length]; omega)
  have h4 := u16_field (field 4 (i := 6) rfl (by simp [recordFields, leSigned]) (by rw [leBytes_length]; omega))
  have h5 := field 5 (i := 8) rfl (by simp [recordFields, leSigned]) (by rw [cellBytes_length]; omega)
  have h6 := field 6 (i := 8 + 4 * r.cells) rfl
    (by rw [recordFields]; simp only [List.take_succ_cons, List.take_zero, List.map_cons, List.map_nil, List.sum_cons,
          List.sum_nil, leBytes_length, leSigned, cellBytes_length]; omega)
    (by rw [tempBytes_length]; omega)
  rw [cellBytes_length] at h5
  rw [tempBytes_length] at h6
  have hcell (i : Nat) (hi : i < r.cells) : slice b (base + 8 + 4 * i) 4 =
      leBytes 2 ((x.vc[i]?).getD 0) ++ leBytes 2 ((x.vcomp[i]?).getD 0) := by
    rw [← slice_slice (k := 4 * r.cells) _ (by omega), h5]
    exact slice_flatten_map (by simp) (by simp [hi])
  have hmark := markCode_lt x.cellMark
  have hmark' := markCode_lt x.tempMark
  refine ⟨?_, ?_, ?_, ?_, ?_, ?_, fun i hi => ⟨?_, ?_⟩, fun i hi => ?_, fun i hlo hhi => ?_⟩
  · rw [Nat.add_zero] at h0
    rw [h0]
    by_cases hp : x.capture.map (·.path) = some .pathB <;> simp [hp, boolCode]
  · rw [h1, show (markCode x.cellMark + 4 * markCode x.tempMark) % 256 % 4 = markCode x.cellMark by omega]
    exact mark_of_code _
  · rw [h1, show (markCode x.cellMark + 4 * markCode x.tempMark) % 256 / 4 = markCode x.tempMark by omega]
    exact mark_of_code _
  · rw [h2, ← NodeFlags.code_eq]
    have bit (c : Bool) : boolCode c ≤ 1 := by cases c <;> decide
    have b1 := bit x.flags.currentAhead
    have b2 := bit x.flags.currentAged
    have b3 := bit x.flags.noCurrent
    have b4 := bit x.flags.currentSat
    have b5 := bit x.flags.notTimed
    have b6 := bit x.flags.vcSat
    have b7 := bit x.flags.vcompSat
    have b8 := bit x.flags.unaligned
    rw [NodeFlags.code]
    omega
  · exact three_field h3
  · exact h4
  · exact (u16_of_slice (hcell i hi) 0 (by omega)).trans (u16_field (by rw [slice_append_left _ (by simp)]; exact slice_self _))
  · rw [show base + 10 + 4 * i = base + 8 + 4 * i + 2 by omega, u16_of_slice (hcell i hi) 2 (by omega)]
    refine u16_field ?_
    have hright := slice_append_right (leBytes 2 ((x.vc[i]?).getD 0)) (leBytes 2 ((x.vcomp[i]?).getD 0)) 0 2
    rw [leBytes_length, Nat.add_zero] at hright
    rw [hright]
    exact slice_self _
  · have htemp : slice b (values + 2 * i) 2 = leBytes 2 ((x.temps[i]?).getD 0).toNat := by
      rw [show values + 2 * i = base + (8 + 4 * r.cells) + 2 * i by omega, ← slice_slice (k := 2 * r.temps) _ (by omega), h6]
      exact slice_flatten_map (by simp) (by simp [hi])
    rw [u16_field htemp]
    exact Nat.mod_eq_of_lt ((x.temps[i]?).getD 0).isLt
  · obtain ⟨d, rfl⟩ : ∃ d, i = base + d := ⟨i - base, by omega⟩
    rw [u8, inside (by omega), hpad]
    have hd : d = (recordFields r x).flatten.length + (d - (recordFields r x).flatten.length) := by
      rw [recordFields_length]
      omega
    rw [hd, slice_append_right]
    have hzero (k j : Nat) : slice (List.replicate k (0 : Byte)) j 1 = [0] := by
      simp only [slice, List.getElem?_replicate]
      split <;> rfl
    rw [hzero]
    rfl

/-! ## The whole result (R31, R74, R178) -/

theorem State.resultBytes_length (s : State) {f : Frame} (h : f.stopCodes.length ≤ f.stopArea) :
    (s.resultBytes f).length = 64 + f.stopArea + (f.resultNodes.map recordSize).sum := by
  have hstop : (padTo f.stopArea (f.stopCodes.map (BitVec.ofNat 8 ·))).length = f.stopArea :=
    padTo_length (by simpa using h)
  have hrecords : ((f.resultNodes.map fun r => nodeRecord r (s.table.slot r.node)).flatten).length =
      (f.resultNodes.map recordSize).sum := by
    rw [List.length_flatten, List.map_map]
    exact congrArg List.sum (List.map_congr_left fun r _ => nodeRecord_length r _)
  rw [State.resultBytes, List.length_append, List.length_append, State.resultHeader_length, hstop, hrecords]

/-- The stop-code area of a result, its unused bytes 0 (R31). -/
theorem State.result_stopCode (s : State) {f : Frame} (h : f.stopCodes.length ≤ f.stopArea) {i : Nat}
    (hi : i < f.stopArea) : u8 (s.resultBytes f) (64 + i) = (f.stopCodes[i]?).getD 0 % 256 := by
  obtain ⟨area, harea⟩ : ∃ area, area = padTo f.stopArea (f.stopCodes.map (BitVec.ofNat 8 ·)) := ⟨_, rfl⟩
  have hlen : area.length = f.stopArea := by
    rw [harea]
    exact padTo_length (by simpa using h)
  have hright := slice_append_right (s.resultHeader f)
    (area ++ (f.resultNodes.map fun r => nodeRecord r (s.table.slot r.node)).flatten) i 1
  rw [State.resultHeader_length] at hright
  rw [u8, State.resultBytes, List.append_assoc, ← harea, hright, slice_append_left _ (by omega), harea]
  simp only [slice, padTo]
  by_cases hc : i < f.stopCodes.length
  · rw [List.getElem?_append_left (by simpa using hc)]
    simp [hc, ofLe]
  · rw [List.getElem?_append_right (by simpa using Nat.le_of_not_lt hc)]
    have hz : i - f.stopCodes.length < f.stopArea - f.stopCodes.length := by omega
    simp [hc, hz, ofLe]

/-- Each node record stands behind those before it (R31). -/
theorem State.result_record (s : State) {f : Frame} (h : f.stopCodes.length ≤ f.stopArea) {before after : List ResultNode}
    {r : ResultNode} (hr : f.resultNodes = before ++ r :: after) :
    slice (s.resultBytes f) (64 + f.stopArea + (before.map recordSize).sum) (recordSize r) =
      nodeRecord r (s.table.slot r.node) := by
  have hstop : (padTo f.stopArea (f.stopCodes.map (BitVec.ofNat 8 ·))).length = f.stopArea :=
    padTo_length (by simpa using h)
  have hbefore : ((before.map fun r => nodeRecord r (s.table.slot r.node)).flatten).length =
      (before.map recordSize).sum := by
    rw [List.length_flatten, List.map_map]
    exact congrArg List.sum (List.map_congr_left fun r _ => nodeRecord_length r _)
  have hbytes : s.resultBytes f = (s.resultHeader f ++ padTo f.stopArea (f.stopCodes.map (BitVec.ofNat 8 ·)) ++
      (before.map fun r => nodeRecord r (s.table.slot r.node)).flatten) ++
      (nodeRecord r (s.table.slot r.node) ++ (after.map fun r => nodeRecord r (s.table.slot r.node)).flatten) := by
    simp [State.resultBytes, hr]
  have hright := slice_append_right (s.resultHeader f ++ padTo f.stopArea (f.stopCodes.map (BitVec.ofNat 8 ·)) ++
      (before.map fun r => nodeRecord r (s.table.slot r.node)).flatten)
      (nodeRecord r (s.table.slot r.node) ++ (after.map fun r => nodeRecord r (s.table.slot r.node)).flatten) 0
      (recordSize r)
  rw [List.length_append, List.length_append, State.resultHeader_length, hstop, hbefore, Nat.add_zero] at hright
  rw [hbytes, hright, slice_append_left _ (by rw [nodeRecord_length]; omega)]
  conv_lhs => rw [← nodeRecord_length r (s.table.slot r.node)]
  exact slice_self _

/-- A frame result is laid out by R178. -/
theorem State.resultLaidOut_resultBytes (s : State) (f : Frame) : s.resultLaidOut f (s.resultBytes f) := by
  have hhead := s.header_laidOut f (padTo f.stopArea (f.stopCodes.map (BitVec.ofNat 8 ·)) ++
    (f.resultNodes.map fun r => nodeRecord r (s.table.slot r.node)).flatten)
  rw [← List.append_assoc] at hhead
  obtain ⟨h0, h2, h3, h4, h5, h6, h7, h8, h10, ho, hr, h12, h16, h20, h24, h26, h28, h32, h36, h40, h44, h48, h50, h54,
    h58, h61⟩ := hhead
  refine ⟨fun h => s.resultBytes_length h, h0, h2, h3, h4, h5, h6, h7, h8, h10, ho, hr, h12, h16, h20, h24, h26, ?_, ?_,
    ?_, ?_, h44, h48, ?_, ?_, h58, h61, fun h => ⟨fun i hi => s.result_stopCode h hi, fun before r after hr =>
      record_laidOut (s.result_record h hr)⟩⟩
  · cases hx : (s.table.aggregate.bind (·.cells)).map (·.minVcomp) <;> rw [hx] at h28 <;> exact h28
  · cases hx : (s.table.aggregate.bind (·.cells)).map (·.maxVcomp) <;> rw [hx] at h32 <;> exact h32
  · cases hx : (s.table.aggregate.bind (·.cells)).map (·.minVc) <;> rw [hx] at h36 <;> exact h36
  · cases hx : (s.table.aggregate.bind (·.cells)).map (·.maxVc) <;> rw [hx] at h40 <;> exact h40
  · cases hx : (s.table.aggregate.bind (·.temps)).map (·.minTemp) <;> rw [hx] at h50 <;> exact h50
  · cases hx : (s.table.aggregate.bind (·.temps)).map (·.maxTemp) <;> rw [hx] at h54 <;> exact h54

end Sys2Proof.Machine

namespace Sys2Proof.Machine

open Sys2Proof

/-! ## The frame-end update of the Node Table (R15, R87) -/

/-- The alert that one node's change brings (R15). -/
def nodeAlert (old new : Chain) (n : Nat) : Option (AlertKind × List Byte) :=
  if (old.node n).state ≠ .lost ∧ (new.node n).state = .lost then some (.nodeLost, nodePayload n (new.node n))
  else if (old.node n).state = .lost ∧ (new.node n).state = .present then
    some (.nodeRecovered, nodePayload n (new.node n))
  else none

theorem nodePayload_eq (n : Nat) (e : NodeEntry) : nodePayload n e =
    [BitVec.ofNat 8 n, BitVec.ofNat 8 e.failedFrames, BitVec.ofNat 8 (lastErrorCode e.lastError), 0] ++
      leBytes 2 e.lastGood.toNat := by
  simp [nodePayload, packFields, leSigned_nat, leBytes]

theorem State.nodeAlerts_eq (s t : State) : s.nodeAlerts t = allNodes.filterMap (nodeAlert s.chain t.chain) := by
  refine congrArg (List.filterMap · (List.range' 1 20)) (funext fun n => ?_)
  rw [nodeAlert, nodePayload_eq]

/-- The lowest address that became LOST, as the report of a loss names it (R87). -/
def firstLoss (old new : Chain) : Option Nat :=
  allNodes.find? fun n => (old.node n).state != .lost && (new.node n).state == .lost

/-- Alerts raised address by address. -/
theorem State.foldl_raise (old new : Chain) (l : List Nat) (s : State) :
    l.foldl (fun acc n =>
      let e := new.node n
      if (old.node n).state ≠ .lost ∧ e.state = .lost then acc.raise .nodeLost (nodePayload n e)
      else if (old.node n).state = .lost ∧ e.state = .present then acc.raise .nodeRecovered (nodePayload n e)
      else acc) s =
    { s with transit := { s.transit with alerts := s.transit.alerts ++ l.filterMap (nodeAlert old new) } } := by
  induction l generalizing s with
  | nil => simp
  | cons n l ih =>
    rw [List.foldl_cons, ih, List.filterMap_cons]
    by_cases h1 : (old.node n).state ≠ .lost ∧ (new.node n).state = .lost
    · simp [nodeAlert, h1, State.raise, State.onTransit]
    · by_cases h2 : (old.node n).state = .lost ∧ (new.node n).state = .present
      · simp [nodeAlert, h2, State.raise, State.onTransit]
      · simp only [nodeAlert, if_neg h1, if_neg h2]

/-- The chain with every entry brought to the frame's end (R15). -/
def State.nodesEnded (s : State) : Chain :=
  s.chain.mapNodes fun _ e => e.frameEnd s.seq.frameNumber s.profile.lossThreshold

/-- What the frame-end update tells other blocks (R15, R87). -/
def State.nodesReported (s : State) : Transit := { s.transit with
  alerts := s.transit.alerts ++ allNodes.filterMap (nodeAlert s.chain s.nodesEnded)
  nodeLosses := s.transit.nodeLosses ++ (firstLoss s.chain s.nodesEnded).toList }

theorem State.frameEndUpdate_eq (s : State) :
    s.frameEndUpdate = { s with chain := s.nodesEnded, transit := s.nodesReported } := by
  rw [State.frameEndUpdate]
  dsimp only
  rw [State.foldl_raise]
  have hfind : (allNodes.find? fun n => (s.chain.node n).state != .lost &&
      ((s.onChain fun c => c.mapNodes fun _ e => e.frameEnd s.seq.frameNumber s.profile.lossThreshold).chain.node n).state
        == .lost) = firstLoss s.chain s.nodesEnded := rfl
  rw [hfind]
  cases h : firstLoss s.chain s.nodesEnded with
  | none =>
    simp only [State.nodesReported, h, Option.toList_none, List.append_nil]
    rfl
  | some n =>
    simp only [State.nodesReported, h, Option.toList_some]
    rfl

/-- The frame's end has brought the nodes of `s` to those of `t`, with the alerts and the report of a loss (R15, R87). -/
def State.endsNodes (s t : State) : Prop :=
  (∀ m, 1 ≤ m → m ≤ 20 →
    t.chain.node m = (s.chain.node m).frameEnd s.seq.frameNumber s.profile.lossThreshold) ∧
  t.transit.alerts = s.transit.alerts ++ s.nodeAlerts t ∧
  t.transit.nodeLosses = s.transit.nodeLosses ++ (firstLoss s.chain t.chain).toList

/-- The end reads the nodes of 1 to 20 alone. -/
theorem State.endsNodes_of_report {s t : State}
    (hnodes : ∀ m, 1 ≤ m → m ≤ 20 →
      t.chain.node m = (s.chain.node m).frameEnd s.seq.frameNumber s.profile.lossThreshold)
    (halerts : t.transit.alerts = s.nodesReported.alerts) (hlosses : t.transit.nodeLosses = s.nodesReported.nodeLosses) :
    s.endsNodes t := by
  have hmem {m : Nat} (hm : m ∈ allNodes) : 1 ≤ m ∧ m ≤ 20 := by
    simp only [allNodes, List.mem_range'_1] at hm
    omega
  have hsame {m : Nat} (hm : m ∈ allNodes) : t.chain.node m = s.nodesEnded.node m := by
    obtain ⟨h1, h20⟩ := hmem hm
    rw [hnodes m h1 h20, State.nodesEnded, Chain.node_mapNodes _ _ ⟨h1, h20⟩]
  refine ⟨hnodes, ?_, ?_⟩
  · rw [halerts, State.nodesReported, State.nodeAlerts_eq]
    refine congrArg (s.transit.alerts ++ ·) (List.filterMap_congr fun m hm => ?_)
    simp only [nodeAlert, hsame hm]
  · have hfirst : firstLoss s.chain t.chain = firstLoss s.chain s.nodesEnded :=
      List.find?_congr fun m hm => by rw [hsame hm]
    rw [hlosses, State.nodesReported, hfirst]

/-- An entry at a frame's end, case by case (R15). -/
theorem NodeEntry.frameEnd_eq (e : NodeEntry) (frame : Half) (threshold : Nat) : e.frameEnd frame threshold =
    if e.state = .absent then { e with failedMark := false }
    else if e.failedMark = false then { e with state := .present, failedFrames := 0, lastGood := frame }
    else if e.state = .lost then { e with failedFrames := min 15 (e.failedFrames + 1), failedMark := false }
    else { e with
      state := if threshold ≤ min 15 (e.failedFrames + 1) then .lost else .degraded
      failedFrames := min 15 (e.failedFrames + 1), failedMark := false } := by
  cases hs : e.state <;> cases hm : e.failedMark <;> simp [NodeEntry.frameEnd, hs, hm, satAdd]

/-- No address below the lowest that satisfies a test of the addresses 1 to 20 does. -/
theorem find?_allNodes {p : Nat → Bool} {m : Nat} (hm : 1 ≤ m ∧ m ≤ 20) (h : p m = true)
    (hb : ∀ j, 1 ≤ j → j < m → p j = false) : allNodes.find? p = some m := by
  obtain ⟨d, rfl⟩ : ∃ d, m = d + 1 := ⟨m - 1, by omega⟩
  rw [List.find?_eq_some_iff_append]
  refine ⟨h, List.range' 1 d, List.range' (d + 1 + 1) (19 - d), ?_, fun j hj => ?_⟩
  · rw [allNodes, ← List.range'_succ, show d + 1 = 1 + 1 * d by omega, List.range'_append]
    congr 1
    omega
  · have hj := List.mem_range'_1.mp hj
    simp [hb j hj.1 (by omega)]

/-- What the update says of the entries, the alerts and the report of a loss (R15, R87). -/
theorem State.endsNodes.updated {s t : State} (h : s.endsNodes t) :
    let lost (m : Nat) : Prop := 1 ≤ m ∧ m ≤ 20 ∧ (s.chain.node m).state ≠ .lost ∧ (t.chain.node m).state = .lost
    (∀ m, 1 ≤ m → m ≤ 20 →
      (let e := s.chain.node m
       let count := min 15 (e.failedFrames + 1)
       t.chain.node m =
         if e.state = .absent then { e with failedMark := false }
         else if e.failedMark = false then
           { e with state := .present, failedFrames := 0, lastGood := s.seq.frameNumber }
         else if e.state = .lost then { e with failedFrames := count, failedMark := false }
         else { e with
           state := if s.profile.lossThreshold ≤ count then .lost else .degraded
           failedFrames := count, failedMark := false })) ∧
    t.transit.alerts = s.transit.alerts ++ s.nodeAlerts t ∧
    (∀ m, lost m → (∀ j, j < m → ¬ lost j) → t.transit.nodeLosses = s.transit.nodeLosses ++ [m]) ∧
    ((∀ m, ¬ lost m) → t.transit.nodeLosses = s.transit.nodeLosses) := by
  intro lost
  obtain ⟨hnodes, halerts, hlosses⟩ := h
  have test (j : Nat) : ((s.chain.node j).state != .lost && (t.chain.node j).state == .lost) = true ↔
      (s.chain.node j).state ≠ .lost ∧ (t.chain.node j).state = .lost := by simp
  refine ⟨fun m h1 h20 => (hnodes m h1 h20).trans (NodeEntry.frameEnd_eq ..), halerts, fun m hm hb => ?_, fun hno => ?_⟩
  · obtain ⟨h1, h20, hlost⟩ := hm
    have hfirst : firstLoss s.chain t.chain = some m :=
      find?_allNodes ⟨h1, h20⟩ ((test m).mpr hlost) fun j hj hjm => by
        rw [Bool.eq_false_iff, ne_eq, test]
        exact fun hl => hb j hjm ⟨hj, by omega, hl⟩
    rw [hlosses, hfirst, Option.toList_some]
  · have hfirst : firstLoss s.chain t.chain = none := by
      rw [firstLoss, List.find?_eq_none]
      intro j hj
      have hj := List.mem_range'_1.mp hj
      rw [test]
      exact fun hl => hno j ⟨hj.1, by omega, hl⟩
    rw [hlosses, hfirst, Option.toList_none, List.append_nil]

/-- Nodes, the frame number, the profile and the events on their way are all that the end reads of the state before it. -/
theorem State.endsNodes.of_before {s s' t : State} (h : s.endsNodes t) (hnode : ∀ n, s'.chain.node n = s.chain.node n)
    (hprofile : s'.profile = s.profile) (hnumber : s'.seq.frameNumber = s.seq.frameNumber)
    (htransit : s'.transit = s.transit) : s'.endsNodes t := by
  obtain ⟨hnodes, halerts, hlosses⟩ := h
  refine ⟨fun m h1 h20 => ?_, ?_, ?_⟩
  · rw [hnode, hprofile, hnumber]
    exact hnodes m h1 h20
  · have halert : nodeAlert s'.chain t.chain = nodeAlert s.chain t.chain :=
      funext fun n => by rw [nodeAlert, nodeAlert, hnode]
    rw [htransit, halerts, State.nodeAlerts_eq, State.nodeAlerts_eq, halert]
  · rw [htransit, hlosses]
    simp only [firstLoss, hnode]

/-! ## The frame's end (R38) -/

/-- The pool with a frame's result written and queued, where the frame holds a buffer. -/
def Pool.withResult (p : Pool) (r : ResultBuffer) (bytes : List Byte) : Pool :=
  match r with
  | .granted n => (p.writeBuffer n 0 bytes).queueResult n
  | .notAsked | .asked | .dropped => p

/-- The state at a frame's end, before the sampler goes on: the nodes updated, a break location that was due begun, and
the result queued. -/
def State.frameEnded (s : State) (f : Frame) : State := { s with
  chain := if s.chain.breakDue = true then s.nodesEnded.beginLocation else s.nodesEnded
  transit := s.nodesReported
  pool := s.pool.withResult f.result (s.resultBytes f)
  seq := { s.seq with frame := none } }

theorem State.endFrame_eq {s : State} {f : Frame} (h : f.kind ≠ .patrol) :
    s.endFrame f = (s.frameEnded f).samplerAfter f := by
  rw [State.endFrame, if_neg h, State.frameEndUpdate_eq]
  unfold State.frameEnded State.queueFrameResult
  cases f.result <;> rfl

theorem State.frameEnded_node (s : State) (f : Frame) {m : Nat} (h1 : 1 ≤ m) (h20 : m ≤ 20) :
    (s.frameEnded f).chain.node m = (s.chain.node m).frameEnd s.seq.frameNumber s.profile.lossThreshold := by
  rw [← Chain.node_mapNodes s.chain (fun _ e => e.frameEnd s.seq.frameNumber s.profile.lossThreshold) ⟨h1, h20⟩]
  unfold State.frameEnded
  by_cases hb : s.chain.breakDue = true
  · simp only [hb, if_true]
    rfl
  · simp only [hb]
    rfl

/-- Whatever follows, with the same nodes and reports, ends the nodes of the frame. -/
theorem State.frameEnded_endsNodes {s t : State} {f : Frame}
    (hnode : ∀ m, 1 ≤ m → m ≤ 20 → t.chain.node m = (s.frameEnded f).chain.node m)
    (halerts : t.transit.alerts = (s.frameEnded f).transit.alerts)
    (hlosses : t.transit.nodeLosses = (s.frameEnded f).transit.nodeLosses) : s.endsNodes t :=
  State.endsNodes_of_report (fun m h1 h20 => (hnode m h1 h20).trans (s.frameEnded_node f h1 h20)) halerts hlosses

/-- Nothing follows a frame's end but what the engine serves, and it serves nothing: it is busy, or no request waits. -/
theorem State.frameEnded_workIdle {s : State} (f : Frame)
    (h : s.chain.engine.isSome = true ∨ s.chain.noRequest ∧ s.chain.breakDue = false) :
    (s.frameEnded f).chain.engine.isSome = true ∨ (s.frameEnded f).chain.noRequest := by
  rcases h with he | ⟨hn, hb⟩
  · left
    simp only [State.frameEnded]
    split
    · exact he
    · exact he
  · right
    simp only [State.frameEnded, hb]
    exact hn

/-! ## The result in its buffer (R38, R74) -/

theorem Pool.withResult_pages (p : Pool) (r : ResultBuffer) (bytes : List Byte) (m : Nat) :
    ((p.withResult r bytes).entry m).pages = (p.entry m).pages := by
  cases r <;> simp [Pool.withResult]

theorem Pool.withResult_queue (p : Pool) (r : ResultBuffer) (bytes : List Byte) :
    (p.withResult r bytes).resultQueue = p.resultQueue ++ (match r with | .granted n => [n] | _ => []) := by
  cases r with
  | granted n =>
    rw [Pool.withResult, Pool.writeBuffer_eq]
    simp [Pool.queueResult]
  | _ => simp [Pool.withResult]

theorem Pool.withResult_releaseList (p : Pool) (r : ResultBuffer) (bytes : List Byte) :
    (p.withResult r bytes).releaseList = p.releaseList := by
  cases r with
  | granted n =>
    rw [Pool.withResult, Pool.writeBuffer_eq]
    simp [Pool.queueResult]
  | _ => rfl

theorem Pool.withResult_entry_other (p : Pool) (r : ResultBuffer) (bytes : List Byte) {m : Nat}
    (h : ∀ n, r = .granted n → m ≠ n) : (p.withResult r bytes).entry m = p.entry m := by
  cases r with
  | granted n => exact (Pool.entry_setEntry_other _ _ (h n rfl)).trans (by simp)
  | _ => rfl

/-- The bytes of a buffer that shares no page with the result's stay. -/
theorem Pool.withResult_readBuffer_other (p : Pool) (r : ResultBuffer) (bytes : List Byte) {m : Nat}
    (h : ∀ n, r = .granted n → ∀ q ∈ (p.entry m).pages, q ∉ (p.entry n).pages) (i : Nat) :
    (p.withResult r bytes).readBuffer m i = p.readBuffer m i := by
  cases r with
  | granted n =>
    rw [Pool.withResult, Pool.readBuffer_congr (p := p.writeBuffer n 0 bytes) (by simp) (by simp),
      Pool.readBuffer_writeBuffer_disjoint (h n rfl)]
  | _ => rfl

/-- The result stands in its buffer, RESULT_QUEUED. -/
theorem Pool.withResult_written {p : Pool} {n : Nat} {bytes : List Byte} (hw : Memory.wf p.memory = true)
    (hp : p.pagesOk) (hn : p.sound n) (hlen : bytes.length ≤ (p.entry n).capacity) :
    (p.withResult (.granted n) bytes).entry n = { p.entry n with state := .resultQueued } ∧
      ∀ i, i < bytes.length → (p.withResult (.granted n) bytes).readBuffer n i = (bytes[i]?).getD 0 := by
  constructor
  · exact (Pool.entry_setEntry_self _ _ hn.range).trans (by simp)
  · intro i hi
    rw [Pool.withResult, Pool.readBuffer_congr (p := p.writeBuffer n 0 bytes) (by simp) (by simp)]
    have h := Pool.readBuffer_writeBuffer (o := 0) bytes hw (hp.lt n) hn.2 hi (by omega)
    rw [Nat.zero_add] at h
    rw [h, List.getElem?_eq_getElem hi, Option.getD_some]

theorem Pool.withResult_memoryOk {p : Pool} (hw : Memory.wf p.memory = true) (hp : p.pagesOk) (r : ResultBuffer)
    (bytes : List Byte) : Memory.wf (p.withResult r bytes).memory = true ∧ (p.withResult r bytes).pagesOk := by
  refine ⟨?_, Pool.pagesOk_iff.mpr fun m => ?_⟩
  · cases r with
    | granted n =>
      rw [Pool.withResult, Pool.queueResult_memory]
      exact Pool.writeBuffer_wf _ _ hw (hp.lt n)
    | _ => exact hw
  · rw [Pool.withResult_pages]
    exact Pool.pagesOk_iff.mp hp m

end Sys2Proof.Machine

namespace Sys2Proof.Machine

open Sys2Proof

/-! ## A WAIT at the last index runs out (R32) -/

section
variable (s : State) (d : Nat)

@[simp] theorem State.elapse_period : (s.elapse d).seq.period = s.seq.period := by unfold State.elapse; split <;> rfl
@[simp] theorem State.elapse_frameStart : (s.elapse d).seq.frameStart = s.seq.frameStart := by
  unfold State.elapse; split <;> rfl
@[simp] theorem State.elapse_startDue : (s.elapse d).seq.startDue = s.seq.startDue := by unfold State.elapse; split <;> rfl
@[simp] theorem State.elapse_pendingSwitch : (s.elapse d).seq.pendingSwitch = s.seq.pendingSwitch := by
  unfold State.elapse; split <;> rfl
@[simp] theorem State.elapse_activeSlot : (s.elapse d).seq.activeSlot = s.seq.activeSlot := by
  unfold State.elapse; split <;> rfl
@[simp] theorem State.elapse_first : (s.elapse d).seq.first = s.seq.first := by unfold State.elapse; split <;> rfl
@[simp] theorem State.elapse_last : (s.elapse d).seq.last = s.seq.last := by unfold State.elapse; split <;> rfl

end

/-- The frame behind its last element. -/
def Frame.afterLast (f : Frame) : Frame := { f with index := f.index + 1, phase := .ended }

/-- The state in which a list has ended whose last element was a WAIT that ran out after `r` µs. -/
def State.waitEnded (s : State) (f : Frame) (r : Nat) : State := { s.elapse r with
  seq := { (s.elapse r).seq with elementTimer := none, frame := some f.afterLast } }

/-- The event of that expiry goes on with the frame's end, where the frame's allocation has completed. -/
theorem exec_waitExpiry_last {s : State} {f : Frame} {r : Nat} (h : s.waits f r) (hl : f.index = f.last)
    (hres : f.result ≠ .asked) : exec .waitExpiry s =
      .next ((((s.waitEnded f r).endFrame f.afterLast).settleN 4094).publish s) := by
  obtain ⟨ht, hf, hphase, htimer, halign, -⟩ := h
  obtain ⟨v, hv⟩ : ∃ v, v = ((s.elapse r).onSeq fun q => { q with elementTimer := none }).nextElement := ⟨_, rfl⟩
  have hvframe : v.seq.frame = some { f with index := f.index + 1, phase := .start } := by
    rw [hv]
    simp [State.nextElement, State.onFrame, hf]
  have hvalign : v.table.align = .idle := by
    rw [hv]
    exact (congrArg FrameTable.align (State.elapse_table s r)).trans halign
  have hlist : s.listIn .waiting = true := by simp [State.listIn, hf, hphase]
  have hrun : v.runElement { f with index := f.index + 1, phase := .start } = s.waitEnded f r := by
    rw [State.runElement, if_pos (by simp [hl]), State.endList, State.onFrame, State.onSeq, hvframe, hv]
    rfl
  have hfirst : v.settleStep = some (s.waitEnded f r) := by
    rw [State.settleStep, hvframe, ← hrun]
    exact if_pos ⟨rfl, hvalign⟩
  have hsecond : (s.waitEnded f r).settleStep = some ((s.waitEnded f r).endFrame f.afterLast) := by
    rw [State.settleStep, show (s.waitEnded f r).seq.frame = some f.afterLast from rfl]
    refine (if_neg (by simp [Frame.afterLast])).trans (if_pos ⟨rfl, hres⟩)
  rw [show exec .waitExpiry s = execWaitExpiry s from rfl, execWaitExpiry, State.event_taking _ ht,
    State.elementTimedOut, if_pos hlist, htimer, State.onExpiry_some, ← hv, State.settle,
    State.settleN_of_some 4095 hfirst, State.settleN_of_some 4094 hsecond]

/-- The result of a frame is read from the Frame Table and from what the sequencer keeps of the frame. -/
theorem State.resultBytes_congr {s s' : State} {f f' : Frame} (htable : s'.table = s.table)
    (hnumber : s'.seq.frameNumber = s.seq.frameNumber) (hperiod : s'.seq.period = s.seq.period)
    (hstart : s'.seq.frameStart = s.seq.frameStart)
    (hf : f' = { f with kind := f'.kind, index := f'.index, phase := f'.phase, element := f'.element
                        result := f'.result }) : s'.resultBytes f' = s.resultBytes f := by
  rw [hf]
  simp only [State.resultBytes, State.resultHeader, qualityFlags, htable, hnumber, hperiod, hstart]

theorem State.waitEnded_resultBytes (s : State) (f : Frame) (r : Nat) :
    (s.waitEnded f r).resultBytes f.afterLast = s.resultBytes f :=
  State.resultBytes_congr (s.elapse_table r) (s.elapse_frameNumber r) (s.elapse_period r) (s.elapse_frameStart r) rfl

/-! ## The sampler after a frame's end (R38) -/

/-- A detail word of a 16-bit field alone. -/
theorem packDetail_half {a : Nat} (ha : a < 65536) : packDetail [(2, (a : Int))] = BitVec.ofNat 32 a := by
  rw [packDetail, show packFields [(2, (a : Int))] = leBytes 2 a by simp [packFields, leSigned_nat]]
  apply BitVec.eq_of_toNat_eq
  simp [detailOf, slice, leBytes, ofLe]
  omega

section
variable {s : State} {f : Frame}

/-- With nothing that stops it, and no start due, the sampler waits for the next start. -/
theorem State.samplerAfter_waiting (hk : f.kind = .normal) (hstop : ∀ m, s.seq.slot ≠ some (.stop m))
    (hh : f.halted = false) (ht : f.trapped = false) (hd : s.seq.startDue = false) :
    s.samplerAfter f = s.onSeq fun q => { q with sampler := .waiting } := by
  rw [State.samplerAfter, hk]
  cases hs : s.seq.slot with
  | none => simp [hh, ht, hd]
  | some o => cases o <;> simp_all

/-- With a start due the next frame starts late. -/
theorem State.samplerAfter_late (hk : f.kind = .normal) (hstop : ∀ m, s.seq.slot ≠ some (.stop m))
    (hh : f.halted = false) (ht : f.trapped = false) (hd : s.seq.startDue = true) :
    s.samplerAfter f =
      (s.onSeq fun q => { q with overruns := satAdd 65535 q.overruns 1 }).frameStart .normal true := by
  rw [State.samplerAfter, hk]
  cases hs : s.seq.slot with
  | none => simp [hh, ht, hd]
  | some o => cases o <;> simp_all

/-- A HALT or a trap leaves the sampler HALTED. -/
theorem State.samplerAfter_halted (hk : f.kind = .normal) (hstop : ∀ m, s.seq.slot ≠ some (.stop m))
    (hh : f.halted = true ∨ f.trapped = true) :
    s.samplerAfter f = (s.onSeq fun q => q.leave .halted).abortSwitch := by
  have hh : (f.halted || f.trapped) = true := by simpa using hh
  rw [State.samplerAfter, hk]
  cases hs : s.seq.slot with
  | none => simp [hh]
  | some o => cases o <;> simp_all

/-- A HALT or a trap with no SELECT_LIST pending. -/
theorem State.samplerAfter_halted_empty (hk : f.kind = .normal) (hs : s.seq.slot = none)
    (hh : f.halted = true ∨ f.trapped = true) :
    s.samplerAfter f = s.onSeq fun q => { q.leave .halted with pendingSwitch := none } := by
  rw [State.samplerAfter_halted hk (by simp [hs]) hh, State.abortSwitch]
  simp only [State.onSeq_seq, Sequencer.leave, hs]
  rfl

/-- A HALT or a trap aborts a pending SELECT_LIST, with the sampler state in its detail word (R43). -/
theorem State.samplerAfter_halted_select {m : Nat} (hk : f.kind = .normal) (hs : s.seq.slot = some (.select m))
    (hh : f.halted = true ∨ f.trapped = true) :
    s.samplerAfter f = { s.complete m .aborted (BitVec.ofNat 32 (samplerCode .halted)) with
      seq := { s.seq.leave .halted with slot := none, pendingSwitch := none } } := by
  have hd : packDetail [(1, (samplerCode .halted : Int))] = BitVec.ofNat 32 (samplerCode .halted) := by decide
  rw [State.samplerAfter_halted hk (by simp [hs]) hh, State.abortSwitch]
  simp only [State.onSeq_seq, Sequencer.leave, hs, hd]
  rfl

/-- A STOP_SAMPLING completes at the end of the frame. -/
theorem State.samplerAfter_stop {m : Nat} (hk : f.kind = .normal) (hs : s.seq.slot = some (.stop m)) :
    s.samplerAfter f = { s.complete m .ok (BitVec.ofNat 32 s.seq.frameNumber.toNat) with
      seq := { s.seq.leave .stopped with slot := none } } := by
  rw [State.samplerAfter, hk, hs]
  simp only [packDetail_half s.seq.frameNumber.isLt]
  rfl

/-- A SINGLE_FRAME completes with the frame's number and quality. -/
theorem State.samplerAfter_single {m : Nat} (hk : f.kind = .single) (hs : s.seq.slot = some (.single m)) :
    s.samplerAfter f = { s.complete m .ok (s.singleDetail f) with
      seq := { s.seq.leave .stopped with slot := none } } := by
  rw [State.samplerAfter, hk, hs]
  rfl

/-- The detail word of SINGLE_FRAME (R176). -/
theorem State.singleDetail_eq : s.singleDetail f = BitVec.ofNat 32 (s.seq.frameNumber.toNat +
    65536 * (boolCode f.late + 2 * boolCode f.trapped + 4 * boolCode f.halted +
      8 * boolCode (decide (s.table.evalCount = 0)) + if f.result = .dropped then 128 else 0)) := by
  have bit (c : Bool) : boolCode c ≤ 1 := by cases c <;> decide
  have hdrop : 128 * boolCode (f.result == .dropped) = if f.result = .dropped then 128 else 0 := by
    by_cases h : f.result = .dropped <;> simp [h, boolCode]
  have hcount : (s.table.evalCount == 0) = decide (s.table.evalCount = 0) := rfl
  have h1 := bit f.late
  have h2 := bit f.trapped
  have h3 := bit f.halted
  have h4 := bit (decide (s.table.evalCount = 0))
  have h5 := bit (f.result == .dropped)
  have h := packDetail_half_bytes (a := s.seq.frameNumber.toNat)
    (b := qualityFlags f s.table.evalCount + 128 * boolCode (f.result == .dropped)) (c := 0) s.seq.frameNumber.isLt
    (by rw [qualityFlags, hcount]; omega) (by omega)
  rw [qualityFlags, hcount, Nat.mul_zero, Nat.add_zero, hdrop] at h
  rw [← h, State.singleDetail]
  rw [qualityFlags, hcount, hdrop]
  rfl

end

/-! ## The event of a frame's end (R38) -/

@[simp] theorem State.publish_nodeLosses (s old : State) :
    (s.publish old).transit.nodeLosses = s.transit.nodeLosses := by
  rw [State.publish_eq]
  rfl

/-- The end of the frame changes the pool, the chain, the sequencer and what is on its way. -/
theorem State.waitEnded_frameEnded (s : State) (f : Frame) (r : Nat) (p : Pool) (q : Sequencer) :
    SameExcept [.pool, .chain, .seq, .transit] (s.elapse r)
      { (s.waitEnded f r).frameEnded f.afterLast with pool := p, seq := q } := by
  simp [sameExcept_iff, State.frameEnded, State.waitEnded]

/-- The pool behind the end of a frame, before an order completes. -/
theorem State.waitEnded_pool (s : State) (f : Frame) (r : Nat) :
    ((s.waitEnded f r).frameEnded f.afterLast).pool = s.pool.withResult f.result (s.resultBytes f) := by
  have hpool : (s.waitEnded f r).pool = s.pool := s.elapse_pool r
  rw [State.frameEnded, State.waitEnded_resultBytes, hpool]
  rfl

/-- The expiry of a WAIT at the last index, where the frame's end leaves no frame behind it: `p` and `q` are the pool and
the sequencer that the sampler's next step leaves. -/
theorem State.waitExpiry_ends {s : State} {f : Frame} {r : Nat} {p : Pool} {q : Sequencer} (h : s.waits f r)
    (hl : f.index = f.last) (hres : f.result ≠ .asked) (hk : f.kind ≠ .patrol) (hq : q.frame = none)
    (hafter : ((s.waitEnded f r).frameEnded f.afterLast).samplerAfter f.afterLast =
      { (s.waitEnded f r).frameEnded f.afterLast with pool := p, seq := q }) :
    ∃ t, exec .waitExpiry s = .next t ∧ s.endsNodes t ∧ t.seq = q ∧ t.clock = (s.elapse r).clock ∧
      (s.chain.breakDue = true → t.chain.location = some ⟨false, 1, 0, s.chain.found + 1⟩) ∧
      t.pool = { p with updateCount := t.pool.updateCount } ∧
      SameExcept [.pool, .chain, .seq, .transit] (s.elapse r) t := by
  obtain ⟨T, hT⟩ : ∃ T, T = { (s.waitEnded f r).frameEnded f.afterLast with pool := p, seq := q } := ⟨_, rfl⟩
  have hchain : T.chain = ((s.waitEnded f r).frameEnded f.afterLast).chain := by rw [hT]
  have htransit : T.transit = ((s.waitEnded f r).frameEnded f.afterLast).transit := by rw [hT]
  have hengine : (s.waitEnded f r).chain.engine.isSome = true ∨
      (s.waitEnded f r).chain.noRequest ∧ (s.waitEnded f r).chain.breakDue = false := by
    obtain ⟨-, -, -, -, -, hengine⟩ := h
    simpa [State.waitEnded, Chain.noRequest] using hengine
  have hidle : T.workIdle := by
    refine ⟨by simp [State.listIdle, hT, hq], ?_⟩
    rw [hchain]
    exact State.frameEnded_workIdle _ hengine
  refine ⟨T.publish s, ?_, ?_, ?_, ?_, ?_, ?_, ?_⟩
  · rw [exec_waitExpiry_last h hl hres, State.endFrame_eq (f := f.afterLast) hk, hafter, ← hT,
      State.settleN_of_none _ (State.settleStep_of_workIdle hidle)]
  · have hends : (s.waitEnded f r).endsNodes (T.publish s) :=
      State.frameEnded_endsNodes (f := f.afterLast) (fun m _ _ => by rw [State.publish_chain, hchain])
        (by rw [State.publish_transitAlerts, htransit]) (by rw [State.publish_nodeLosses, htransit])
    exact hends.of_before (fun n => (s.elapse_node r n).symm) (s.elapse_profile r).symm (s.elapse_frameNumber r).symm
      (s.elapse_transit r).symm
  · rw [State.publish_seq, hT]
  · rw [State.publish_clock, hT]
    rfl
  · intro hb
    rw [State.publish_chain, hchain]
    have hb' : (s.waitEnded f r).chain.breakDue = true := by simpa [State.waitEnded] using hb
    have hfound : (s.waitEnded f r).chain.found = s.chain.found := s.elapse_found r
    simp only [State.frameEnded, hb', if_true]
    rw [← hfound]
    rfl
  · rw [State.publish_eq, hT]
  · exact SameExcept.publish_transit (by rw [hT]; exact s.waitEnded_frameEnded f r p q) (by simp) (by simp)

/-- Two pools with the same buffers, bytes, results and releases. -/
def Pool.sameBuffers (p q : Pool) : Prop :=
  p.memory = q.memory ∧ p.table = q.table ∧ p.resultQueue = q.resultQueue ∧ p.releaseList = q.releaseList

theorem Pool.sameBuffers_of_count {p q : Pool} (h : p = { q with updateCount := p.updateCount }) : p.sameBuffers q := by
  rw [h]
  exact ⟨rfl, rfl, rfl, rfl⟩

theorem Pool.sameBuffers.resultQueue {p q : Pool} (h : p.sameBuffers q) : p.resultQueue = q.resultQueue := by
  obtain ⟨-, -, hqueue, -⟩ := h
  exact hqueue

theorem Pool.sameBuffers.releaseList {p q : Pool} (h : p.sameBuffers q) : p.releaseList = q.releaseList := by
  obtain ⟨-, -, -, hlist⟩ := h
  exact hlist

theorem Pool.sameBuffers.entry {p q : Pool} (h : p.sameBuffers q) (n : Nat) : p.entry n = q.entry n := by
  simp only [Pool.entry, h.2.1]

theorem Pool.sameBuffers.readBuffer {p q : Pool} (h : p.sameBuffers q) (n o : Nat) :
    p.readBuffer n o = q.readBuffer n o := Pool.readBuffer_congr h.1 (by rw [h.entry]) o

/-- With no order completed, the frame's result stands in its buffer (R38). -/
theorem State.resultWritten_of_pool {s t : State} {f : Frame} (hm : s.memoryOk)
    (hpool : t.pool.sameBuffers (s.pool.withResult f.result (s.resultBytes f))) : s.resultWritten t f := by
  intro n hn hs hlen
  rw [hn] at hpool
  obtain ⟨hentry, hbytes⟩ := Pool.withResult_written hm.1 hm.2.1 hs hlen
  exact ⟨(hpool.entry n).trans hentry, fun i hi => (hpool.readBuffer n i).trans (hbytes i hi)⟩

/-- The end of an event behind a completion, seen through the pool. -/
theorem State.completed_of_pool {s t : State} {n : Nat} {code : Completion} {detail : Word} (hm : s.memoryOk)
    (hn : s.pool.sound n) (hclock : t.clock = s.clock)
    (hpool : t.pool.sameBuffers (s.complete n code detail).pool) : Completed s t n code detail 0 :=
  State.completed_of_complete code detail [] false false hm hn (congrArg Clock.packTime hclock)
    (fun i => hpool.readBuffer n i) (hpool.entry n) hpool.resultQueue hpool.releaseList

/-- The bytes and the entry of a result stay behind the completion of an order with a buffer of its own. -/
theorem State.resultWritten_of_complete {s t : State} {f : Frame} {r m : Nat} {code : Completion} {detail : Word}
    (hm : s.memoryOk) (hapart : s.resultApart f m)
    (hpool : t.pool.sameBuffers (((s.waitEnded f r).frameEnded f.afterLast).complete m code detail).pool) :
    s.resultWritten t f := by
  intro n hn hs hlen
  obtain ⟨X, hX⟩ : ∃ X, X = (s.waitEnded f r).frameEnded f.afterLast := ⟨_, rfl⟩
  have hXpool : X.pool = s.pool.withResult f.result (s.resultBytes f) := by rw [hX, State.waitEnded_pool]
  obtain ⟨hne, -, -, hdisjoint⟩ := hapart n hn
  obtain ⟨hentry, hbytes⟩ := Pool.withResult_written hm.1 hm.2.1 hs hlen
  rw [← hn, ← hXpool] at hentry hbytes
  have hpages (k : Nat) : (X.pool.entry k).pages = (s.pool.entry k).pages := by
    rw [hXpool, Pool.withResult_pages]
  have hd : ∀ q ∈ (X.pool.entry n).pages, q ∉ (X.pool.entry m).pages := by
    simp only [hpages]
    exact fun q hq hq' => hdisjoint q hq' hq
  rw [← hX] at hpool
  exact ⟨(hpool.entry n).trans ((State.complete_entry_other _ _ _ _ _ _ _ hne).trans hentry), fun i hi =>
    (hpool.readBuffer n i).trans ((State.complete_readBuffer_disjoint _ _ hd i).trans (hbytes i hi))⟩

/-- An order that completes behind a frame's result, with a buffer of its own: it joins the Result Queue behind the
result. -/
theorem State.completed_behind_result {s t : State} {f : Frame} {r m : Nat} {code : Completion} {detail : Word}
    (hm : s.memoryOk) (hs : s.pool.sound m) (hapart : s.resultApart f m) (hclock : t.clock = (s.elapse r).clock)
    (hpool : t.pool.sameBuffers (((s.waitEnded f r).frameEnded f.afterLast).complete m code detail).pool) :
    Completed ((s.elapse r).resultJoined f.result) t m code detail 0 := by
  obtain ⟨X, hX⟩ : ∃ X, X = (s.waitEnded f r).frameEnded f.afterLast := ⟨_, rfl⟩
  have hXpool : X.pool = s.pool.withResult f.result (s.resultBytes f) := by rw [hX, State.waitEnded_pool]
  have hXlink : X.link = s.link := by
    rw [hX]
    exact s.elapse_link r
  have hXclock : X.clock = (s.elapse r).clock := by rw [hX]; rfl
  have hdisjoint : ∀ n, f.result = .granted n → ∀ q ∈ (s.pool.entry m).pages, q ∉ (s.pool.entry n).pages :=
    fun n hn => by
      obtain ⟨-, -, -, hd⟩ := hapart n hn
      exact hd
  have hpages (k : Nat) : (X.pool.entry k).pages = (s.pool.entry k).pages := by
    rw [hXpool, Pool.withResult_pages]
  have hXm : X.memoryOk := by
    obtain ⟨hw, hp, hlink⟩ := hm
    obtain ⟨hw', hp'⟩ := Pool.withResult_memoryOk hw hp f.result (s.resultBytes f)
    exact ⟨by rw [hXpool]; exact hw', by rw [hXpool]; exact hp', by rw [hXlink]; exact hlink⟩
  have hXs : X.pool.sound m := by simpa only [Pool.sound, hpages] using hs
  rw [← hX] at hpool
  have hcompleted := State.completed_of_pool hXm hXs (hclock.trans hXclock.symm) hpool
  obtain ⟨h6, h7, h8, h12, hlow, hjoin⟩ := hcompleted
  have hjoined : ((s.elapse r).resultJoined f.result).pool.resultQueue = X.pool.resultQueue ∧
      ((s.elapse r).resultJoined f.result).pool.releaseList = X.pool.releaseList ∧
      ∀ i, ((s.elapse r).resultJoined f.result).pool.readBuffer m i = X.pool.readBuffer m i := by
    rw [hXpool, Pool.withResult_queue, Pool.withResult_releaseList]
    refine ⟨?_, ?_, fun i => ?_⟩
    · cases f.result <;> simp [State.resultJoined]
    · cases f.result <;> simp [State.resultJoined]
    · rw [Pool.withResult_readBuffer_other _ _ _ hdisjoint, ← State.elapse_pool s r]
      cases f.result <;> rfl
  obtain ⟨hqueue, hrelease, hbytes⟩ := hjoined
  have hquiet : ((s.elapse r).resultJoined f.result).quiet m = X.quiet m := by
    rw [State.quiet, State.quiet, State.orderByte, State.orderByte, hbytes]
  refine ⟨h6, h7, h8, h12, fun i hi => ?_, ?_⟩
  · rw [hlow i hi, State.orderByte, State.orderByte, hbytes]
  · rw [hquiet, hqueue, hrelease]
    exact hjoin

end Sys2Proof.Machine

namespace Sys2Proof.Machine

open Sys2Proof

/-! ## What the sampler does behind a frame (R38, R43) -/

section
variable {s : State} {f : Frame} {r : Nat}

/-- The sequencer at a frame's end. -/
theorem State.waitEnded_seq : ((s.waitEnded f r).frameEnded f.afterLast).seq =
    { (s.elapse r).seq with elementTimer := none, frame := none } := rfl

/-- A frame's end that completes no order: the pool holds the frame's result alone. -/
theorem exec_waitExpiry_frameEnds {q : Sequencer} (h : s.waits f r) (hl : f.index = f.last) (hres : f.result ≠ .asked)
    (hm : s.memoryOk) (hk : f.kind ≠ .patrol) (hq : q.frame = none)
    (hafter : ((s.waitEnded f r).frameEnded f.afterLast).samplerAfter f.afterLast =
      { (s.waitEnded f r).frameEnded f.afterLast with seq := q }) :
    ∃ t, exec .waitExpiry s = .next t ∧ s.endsNodes t ∧ t.seq = q ∧ t.table = s.table ∧
      (s.chain.breakDue = true → t.chain.location = some ⟨false, 1, 0, s.chain.found + 1⟩) ∧
      (f.result = .dropped → SamePoolButCount s t) ∧ s.resultWritten t f ∧
      (∀ n, f.result = .granted n → s.pool.sound n → (s.resultBytes f).length ≤ (s.pool.entry n).capacity →
        t.pool.resultQueue = s.pool.resultQueue ++ [n] ∧ (∀ m, m ≠ n → t.pool.entry m = s.pool.entry m)) ∧
      SameExcept [.pool, .chain, .seq, .transit] (s.elapse r) t := by
  obtain ⟨t, hx, hends, hts, -, hloc, hpool, hsame⟩ := State.waitExpiry_ends
    (p := ((s.waitEnded f r).frameEnded f.afterLast).pool) h hl hres hk hq hafter
  rw [State.waitEnded_pool] at hpool
  refine ⟨t, hx, hends, hts, (hsame .table (by simp)).trans (s.elapse_table r), hloc, fun hdrop => ?_,
    State.resultWritten_of_pool hm (Pool.sameBuffers_of_count hpool), fun n hn hs hlen => ⟨?_, fun m hmn => ?_⟩, hsame⟩
  · rw [hdrop] at hpool
    exact hpool
  · rw [hpool, hn]
    exact Pool.withResult_queue ..
  · rw [hpool]
    exact Pool.withResult_entry_other _ _ _ fun k hk => by
      rw [hn] at hk
      cases hk
      exact hmn

/-- A normal frame's end with no order to complete: the sampler waits, or is HALTED. -/
theorem exec_waitExpiry_normal (h : s.waits f r) (hl : f.index = f.last)
    (hres : f.result = .dropped ∨ ∃ n, f.result = .granted n) (hm : s.memoryOk) (hk : f.kind = .normal)
    (hstop : ¬ ∃ m, s.seq.slot = some (.stop m))
    (hslot : f.halted = true ∨ f.trapped = true → s.seq.slot = none) (hd : s.seq.startDue = false) :
    ∃ t, exec .waitExpiry s = .next t ∧ s.endsNodes t ∧ t.seq = { (s.elapse r).seq with
        elementTimer := none, frame := none
        sampler := if f.halted = true ∨ f.trapped = true then .halted else .waiting
        frameTimer := if f.halted = true ∨ f.trapped = true then none else (s.elapse r).seq.frameTimer
        activeSlot := if f.halted = true ∨ f.trapped = true then none else s.seq.activeSlot
        pendingSwitch := if f.halted = true ∨ f.trapped = true then none else s.seq.pendingSwitch } ∧
      t.table = s.table ∧ (s.chain.breakDue = true → t.chain.location = some ⟨false, 1, 0, s.chain.found + 1⟩) ∧
      (f.result = .dropped → SamePoolButCount s t) ∧ s.resultWritten t f ∧
      (∀ n, f.result = .granted n → s.pool.sound n → (s.resultBytes f).length ≤ (s.pool.entry n).capacity →
        t.pool.resultQueue = s.pool.resultQueue ++ [n] ∧ (∀ m, m ≠ n → t.pool.entry m = s.pool.entry m)) ∧
      SameExcept [.pool, .chain, .seq, .transit] (s.elapse r) t := by
  have hasked : f.result ≠ .asked := by
    rcases hres with h | ⟨n, h⟩ <;> simp [h]
  have hk' : f.kind ≠ .patrol := by simp [hk]
  obtain ⟨X, hX⟩ : ∃ X, X = (s.waitEnded f r).frameEnded f.afterLast := ⟨_, rfl⟩
  have hXseq : X.seq = { (s.elapse r).seq with elementTimer := none, frame := none } := by rw [hX, State.waitEnded_seq]
  have hXstop : ∀ m, X.seq.slot ≠ some (.stop m) := fun m hm => hstop ⟨m, by simpa [hXseq] using hm⟩
  by_cases hh : f.halted = true ∨ f.trapped = true
  · have hafter := State.samplerAfter_halted_empty (s := X) (f := f.afterLast) hk (by simpa [hXseq] using hslot hh) hh
    have hseq : ({ X.seq.leave .halted with pendingSwitch := none } : Sequencer) = { (s.elapse r).seq with
        elementTimer := none, frame := none, sampler := .halted, frameTimer := none, activeSlot := none
        pendingSwitch := none } := by
      rw [hXseq, Sequencer.leave]
      simp [hd]
    obtain ⟨t, hx, hends, hts, hrest⟩ := exec_waitExpiry_frameEnds h hl hasked hm hk'
      (q := { X.seq.leave .halted with pendingSwitch := none }) (by simp [hXseq, Sequencer.leave]) (by rw [← hX, hafter]; rfl)
    simp only [if_pos hh]
    exact ⟨t, hx, hends, hts.trans hseq, hrest⟩
  · have hno : f.halted = false ∧ f.trapped = false := by simpa using hh
    have hafter := State.samplerAfter_waiting (s := X) (f := f.afterLast) hk hXstop hno.1 hno.2 (by simpa [hXseq] using hd)
    have hseq : ({ X.seq with sampler := .waiting } : Sequencer) = { (s.elapse r).seq with
        elementTimer := none, frame := none, sampler := .waiting, activeSlot := s.seq.activeSlot
        pendingSwitch := s.seq.pendingSwitch } := by
      simp [hXseq]
    obtain ⟨t, hx, hends, hts, hrest⟩ := exec_waitExpiry_frameEnds h hl hasked hm hk'
      (q := { X.seq with sampler := .waiting }) (by simp [hXseq]) (by rw [← hX, hafter]; rfl)
    simp only [if_neg hh]
    exact ⟨t, hx, hends, hts.trans hseq, hrest⟩

/-- A STOP_SAMPLING or a SINGLE_FRAME completes at its frame's end. -/
theorem exec_waitExpiry_completes {m : Nat} (h : s.waits f r) (hl : f.index = f.last)
    (hres : f.result = .dropped ∨ ∃ n, f.result = .granted n) (hm : s.memoryOk) (hsm : s.pool.sound m)
    (hapart : s.resultApart f m)
    (hcase : f.kind = .normal ∧ s.seq.slot = some (.stop m) ∨ f.kind = .single ∧ s.seq.slot = some (.single m)) :
    ∃ t, exec .waitExpiry s = .next t ∧ s.endsNodes t ∧ s.resultWritten t f ∧
      Completed ((s.elapse r).resultJoined f.result) t m .ok
        (if f.kind = .normal then BitVec.ofNat 32 s.seq.frameNumber.toNat else BitVec.ofNat 32
          (s.seq.frameNumber.toNat + 65536 * (boolCode f.late + 2 * boolCode f.trapped + 4 * boolCode f.halted +
            8 * boolCode (decide (s.table.evalCount = 0)) + if f.result = .dropped then 128 else 0))) 0 ∧
      t.seq = { (s.elapse r).seq with
        elementTimer := none, frame := none, sampler := .stopped, frameTimer := none, startDue := false
        activeSlot := none, slot := none } ∧
      SameExcept [.pool, .chain, .seq, .transit] (s.elapse r) t := by
  have hasked : f.result ≠ .asked := by
    rcases hres with h | ⟨n, h⟩ <;> simp [h]
  obtain ⟨X, hX⟩ : ∃ X, X = (s.waitEnded f r).frameEnded f.afterLast := ⟨_, rfl⟩
  have hXseq : X.seq = { (s.elapse r).seq with elementTimer := none, frame := none } := by rw [hX, State.waitEnded_seq]
  have hXtable : X.table = s.table := by
    rw [hX]
    exact s.elapse_table r
  have hnumber : X.seq.frameNumber = s.seq.frameNumber := by
    rw [hXseq]
    exact s.elapse_frameNumber r
  have hXslot {o : SequencerOrder} (ho : s.seq.slot = some o) : X.seq.slot = some o := by
    rw [hXseq]
    exact (s.elapse_seqSlot r).trans ho
  have finish {detail : Word} (hk : f.kind ≠ .patrol)
      (hafter : X.samplerAfter f.afterLast = { X.complete m .ok detail with
        seq := { X.seq.leave .stopped with slot := none } }) :
      ∃ t, exec .waitExpiry s = .next t ∧ s.endsNodes t ∧ s.resultWritten t f ∧
        Completed ((s.elapse r).resultJoined f.result) t m .ok detail 0 ∧
        t.seq = { (s.elapse r).seq with
          elementTimer := none, frame := none, sampler := .stopped, frameTimer := none, startDue := false
          activeSlot := none, slot := none } ∧
        SameExcept [.pool, .chain, .seq, .transit] (s.elapse r) t := by
    obtain ⟨t, hx, hends, hts, hclock, -, hpool, hsame⟩ := State.waitExpiry_ends
      (p := (X.complete m .ok detail).pool) (q := { X.seq.leave .stopped with slot := none }) h hl hasked hk
      (by simp [hXseq, Sequencer.leave]) (by rw [← hX, hafter]; rfl)
    rw [hX] at hpool
    have hbuffers := Pool.sameBuffers_of_count hpool
    exact ⟨t, hx, hends, State.resultWritten_of_complete hm hapart hbuffers,
      State.completed_behind_result hm hsm hapart hclock hbuffers, by rw [hts, hXseq]; rfl, hsame⟩
  rcases hcase with ⟨hk, ho⟩ | ⟨hk, ho⟩
  · rw [if_pos hk]
    have hafter := State.samplerAfter_stop (f := f.afterLast) hk (hXslot ho)
    rw [hnumber] at hafter
    exact finish (by simp [hk]) hafter
  · rw [if_neg (by simp [hk])]
    have hafter := State.samplerAfter_single (f := f.afterLast) hk (hXslot ho)
    rw [State.singleDetail_eq, hnumber, hXtable] at hafter
    exact finish (by simp [hk]) hafter

/-- A HALT or a trap aborts the SELECT_LIST that waits for the next frame (R43). -/
theorem exec_waitExpiry_aborts {m : Nat} (h : s.waits f r) (hl : f.index = f.last)
    (hres : f.result = .dropped ∨ ∃ n, f.result = .granted n) (hm : s.memoryOk) (hk : f.kind = .normal)
    (hh : f.halted = true ∨ f.trapped = true) (ho : s.seq.slot = some (.select m)) (hsm : s.pool.sound m)
    (hapart : s.resultApart f m) :
    ∃ t, exec .waitExpiry s = .next t ∧ s.endsNodes t ∧ s.resultWritten t f ∧
      Completed ((s.elapse r).resultJoined f.result) t m .aborted (BitVec.ofNat 32 (samplerCode .halted)) 0 ∧
      t.seq = { (s.elapse r).seq with
        elementTimer := none, frame := none, sampler := .halted, frameTimer := none, startDue := false
        activeSlot := none, pendingSwitch := none, slot := none } ∧
      SameExcept [.pool, .chain, .seq, .transit] (s.elapse r) t := by
  have hasked : f.result ≠ .asked := by
    rcases hres with h | ⟨n, h⟩ <;> simp [h]
  obtain ⟨X, hX⟩ : ∃ X, X = (s.waitEnded f r).frameEnded f.afterLast := ⟨_, rfl⟩
  have hXseq : X.seq = { (s.elapse r).seq with elementTimer := none, frame := none } := by rw [hX, State.waitEnded_seq]
  have hXslot : X.seq.slot = some (.select m) := by
    rw [hXseq]
    exact (s.elapse_seqSlot r).trans ho
  have hafter := State.samplerAfter_halted_select (f := f.afterLast) hk hXslot hh
  obtain ⟨t, hx, hends, hts, hclock, -, hpool, hsame⟩ := State.waitExpiry_ends
    (p := (X.complete m .aborted (BitVec.ofNat 32 (samplerCode .halted))).pool)
    (q := { X.seq.leave .halted with slot := none, pendingSwitch := none }) h hl hasked (by simp [hk])
    (by simp [hXseq, Sequencer.leave]) (by rw [← hX, hafter]; rfl)
  rw [hX] at hpool
  have hbuffers := Pool.sameBuffers_of_count hpool
  exact ⟨t, hx, hends, State.resultWritten_of_complete hm hapart hbuffers,
    State.completed_behind_result hm hsm hapart hclock hbuffers, by rw [hts, hXseq]; rfl, hsame⟩

end

end Sys2Proof.Machine

namespace Sys2Proof.Machine

open Sys2Proof

/-! ## The allocation of a frame's result (R31, R123) -/

theorem Pool.grant_kept (p : Pool) : p.grant.memory = p.memory ∧ p.grant.table = p.table ∧
    p.grant.resultQueue = p.resultQueue ∧ p.grant.releaseList = p.releaseList := by
  rw [Pool.grant_eq]
  exact ⟨rfl, rfl, rfl, rfl⟩

theorem Pool.grant_entry (p : Pool) (n : Nat) : p.grant.entry n = p.entry n := by
  simp only [Pool.entry, p.grant_kept.2.1]

theorem Pool.freeNumbers_range {p : Pool} {n : Nat} (h : n ∈ p.freeNumbers) : 1 ≤ n ∧ n ≤ 40 := by
  have hn := List.mem_range'_1.mp (List.mem_of_mem_filter h)
  omega

theorem Pool.freePages_range {p : Pool} {q : Nat} (h : q ∈ p.freePages) : 4 ≤ q ∧ q < 96 := by
  have hq := List.mem_range'_1.mp (List.mem_of_mem_filter h)
  omega

theorem Pool.freePages_nodup (p : Pool) : p.freePages.Nodup := List.Nodup.filter _ List.nodup_range'

/-- What a successful allocation for the sampler finds (R123). -/
theorem Pool.allocFailure_none {p : Pool} {n reserve : Nat} (h : p.allocFailure .sampler n reserve = none) :
    5 ≤ p.freeNumbers.length ∧ n + reserve ≤ p.freePages.length := by
  simp only [Pool.allocFailure] at h
  split_ifs at h with h1 h2
  exact ⟨Nat.le_of_not_lt h1, Nat.le_of_not_lt h2⟩

/-- The buffer that the sampler's allocation creates: the lowest free number and pages, FILLING, in memory set to 00h. -/
theorem Pool.create_sampler {p : Pool} {n number : Nat} (h : p.freeNumbers.head? = some number) :
    (p.create .sampler n).1 = number ∧ (p.create .sampler n).2 =
      ({ p with memory := memZero p.memory (p.freePages.take n) } : Pool).setEntry number
        ⟨.filling, p.freePages.take n, .sampler, false⟩ := by
  have hd : p.freeNumbers.headD 0 = number := by rw [List.headD_eq_head?_getD, h, Option.getD_some]
  rw [Pool.create]
  exact ⟨hd, by rw [hd]⟩

/-- The pool in which the created buffer awaits its result, and the next allocation is in progress. -/
def Pool.allocated (p : Pool) (n number : Nat) : Pool :=
  Pool.grant { ({ p with memory := memZero p.memory (p.freePages.take n) } : Pool).setEntry number
    ⟨.filling, p.freePages.take n, .sampler, false⟩ with inProgress := none }

section
variable {p : Pool} {n number : Nat}

theorem Pool.allocated_entry_self (h : 1 ≤ number ∧ number ≤ 40) :
    (p.allocated n number).entry number = ⟨.filling, p.freePages.take n, .sampler, false⟩ := by
  rw [Pool.allocated, Pool.grant_entry]
  exact Pool.entry_setEntry_self _ _ h

theorem Pool.allocated_entry_other {m : Nat} (h : m ≠ number) : (p.allocated n number).entry m = p.entry m := by
  rw [Pool.allocated, Pool.grant_entry]
  exact Pool.entry_setEntry_other _ _ h

theorem Pool.allocated_resultQueue : (p.allocated n number).resultQueue = p.resultQueue := by
  rw [Pool.allocated, Pool.grant_eq]
  simp

theorem Pool.allocated_memory : (p.allocated n number).memory = memZero p.memory (p.freePages.take n) := by
  rw [Pool.allocated, (Pool.grant_kept _).1]
  simp

theorem Pool.allocated_pagesOk (hp : p.pagesOk) (h : 1 ≤ number ∧ number ≤ 40) : (p.allocated n number).pagesOk := by
  refine Pool.pagesOk_iff.mpr fun m q hq => ?_
  by_cases hm : m = number
  · rw [hm, Pool.allocated_entry_self h] at hq
    exact Pool.freePages_range (List.mem_of_mem_take hq)
  · rw [Pool.allocated_entry_other hm] at hq
    exact Pool.pagesOk_iff.mp hp m q hq

end

/-! ## An allocation that completes at an ended list (R31, R38, R123) -/

section
variable {s : State} {f : Frame} {n : Nat}

/-- The end of a frame whose allocation completes: the outcome of the allocation is in the pool `p`, the result `res`
and the count `dropped`. -/
theorem exec_allocationComplete_ends {p : Pool} {res : ResultBuffer} {dropped : Nat} (ht : s.taking)
    (hphase : f.phase = .ended) (hk : f.kind = .normal) (hh : f.halted = false) (htrap : f.trapped = false)
    (hstop : ∀ m, s.seq.slot ≠ some (.stop m)) (hd : s.seq.startDue = false)
    (hi : s.pool.inProgress = some (.sampler, n)) (hres : res ≠ .asked)
    (hengine : s.chain.engine.isSome = true ∨ s.chain.noRequest ∧ s.chain.breakDue = false)
    (hdone : s.completeAllocation .sampler n = { s with pool := p, seq := { s.seq with
      droppedFrames := dropped, frame := some { f with result := res } } }) :
    ∃ t, exec .allocationComplete s = .next t ∧
      t.seq = { s.seq with frame := none, sampler := .waiting, droppedFrames := dropped } ∧
      t.transit.alerts = s.transit.alerts ++ s.nodeAlerts t ∧
      t.pool = { p.withResult res (s.resultBytes f) with updateCount := t.pool.updateCount } ∧
      SameExcept [.pool, .chain, .seq, .transit] s t := by
  obtain ⟨v, hv⟩ : ∃ v, v = s.completeAllocation .sampler n := ⟨_, rfl⟩
  rw [← hv] at hdone
  have hbytes : v.resultBytes { f with result := res } = s.resultBytes f :=
    State.resultBytes_congr (by rw [hdone]) (by rw [hdone]) (by rw [hdone]) (by rw [hdone]) rfl
  obtain ⟨T, hT⟩ : ∃ T, T = (v.frameEnded { f with result := res }).onSeq fun q => { q with sampler := .waiting } :=
    ⟨_, rfl⟩
  have hend : v.endFrame { f with result := res } = T := by
    rw [hT, State.endFrame_eq (by simp [hk])]
    exact State.samplerAfter_waiting hk (by rw [hdone]; exact hstop) hh htrap (by rw [hdone]; exact hd)
  have hstep : v.settleStep = some T := by
    have hframe : v.seq.frame = some { f with result := res } := by rw [hdone]
    rw [State.settleStep, hframe, ← hend]
    exact (if_neg (by simp [hphase])).trans (if_pos ⟨hphase, hres⟩)
  have hidle : T.workIdle := by
    have hchain : v.chain = s.chain := by rw [hdone]
    have hTchain : T.chain = (v.frameEnded { f with result := res }).chain := by rw [hT]; rfl
    refine ⟨by simp [State.listIdle, hT, State.frameEnded], ?_⟩
    rw [hTchain]
    exact State.frameEnded_workIdle (s := v) { f with result := res } (by rw [hchain]; exact hengine)
  have hexec : exec .allocationComplete s = .next (T.publish s) := by
    rw [show exec .allocationComplete s = execAllocationComplete s from rfl, execAllocationComplete,
      State.event_taking _ ht, hi]
    change Host.Outcome.next ((s.completeAllocation .sampler n).settle.publish s) = _
    rw [← hv, State.settle_of_one hstep (State.settleStep_of_workIdle hidle)]
  have hends : v.endsNodes (T.publish s) :=
    State.frameEnded_endsNodes (f := { f with result := res }) (fun m _ _ => by rw [State.publish_chain, hT]; rfl)
      (by rw [State.publish_transitAlerts, hT]; rfl) (by rw [State.publish_nodeLosses, hT]; rfl)
  refine ⟨T.publish s, hexec, ?_, ?_, ?_, ?_⟩
  · rw [State.publish_seq, hT, hdone]
    rfl
  · exact (hends.of_before (s' := s) (fun _ => by rw [hdone]) (by rw [hdone]; rfl) (by rw [hdone]) (by rw [hdone])).2.1
  · rw [State.publish_eq, hT, ← hbytes, hdone]
    rfl
  · refine SameExcept.publish_transit ?_ (by simp) (by simp)
    rw [hT, hdone]
    simp [sameExcept_iff, State.frameEnded]

/-- The allocation has failed: the frame's result is dropped. -/
theorem State.completeAllocation_fails {reason : AllocReason} (hf : s.seq.frame = some f)
    (h : s.pool.allocFailure .sampler n s.profile.alertReserve = some reason) :
    s.completeAllocation .sampler n = { s with
      pool := Pool.grant { s.pool with inProgress := none }
      seq := { s.seq with
        droppedFrames := min 65535 (s.seq.droppedFrames + 1), frame := some { f with result := .dropped } } } := by
  simp only [State.completeAllocation, h, State.resultAllocated, State.onFrame, State.onSeq, State.onPool, hf]
  rfl

/-- The allocation has succeeded: the frame holds the buffer created. -/
theorem State.completeAllocation_creates {number : Nat} (hf : s.seq.frame = some f)
    (h : s.pool.allocFailure .sampler n s.profile.alertReserve = none) (hn : s.pool.freeNumbers.head? = some number) :
    s.completeAllocation .sampler n = { s with
      pool := s.pool.allocated n number
      seq := { s.seq with
        droppedFrames := s.seq.droppedFrames, frame := some { f with result := .granted number } } } := by
  obtain ⟨h1, h2⟩ := Pool.create_sampler (n := n) hn
  simp only [State.completeAllocation, h, State.resultAllocated, State.onFrame, State.onSeq, State.onPool, hf,
    Option.isNone_none, if_true, h1, h2]
  rfl

/-- An allocation that completes at an ended list ends the frame too. -/
theorem exec_allocationComplete_frameEnds (ht : s.taking) (hm : s.memoryOk) (hf : s.seq.frame = some f)
    (hphase : f.phase = .ended) (hk : f.kind = .normal) (hh : f.halted = false) (htrap : f.trapped = false)
    (hstop : ∀ m, s.seq.slot ≠ some (.stop m)) (hd : s.seq.startDue = false)
    (hi : s.pool.inProgress = some (.sampler, n))
    (hengine : s.chain.engine.isSome = true ∨ s.chain.noRequest ∧ s.chain.breakDue = false)
    (hlen : (s.resultBytes f).length ≤ 256 * n) :
    ∃ t, exec .allocationComplete s = .next t ∧ t.seq = { s.seq with
        frame := none, sampler := .waiting, droppedFrames := t.seq.droppedFrames } ∧
      t.transit.alerts = s.transit.alerts ++ s.nodeAlerts t ∧
      (∀ reason, s.pool.allocFailure .sampler n s.profile.alertReserve = some reason →
        t.seq.droppedFrames = min 65535 (s.seq.droppedFrames + 1) ∧ t.pool.resultQueue = s.pool.resultQueue ∧
        t.pool.table = s.pool.table) ∧
      (s.pool.allocFailure .sampler n s.profile.alertReserve = none → ∃ number,
        s.pool.freeNumbers.head? = some number ∧ t.seq.droppedFrames = s.seq.droppedFrames ∧
        t.pool.resultQueue = s.pool.resultQueue ++ [number] ∧
        t.pool.entry number = ⟨.resultQueued, s.pool.freePages.take n, .sampler, false⟩ ∧
        ∀ i, i < (s.resultBytes f).length → t.pool.readBuffer number i = ((s.resultBytes f)[i]?).getD 0) ∧
      SameExcept [.pool, .chain, .seq, .transit] s t := by
  cases hfail : s.pool.allocFailure .sampler n s.profile.alertReserve with
  | some reason =>
    obtain ⟨t, hx, hts, halerts, hpool, hsame⟩ := exec_allocationComplete_ends ht hphase hk hh htrap hstop hd hi
      (by simp) hengine (State.completeAllocation_fails hf hfail)
    obtain ⟨-, htable, hqueue, -⟩ := Pool.grant_kept { s.pool with inProgress := none }
    refine ⟨t, hx, by rw [hts], halerts, fun _ _ => ⟨by rw [hts], ?_, ?_⟩, by simp, hsame⟩
    · rw [hpool]
      exact hqueue
    · rw [hpool]
      exact htable
  | none =>
    obtain ⟨hnumbers, hpages⟩ := Pool.allocFailure_none hfail
    obtain ⟨number, hn⟩ : ∃ number, s.pool.freeNumbers.head? = some number := by
      cases hl : s.pool.freeNumbers with
      | nil => simp [hl] at hnumbers
      | cons x l => exact ⟨x, rfl⟩
    have hrange := Pool.freeNumbers_range (List.mem_of_head? hn)
    obtain ⟨t, hx, hts, halerts, hpool, hsame⟩ := exec_allocationComplete_ends ht hphase hk hh htrap hstop hd hi
      (by simp) hengine (State.completeAllocation_creates hf hfail hn)
    have hself := Pool.allocated_entry_self (p := s.pool) (n := n) hrange
    have hlength : (s.pool.freePages.take n).length = n := by
      rw [List.length_take]
      omega
    have hsound : (s.pool.allocated n number).sound number := by
      rw [Pool.sound, hself]
      refine ⟨fun hnil => ?_, s.pool.freePages_nodup.sublist (List.take_sublist _ _)⟩
      have hheader : 64 ≤ (s.resultBytes f).length := by
        rw [State.resultBytes, List.length_append, List.length_append, State.resultHeader_length]
        omega
      have hzero : (s.pool.freePages.take n).length = 0 := by rw [show s.pool.freePages.take n = [] from hnil]; rfl
      omega
    obtain ⟨hentry, hbytes⟩ := Pool.withResult_written (p := s.pool.allocated n number) (n := number)
      (bytes := s.resultBytes f) (by rw [Pool.allocated_memory]; exact memZero_wf _ hm.1)
      (Pool.allocated_pagesOk hm.2.1 hrange) hsound
      (by rw [hself, BufferEntry.capacity, hlength]; exact hlen)
    refine ⟨t, hx, by rw [hts], halerts, by simp, fun _ => ⟨number, hn, by rw [hts], ?_, ?_, fun i hi => ?_⟩, hsame⟩
    · rw [hpool]
      exact (Pool.withResult_queue _ _ _).trans (by rw [Pool.allocated_resultQueue])
    · rw [hpool]
      exact hentry.trans (by rw [hself])
    · rw [hpool]
      exact hbytes i hi

end

end Sys2Proof.Machine

namespace Sys2Proof.Machine

open Sys2Proof

/-! ## What a frame start reads of the slots (R28, R31) -/

/-- A write into a buffer leaves the memory below the pool pages. -/
theorem Pool.memRead_writeBuffer_low {p : Pool} {n : Nat} (hp : ∀ q ∈ (p.entry n).pages, 4 ≤ q) (o : Nat)
    (bs : List Byte) {a : Nat} (ha : a < 1024) :
    memRead (p.writeBuffer n o bs).memory a = memRead p.memory a := by
  induction bs generalizing p o with
  | nil => rfl
  | cons b bs ih =>
    rw [Pool.writeBuffer, ih (by simpa using hp)]
    unfold Pool.writeByte
    cases hc : (p.entry n).address o with
    | none => rfl
    | some c =>
      simp only [BufferEntry.address, Option.map_eq_some_iff] at hc
      obtain ⟨q, hq, rfl⟩ := hc
      have := hp q (List.mem_of_getElem? hq)
      exact memRead_memWrite_other b (by omega)

theorem Pool.pagesOk.le {p : Pool} (h : p.pagesOk) (n : Nat) : ∀ q ∈ (p.entry n).pages, 4 ≤ q :=
  fun q hq => (Pool.pagesOk_iff.mp h n q hq).1

theorem Pool.memRead_withResult_low {p : Pool} (hp : p.pagesOk) (r : ResultBuffer) (bytes : List Byte) {a : Nat}
    (ha : a < 1024) : memRead (p.withResult r bytes).memory a = memRead p.memory a := by
  cases r with
  | granted n =>
    rw [Pool.withResult, Pool.queueResult_memory]
    exact Pool.memRead_writeBuffer_low (hp.le n) 0 bytes ha
  | _ => rfl

theorem State.memRead_complete_low {s : State} (hp : s.pool.pagesOk) (n : Nat) (code : Completion) (detail : Word)
    {a : Nat} (ha : a < 1024) : memRead (s.complete n code detail).pool.memory a = memRead s.pool.memory a := by
  have hmem : (s.complete n code detail).pool.memory =
      (s.pool.completed n [] (completionHeader s code detail false false)).memory := by
    rw [State.complete_eq]
    dsimp only
    split <;> simp
  rw [hmem, Pool.completed, Pool.memRead_writeBuffer_low (by simpa using hp.le n) _ _ ha,
    Pool.memRead_writeBuffer_low (hp.le n) _ _ ha]

/-- An element inside a slot is read below the pool pages. -/
theorem State.elementBytes_congr {s s' : State}
    (h : ∀ a, a < 1024 → memRead s'.pool.memory a = memRead s.pool.memory a) (slot : Slot) {index : Nat}
    (hi : index ≤ 31) : s'.elementBytes slot index = s.elementBytes slot index := by
  refine List.map_congr_left fun i hm => h _ ?_
  have := List.mem_range.mp hm
  cases slot <;> simp only [slotBase] <;> omega

theorem State.elementsOf_eq {s s' : State}
    (h : ∀ a, a < 1024 → memRead s'.pool.memory a = memRead s.pool.memory a) (slot : Slot) (first : Nat) {last : Nat}
    (hl : last ≤ 31) : s'.elementsOf slot first last = (s.rangeBytes slot first last).map elementOf := by
  rw [State.elementsOf, State.rangeBytes, List.map_map]
  refine List.map_congr_left fun i hm => ?_
  have := List.mem_range'_1.mp hm
  rw [Function.comp_apply, State.elementBytes_congr h slot (by omega)]

theorem stopAreaOf_map (range : List (List Byte)) : stopAreaOf (range.map elementOf) = stopAreaBytes range := by
  rw [stopAreaOf, stopAreaBytes, List.filter_map, List.length_map]
  rfl

theorem map_filter_eq_filterMap {α β : Type} (p : α → Bool) (g : α → β) (l : List α) :
    (l.filter p).map g = l.filterMap fun a => if p a then some (g a) else none := by
  induction l with
  | nil => rfl
  | cons a l ih =>
    cases h : p a <;> simp [h, ih]

/-- The node records are sized by the entries' states and counts. -/
theorem State.resultNodesOf_eq {s s' : State}
    (h : ∀ m, 1 ≤ m → m ≤ 20 → ((s'.chain.node m).state = .absent ↔ (s.chain.node m).state = .absent) ∧
      (s'.chain.node m).cells = (s.chain.node m).cells ∧ (s'.chain.node m).temps = (s.chain.node m).temps)
    (range : List (List Byte)) : s'.resultNodesOf (range.map elementOf) = s.sizedNodes range := by
  rw [State.resultNodesOf, map_filter_eq_filterMap]
  refine List.filterMap_congr fun m hm => ?_
  have hm := List.mem_range'_1.mp hm
  obtain ⟨hstate, hcells, htemps⟩ := h m hm.1 (by omega)
  have hgathers (b : List Byte) : (elementOf b).gathers m =
      (u8 b 0 == 2 && decide (u8 b 2 ≤ m ∧ m ≤ u8 b 3)) := by
    rw [Bool.eq_iff_iff, Element.gathers, decide_eq_true_eq, Bool.and_eq_true, beq_iff_eq, decide_eq_true_eq]
    rfl
  have hany (q : Element → Bool) : (range.map elementOf).any (fun e => e.gathers m && q e) =
      (range.filter fun b => u8 b 0 == 2 && decide (u8 b 2 ≤ m ∧ m ≤ u8 b 3)).any fun b => q (elementOf b) := by
    rw [List.any_map, List.any_filter]
    exact congrArg (range.any ·) (funext fun b => by rw [Function.comp_apply, hgathers])
  have hnone : (range.filter fun b => u8 b 0 == 2 && decide (u8 b 2 ≤ m ∧ m ≤ u8 b 3)) = [] ↔
      (range.map elementOf).any (·.gathers m) = false := by
    have h := hany fun _ => true
    simp only [Bool.and_true] at h
    rw [h]
    cases range.filter fun b => u8 b 0 == 2 && decide (u8 b 2 ≤ m ∧ m ≤ u8 b 3) <;> simp
  have hcond : ((s'.chain.node m).state != .absent && (range.map elementOf).any (·.gathers m)) = true ↔
      ¬ ((range.filter fun b => u8 b 0 == 2 && decide (u8 b 2 ≤ m ∧ m ≤ u8 b 3)) = [] ∨
        (s.chain.node m).state = .absent) := by
    rw [hnone, ← hstate]
    simp [and_comm]
  dsimp only
  by_cases hc : ((s'.chain.node m).state != .absent && (range.map elementOf).any (·.gathers m)) = true
  · rw [if_pos hc, if_neg (hcond.mp hc), hany Element.hasCells, hany Element.hasTemps, hcells, htemps]
    rfl
  · rw [if_neg hc, if_pos (not_not.mp fun h => hc (hcond.mpr h))]

/-! ## The frame start of the sampler (R30, R31, R43) -/

/-- The sequencer with a pending switch taken. -/
def Sequencer.switched (q : Sequencer) : Sequencer :=
  match q.pendingSwitch with
  | none => q
  | some w => { q with
    activeSlot := some w.slot, first := w.first, last := w.last, pendingSwitch := none
    slot := match q.slot with | some (.select _) => none | x => x }

/-- The buffer of the SELECT_LIST that a taken switch completes. -/
def Sequencer.switchedOrder (q : Sequencer) : Option Nat :=
  match q.pendingSwitch, q.slot with
  | some _, some (.select n) => some n
  | _, _ => none

theorem State.takeSwitch_eq (s : State) : s.takeSwitch =
    { (match s.seq.switchedOrder with
        | some n => s.complete n .ok (BitVec.ofNat 32 s.seq.frameNumber.toNat)
        | none => s) with seq := s.seq.switched } := by
  unfold State.takeSwitch Sequencer.switchedOrder Sequencer.switched
  cases hp : s.seq.pendingSwitch with
  | none => rfl
  | some w =>
    cases hs : s.seq.slot with
    | none => simp [State.onSeq, hs]
    | some o =>
      cases o with
      | select n =>
        simp only [State.onSeq_seq, hs, packDetail_half s.seq.frameNumber.isLt]
        rfl
      | _ => simp [State.onSeq, hs]

end Sys2Proof.Machine

namespace Sys2Proof.Machine

open Sys2Proof

/-! ## A late start behind a frame (R30, R39, R43) -/

/-- A completion reads the pool and pack time alone. -/
theorem State.complete_pool_congr {s s' : State} (hpool : s'.pool = s.pool) (hclock : s'.clock = s.clock) (n : Nat)
    (code : Completion) (detail : Word) : (s'.complete n code detail).pool = (s.complete n code detail).pool := by
  have hquiet : s'.quiet n = s.quiet n := by rw [State.quiet, State.quiet, State.orderByte, State.orderByte, hpool]
  have hheader : completionHeader s' code detail false false = completionHeader s code detail false false := by
    rw [completionHeader, completionHeader, State.now, State.now, hclock]
  rw [State.complete_eq, State.complete_eq, hquiet, hheader, hpool]

/-- The sequencer of a late start, before a pending switch is taken. -/
def State.lateSeq (s : State) (r : Nat) : Sequencer := { (s.elapse r).seq with
  overruns := satAdd 65535 (s.elapse r).seq.overruns 1
  frameNumber := (s.elapse r).seq.frameNumber + 1
  tag := ((s.elapse r).seq.frameNumber + 1).setWidth 8
  frameStart := (s.elapse r).now
  frame := none, elementTimer := none, repollTimer := none }

/-- The state in which a late start has taken the pending switch. -/
def State.lateTaken (s : State) (f : Frame) (r : Nat) : State :=
  (((s.waitEnded f r).frameEnded f.afterLast).onSeq fun q => { q with overruns := satAdd 65535 q.overruns 1
    }).frameStartCommon.takeSwitch

/-- The pool of that state: the frame's result, and the SELECT_LIST that the switch completes. -/
def State.latePool (s : State) (f : Frame) (r : Nat) : Pool :=
  match (s.lateSeq r).switchedOrder with
  | some n => (((s.waitEnded f r).frameEnded f.afterLast).complete n .ok
      (BitVec.ofNat 32 (s.seq.frameNumber + 1).toNat)).pool
  | none => ((s.waitEnded f r).frameEnded f.afterLast).pool

theorem State.lateTaken_eq (s : State) (f : Frame) (r : Nat) : s.lateTaken f r =
    { (s.waitEnded f r).frameEnded f.afterLast with
      chain := ((s.waitEnded f r).frameEnded f.afterLast).chain.clearMarks
      table := .reset
      pool := s.latePool f r
      seq := (s.lateSeq r).switched } := by
  obtain ⟨X, hX⟩ : ∃ X, X = (s.waitEnded f r).frameEnded f.afterLast := ⟨_, rfl⟩
  have hXseq : X.seq = { (s.elapse r).seq with elementTimer := none, frame := none } := by rw [hX, State.waitEnded_seq]
  have hXnow : X.now = (s.elapse r).now := by rw [hX]; rfl
  have hseq : ((X.onSeq fun q => { q with overruns := satAdd 65535 q.overruns 1 }).frameStartCommon).seq =
      s.lateSeq r := by
    have hcommon : ((X.onSeq fun q => { q with overruns := satAdd 65535 q.overruns 1 }).frameStartCommon).seq =
        { X.seq with
          overruns := satAdd 65535 X.seq.overruns 1
          frameNumber := X.seq.frameNumber + 1
          tag := (X.seq.frameNumber + 1).setWidth 8
          frameStart := X.now, elementTimer := none, repollTimer := none } := rfl
    rw [hcommon, hXseq, hXnow, State.lateSeq]
  have hnumber : (s.lateSeq r).frameNumber = s.seq.frameNumber + 1 := by simp [State.lateSeq]
  rw [State.lateTaken, State.latePool, ← hX, State.takeSwitch_eq, hseq, hnumber]
  obtain ⟨C, hC⟩ : ∃ C, C = (X.onSeq fun q => { q with overruns := satAdd 65535 q.overruns 1 }).frameStartCommon :=
    ⟨_, rfl⟩
  have hform : C = { X with chain := X.chain.clearMarks, table := .reset, seq := C.seq } := by
    rw [hC]
    rfl
  have hpool (n : Nat) (d : Word) : (C.complete n .ok d).pool = (X.complete n .ok d).pool :=
    State.complete_pool_congr (by rw [hform]) (by rw [hform]) n .ok d
  rw [← hC]
  cases (s.lateSeq r).switchedOrder with
  | none =>
    dsimp only
    rw [hform]
  | some n =>
    dsimp only
    rw [← hpool, hform]
    rfl

/-- A frame start of the range that the sequencer then has (R30, R31). -/
theorem State.frameStart_eq {s b : State} {slot : Slot} {first last : Nat} {range : List (List Byte)}
    {nodes : List ResultNode} (hb : s.frameStartCommon.takeSwitch = b) (hslot : b.seq.activeSlot = some slot)
    (hfirst : b.seq.first = first) (hlast : b.seq.last = last)
    (hrange : b.elementsOf slot first last = range.map elementOf)
    (hnodes : b.resultNodesOf (range.map elementOf) = nodes) (late : Bool) :
    s.frameStart .normal late = { b with
      seq := { b.seq with
        sampler := .running
        frameTimer := some (1000 * b.seq.period)
        startDue := false
        frame := some (.start .normal slot first last late (stopAreaBytes range) nodes) }
      pool := Pool.grant { b.pool with
        waitingSampler := some ((64 + stopAreaBytes range + (nodes.map recordSize).sum + 255) / 256) } } := by
  rw [State.frameStart, hb]
  simp only [hslot, Option.getD_some, hfirst, hlast, hrange, hnodes, stopAreaOf_map, State.onSeq, if_true]
  rfl

/-- The first element of a range that is a legal CONVERT asks for its frame (R32). -/
theorem State.runElement_convert {s : State} {f : Frame} {g : Group} (hl : f.index ≤ f.last)
    (hkind : (s.element f.slot f.index).kind = 1) (htrap : (s.element f.slot f.index).trapReason = 0)
    (hg : groupOf (s.element f.slot f.index).group = some g) :
    s.runElement f = (s.requestChain (.convert s.seq.tag g)).onFrame fun f => { f with phase := .converting } := by
  rw [State.runElement, if_neg (by omega)]
  dsimp only
  rw [if_neg (by simpa using htrap), hkind, hg]
  rfl

/-- The state behind a late start whose first element is a CONVERT of group `g`. -/
def State.lateStarted (s : State) (f : Frame) (r : Nat) (slot : Slot) (first last : Nat) (g : Group) : State :=
  let range := s.rangeBytes slot first last
  let nodes := s.sizedNodes range
  { (s.waitEnded f r).frameEnded f.afterLast with
    chain := { ((s.waitEnded f r).frameEnded f.afterLast).chain.clearMarks with
      seqRequest := some (.convert ((s.seq.frameNumber + 1).setWidth 8) g) }
    table := .reset
    pool := Pool.grant { s.latePool f r with
      waitingSampler := some ((64 + stopAreaBytes range + (nodes.map recordSize).sum + 255) / 256) }
    seq := { (s.lateSeq r).switched with
      sampler := .running
      frameTimer := some (1000 * s.seq.period)
      startDue := false
      frame := some { Frame.start .normal slot first last true (stopAreaBytes range) nodes with
        phase := .converting } } }

/-- A node is ABSENT behind a frame's end exactly where it was, with the counts that it had. -/
theorem NodeEntry.frameEnd_counts (e : NodeEntry) (frame : Half) (threshold : Nat) :
    ((e.frameEnd frame threshold).state = .absent ↔ e.state = .absent) ∧
      (e.frameEnd frame threshold).cells = e.cells ∧ (e.frameEnd frame threshold).temps = e.temps := by
  rw [NodeEntry.frameEnd_eq]
  split_ifs <;> simp_all

theorem Chain.node_clearMarks (c : Chain) {m : Nat} (h : 1 ≤ m ∧ m ≤ 20) :
    c.clearMarks.node m = { c.node m with failedMark := false } := Chain.node_mapNodes _ _ h

theorem NodeEntry.frameEnd_mark (e : NodeEntry) (frame : Half) (threshold : Nat) :
    { e.frameEnd frame threshold with failedMark := false } = e.frameEnd frame threshold := by
  rw [NodeEntry.frameEnd_eq]
  split_ifs <;> simp_all

/-- What is read of the slots is the same behind the frame's end and the switch. -/
theorem State.latePool_low {s : State} {f : Frame} {r : Nat} (hm : s.memoryOk) {a : Nat} (ha : a < 1024) :
    memRead (s.latePool f r).memory a = memRead s.pool.memory a := by
  obtain ⟨X, hX⟩ : ∃ X, X = (s.waitEnded f r).frameEnded f.afterLast := ⟨_, rfl⟩
  have hXpool : X.pool = s.pool.withResult f.result (s.resultBytes f) := by rw [hX, State.waitEnded_pool]
  have hlow : memRead X.pool.memory a = memRead s.pool.memory a := by
    rw [hXpool]
    exact Pool.memRead_withResult_low hm.2.1 _ _ ha
  have hpages : X.pool.pagesOk := by
    rw [hXpool]
    exact (Pool.withResult_memoryOk hm.1 hm.2.1 _ _).2
  rw [State.latePool, ← hX]
  cases (s.lateSeq r).switchedOrder with
  | none => exact hlow
  | some n => exact (State.memRead_complete_low hpages _ _ _ ha).trans hlow

theorem State.frameEnded_engine (s : State) (f : Frame) : (s.frameEnded f).chain.engine = s.chain.engine := by
  unfold State.frameEnded
  dsimp only
  split <;> rfl

/-- A switch taken keeps the period, the count of overruns, and the frame's number, tag and time. -/
theorem Sequencer.switched_kept (q : Sequencer) : q.switched.period = q.period ∧
    q.switched.frameNumber = q.frameNumber ∧ q.switched.tag = q.tag ∧ q.switched.overruns = q.overruns ∧
    q.switched.frameStart = q.frameStart := by
  unfold Sequencer.switched
  cases q.pendingSwitch <;> simp

/-- The sequencer of a late start with the switch taken has the slot and range that run next (R30). -/
theorem State.lateSeq_runsNext {s : State} {r : Nat} {slot : Slot} {first last : Nat} (h : s.runsNext slot first last) :
    (s.lateSeq r).switched.activeSlot = some slot ∧ (s.lateSeq r).switched.first = first ∧
      (s.lateSeq r).switched.last = last ∧ (s.lateSeq r).switched.pendingSwitch = none ∧
      (s.seq.pendingSwitch = none → (s.lateSeq r).switched.slot = s.seq.slot) := by
  have hpending : (s.lateSeq r).pendingSwitch = s.seq.pendingSwitch := s.elapse_pendingSwitch r
  unfold Sequencer.switched
  rcases h with ⟨hp, -⟩ | ⟨hp, hslot, hfirst, hlast⟩
  · rw [hpending, hp]
    simp
  · rw [hpending, hp]
    simp [State.lateSeq, hslot, hfirst, hlast, hp]

/-- The expiry of a WAIT at the last index with a start due: the next frame starts late. The range of that frame lies in
its slot, so what the frame's end writes into the pool pages does not reach its elements. -/
theorem exec_waitExpiry_lateStarted {s : State} {f : Frame} {r : Nat} {slot : Slot} {first last : Nat} {g : Group}
    (h : s.waits f r) (hl : f.index = f.last) (hres : f.result ≠ .asked) (hm : s.memoryOk) (hk : f.kind = .normal)
    (hstop : ∀ m, s.seq.slot ≠ some (.stop m)) (hd : s.seq.startDue = true) (hh : f.halted = false)
    (htrap : f.trapped = false) (he : s.chain.engine.isSome = true) (hruns : s.runsNext slot first last)
    (hrange : first ≤ last) (hlast : last ≤ 31) (hkind : (s.element slot first).kind = 1)
    (hlegal : (s.element slot first).trapReason = 0) (hg : groupOf (s.element slot first).group = some g) :
    exec .waitExpiry s = .next ((s.lateStarted f r slot first last g).publish s) := by
  obtain ⟨X, hX⟩ : ∃ X, X = (s.waitEnded f r).frameEnded f.afterLast := ⟨_, rfl⟩
  have hXseq : X.seq = { (s.elapse r).seq with elementTimer := none, frame := none } := by rw [hX, State.waitEnded_seq]
  obtain ⟨b, hb⟩ : ∃ b, b = s.lateTaken f r := ⟨_, rfl⟩
  have hform := hb.trans (s.lateTaken_eq f r)
  rw [← hX] at hform
  have hbseq : b.seq = (s.lateSeq r).switched := by rw [hform]
  have hbpool : b.pool = s.latePool f r := by rw [hform]
  obtain ⟨hact, hfirst, hend, -⟩ := State.lateSeq_runsNext (r := r) hruns
  rw [← hbseq] at hact hfirst hend
  have hlow : ∀ a, a < 1024 → memRead b.pool.memory a = memRead s.pool.memory a := fun a ha => by
    rw [hbpool]
    exact State.latePool_low hm ha
  have hnode (m : Nat) (h1 : 1 ≤ m) (h20 : m ≤ 20) :
      b.chain.node m = (s.chain.node m).frameEnd s.seq.frameNumber s.profile.lossThreshold := by
    have hw : (s.waitEnded f r).chain.node m = s.chain.node m := s.elapse_node r m
    have hprofile : (s.waitEnded f r).profile = s.profile := s.elapse_profile r
    have hnumber : (s.waitEnded f r).seq.frameNumber = s.seq.frameNumber := s.elapse_frameNumber r
    rw [hform, Chain.node_clearMarks _ ⟨h1, h20⟩, hX, State.frameEnded_node _ _ h1 h20, hw, hprofile, hnumber,
      NodeEntry.frameEnd_mark]
  have hnodes : b.resultNodesOf ((s.rangeBytes slot first last).map elementOf) =
      s.sizedNodes (s.rangeBytes slot first last) :=
    State.resultNodesOf_eq (fun m h1 h20 => by rw [hnode m h1 h20]; exact NodeEntry.frameEnd_counts ..) _
  obtain ⟨F, hF⟩ : ∃ F, F = (X.onSeq fun q => { q with overruns := satAdd 65535 q.overruns 1 }).frameStart .normal true :=
    ⟨_, rfl⟩
  have hstart := hF.trans (State.frameStart_eq (by rw [hb, hX]; rfl) hact hfirst hend
    (State.elementsOf_eq hlow slot first hlast) hnodes true)
  have hafter : X.samplerAfter f.afterLast = F := by
    rw [hF]
    exact State.samplerAfter_late hk (by simpa [hXseq] using hstop) hh htrap (by simpa [hXseq] using hd)
  obtain ⟨fr, hfr⟩ : ∃ fr, fr = Frame.start .normal slot first last true (stopAreaBytes (s.rangeBytes slot first last))
    (s.sizedNodes (s.rangeBytes slot first last)) := ⟨_, rfl⟩
  have hframe : F.seq.frame = some fr := by rw [hstart, hfr]
  have helement : F.element slot first = s.element slot first := by
    have hmem : F.pool.memory = b.pool.memory := by
      rw [hstart]
      exact (Pool.grant_kept _).1
    rw [State.element, State.element, State.elementBytes_congr (s := s) (fun a ha => by rw [hmem, hlow a ha]) slot (by omega)]
  obtain ⟨hperiod, -, htag, -⟩ := (s.lateSeq r).switched_kept
  have hperiod : b.seq.period = s.seq.period := by
    rw [hbseq, hperiod]
    exact s.elapse_period r
  have htag : F.seq.tag = (s.seq.frameNumber + 1).setWidth 8 := by
    have hb' : b.seq.tag = (s.seq.frameNumber + 1).setWidth 8 := by
      rw [hbseq, htag]
      simp [State.lateSeq]
    rw [hstart]
    exact hb'
  have hrun : F.runElement fr = s.lateStarted f r slot first last g := by
    have hconvert := State.runElement_convert (s := F) (f := fr) (g := g) (by rw [hfr]; exact hrange)
      (by rw [hfr]; exact (congrArg Element.kind helement).trans hkind)
      (by rw [hfr]; exact (congrArg Element.trapReason helement).trans hlegal)
      (by rw [hfr]; exact (congrArg (fun e => groupOf e.group) helement).trans hg)
    rw [hconvert, htag, State.requestChain, State.onFrame, hstart, hperiod, hbseq, hbpool, hform, State.lateStarted, ← hX]
    rfl
  have hfirstStep : F.settleStep = some (s.lateStarted f r slot first last g) := by
    rw [State.settleStep, hframe, ← hrun]
    refine if_pos ⟨by rw [hfr]; rfl, ?_⟩
    rw [hstart, hform]
    rfl
  have hidle : (s.lateStarted f r slot first last g).workIdle := by
    refine ⟨by simp [State.listIdle, State.lateStarted], .inl ?_⟩
    have hengine : (s.lateStarted f r slot first last g).chain.engine = (s.waitEnded f r).chain.engine :=
      State.frameEnded_engine _ _
    rw [hengine]
    exact (congrArg Option.isSome (s.elapse_engine r)).trans he
  have hsettle : F.settleN 4094 = s.lateStarted f r slot first last g := by
    rw [State.settleN_of_some 4093 hfirstStep, State.settleN_of_none _ (State.settleStep_of_workIdle hidle)]
  rw [exec_waitExpiry_last h hl hres, State.endFrame_eq (f := f.afterLast) (by simp [Frame.afterLast, hk]), ← hX, hafter,
    hsettle]

/-! ### What the event of a late start leaves -/

theorem Pool.setEntry_requests (p : Pool) (n : Nat) (e : BufferEntry) :
    (p.setEntry n e).inProgress = p.inProgress ∧ (p.setEntry n e).waitingAlert = p.waitingAlert := by
  unfold Pool.setEntry
  split <;> exact ⟨rfl, rfl⟩

theorem Pool.withResult_requests (p : Pool) (r : ResultBuffer) (bytes : List Byte) :
    (p.withResult r bytes).inProgress = p.inProgress ∧ (p.withResult r bytes).waitingAlert = p.waitingAlert := by
  cases r with
  | granted n =>
    rw [Pool.withResult, Pool.writeBuffer_eq]
    exact Pool.setEntry_requests _ _ _
  | _ => exact ⟨rfl, rfl⟩

theorem State.complete_requests (s : State) (n : Nat) (code : Completion) (detail : Word) :
    (s.complete n code detail).pool.inProgress = s.pool.inProgress ∧
      (s.complete n code detail).pool.waitingAlert = s.pool.waitingAlert := by
  rw [State.complete_eq]
  dsimp only
  rw [Pool.completed_eq]
  split
  · exact Pool.setEntry_requests _ _ _
  · exact Pool.setEntry_requests _ _ _

section
variable {s t : State} {f : Frame} {r : Nat}

/-- Neither the result nor the switch's completion touches the requests for buffers. -/
theorem State.latePool_requests (s : State) (f : Frame) (r : Nat) :
    (s.latePool f r).inProgress = s.pool.inProgress ∧ (s.latePool f r).waitingAlert = s.pool.waitingAlert := by
  have hX := s.waitEnded_pool f r
  have hresult := s.pool.withResult_requests f.result (s.resultBytes f)
  rw [← hX] at hresult
  rw [State.latePool]
  cases (s.lateSeq r).switchedOrder with
  | none => exact hresult
  | some n =>
    obtain ⟨h1, h2⟩ := ((s.waitEnded f r).frameEnded f.afterLast).complete_requests n .ok
      (BitVec.ofNat 32 (s.seq.frameNumber + 1).toNat)
    exact ⟨h1.trans hresult.1, h2.trans hresult.2⟩

/-- A switch completes the SELECT_LIST in the sequencer's slot, and no other order. -/
theorem State.lateSeq_switchedOrder (s : State) (r : Nat) : (s.lateSeq r).switchedOrder = s.seq.switchedOrder := by
  have hp : (s.lateSeq r).pendingSwitch = s.seq.pendingSwitch := s.elapse_pendingSwitch r
  have hs : (s.lateSeq r).slot = s.seq.slot := s.elapse_seqSlot r
  rw [Sequencer.switchedOrder, Sequencer.switchedOrder, hp, hs]

theorem Sequencer.switchedOrder_some {q : Sequencer} {n : Nat} (h : q.switchedOrder = some n) :
    q.slot = some (.select n) := by
  unfold Sequencer.switchedOrder at h
  split at h
  · simp_all
  · simp at h

theorem Sequencer.switchedOrder_of_select {q : Sequencer} {n : Nat} (hp : q.pendingSwitch ≠ none)
    (hs : q.slot = some (.select n)) : q.switchedOrder = some n ∧ q.switched.slot = none := by
  obtain ⟨w, hw⟩ := Option.ne_none_iff_exists'.mp hp
  simp [Sequencer.switchedOrder, Sequencer.switched, hw, hs]

/-- The result of the frame before stands in its buffer behind a late start. -/
theorem State.late_resultWritten (hm : s.memoryOk)
    (hapart : ∀ m, s.seq.slot = some (.select m) → s.resultApart f m)
    (hpool : t.pool.sameBuffers (s.latePool f r)) : s.resultWritten t f := by
  rw [State.latePool, State.lateSeq_switchedOrder] at hpool
  cases ho : s.seq.switchedOrder with
  | none =>
    rw [ho] at hpool
    dsimp only at hpool
    rw [State.waitEnded_pool] at hpool
    exact State.resultWritten_of_pool hm hpool
  | some m =>
    rw [ho] at hpool
    exact State.resultWritten_of_complete hm (hapart m (Sequencer.switchedOrder_some ho)) hpool

/-- The switch's SELECT_LIST completes behind that result (R43). -/
theorem State.late_switched {slot : Slot} {first last : Nat} (hm : s.memoryOk)
    (hapart : ∀ m, s.seq.slot = some (.select m) → s.resultApart f m) (hruns : s.runsNext slot first last)
    (hclock : t.clock = (s.elapse r).clock) (hpool : t.pool.sameBuffers (s.latePool f r))
    (hseq : t.seq.activeSlot = (s.lateSeq r).switched.activeSlot ∧ t.seq.first = (s.lateSeq r).switched.first ∧
      t.seq.last = (s.lateSeq r).switched.last ∧ t.seq.pendingSwitch = (s.lateSeq r).switched.pendingSwitch ∧
      t.seq.slot = (s.lateSeq r).switched.slot) :
    s.switched ((s.elapse r).resultJoined f.result) t slot first last := by
  obtain ⟨hact, hfirst, hend, hpend, hslot⟩ := State.lateSeq_runsNext (r := r) hruns
  obtain ⟨q1, q2, q3, q4, q5⟩ := hseq
  refine ⟨q1.trans hact, q2.trans hfirst, q3.trans hend, q4.trans hpend, fun hp => q5.trans (hslot hp), ?_⟩
  intro n hp hs hn
  have hp' : (s.lateSeq r).pendingSwitch ≠ none := by
    rw [show (s.lateSeq r).pendingSwitch = s.seq.pendingSwitch from s.elapse_pendingSwitch r]
    exact hp
  have hs' : (s.lateSeq r).slot = some (.select n) := (s.elapse_seqSlot r).trans hs
  obtain ⟨ho, hnone⟩ := Sequencer.switchedOrder_of_select hp' hs'
  rw [State.latePool, ho] at hpool
  exact ⟨q5.trans hnone, State.completed_behind_result hm hn (hapart n hs) hclock hpool⟩

/-- With no SELECT_LIST pending the frame's result alone joins the Result Queue. -/
theorem State.late_resultQueue (hpool : t.pool.sameBuffers (s.latePool f r))
    (hselect : ∀ m, s.seq.slot ≠ some (.select m)) :
    t.pool.resultQueue = (s.resultJoined f.result).pool.resultQueue := by
  have ho : (s.lateSeq r).switchedOrder = none := by
    rw [State.lateSeq_switchedOrder]
    cases h : s.seq.switchedOrder with
    | none => rfl
    | some n => exact absurd (Sequencer.switchedOrder_some h) (hselect n)
  rw [hpool.resultQueue, State.latePool, ho]
  dsimp only
  rw [State.waitEnded_pool, Pool.withResult_queue]
  cases f.result <;> simp [State.resultJoined]

/-- The nodes behind a late start are those of the frame's end, whose marks are clear. -/
theorem State.late_endsNodes {old T : State} {slot : Slot} {first last : Nat} {g : Group}
    (hT : T = s.lateStarted f r slot first last g) : s.endsNodes (T.publish old) := by
  have hnode (m : Nat) (h1 : 1 ≤ m) (h20 : m ≤ 20) : T.chain.node m =
      ((s.waitEnded f r).frameEnded f.afterLast).chain.node m := by
    have hmarks := Chain.node_clearMarks ((s.waitEnded f r).frameEnded f.afterLast).chain ⟨h1, h20⟩
    rw [State.frameEnded_node _ _ h1 h20, NodeEntry.frameEnd_mark] at hmarks
    rw [hT, State.frameEnded_node _ _ h1 h20]
    exact hmarks
  have hends : (s.waitEnded f r).endsNodes (T.publish old) :=
    State.frameEnded_endsNodes (f := f.afterLast) (fun m h1 h20 => by rw [State.publish_chain, hnode m h1 h20])
      (by rw [State.publish_transitAlerts, hT]; rfl) (by rw [State.publish_nodeLosses, hT]; rfl)
  exact hends.of_before (fun n => (s.elapse_node r n).symm) (s.elapse_profile r).symm (s.elapse_frameNumber r).symm
    (s.elapse_transit r).symm

/-- A grant serves the sampler's request at once where no allocation is in progress and no alert waits (R122). -/
theorem Pool.grant_sampler {p : Pool} {n : Nat} (hp : p.waitingSampler = some n) :
    (p.inProgress = none → p.waitingAlert = false →
      p.grant.inProgress = some (.sampler, n) ∧ p.grant.waitingSampler = none) ∧
    (p.inProgress ≠ none → p.grant.inProgress = p.inProgress ∧ p.grant.waitingSampler = some n) := by
  constructor
  · intro hi ha
    simp [Pool.grant, hi, ha, hp]
  · intro hi
    obtain ⟨x, hx⟩ := Option.ne_none_iff_exists'.mp hi
    simp [Pool.grant, hx, hp]

/-- A late start sizes its result by the range and the Node Table (R31). -/
theorem State.late_frameSized {old T : State} {slot : Slot} {first last : Nat} {g : Group}
    (hT : T = s.lateStarted f r slot first last g) : s.frameSized (T.publish old) slot first last := by
  obtain ⟨hi, ha⟩ := s.latePool_requests f r
  obtain ⟨hfree, hbusy⟩ := Pool.grant_sampler (p := { s.latePool f r with
    waitingSampler := some ((64 + stopAreaBytes (s.rangeBytes slot first last) +
      ((s.sizedNodes (s.rangeBytes slot first last)).map recordSize).sum + 255) / 256) }) rfl
  have hprogress : (T.publish old).pool.inProgress = T.pool.inProgress := by rw [State.publish_eq]
  have hwaiting : (T.publish old).pool.waitingSampler = T.pool.waitingSampler := by rw [State.publish_eq]
  refine ⟨?_, fun hnone halert => ?_, fun hsome => ?_⟩
  · rw [State.publish_seq, hT]
    rfl
  · rw [hprogress, hwaiting, hT]
    exact hfree (hi.trans hnone) (ha.trans halert)
  · rw [hprogress, hwaiting, hT]
    obtain ⟨h1, h2⟩ := hbusy (fun h => hsome (hi.symm.trans h))
    exact ⟨h1.trans hi, h2⟩

end

/-- What a late start does, with its range inside its slot (R30, R31, R38, R39, R43). -/
theorem exec_waitExpiry_late {s : State} {f : Frame} {r : Nat} {slot : Slot} {first last : Nat} {g : Group}
    (h : s.waits f r) (hl : f.index = f.last) (hres : f.result = .dropped ∨ ∃ n, f.result = .granted n)
    (hm : s.memoryOk) (hapart : ∀ m, s.seq.slot = some (.select m) → s.resultApart f m) (hk : f.kind = .normal)
    (hstop : ¬ ∃ m, s.seq.slot = some (.stop m)) (hd : s.seq.startDue = true)
    (hhalts : ¬ (f.halted = true ∨ f.trapped = true)) (he : s.chain.engine.isSome = true)
    (hruns : s.runsNext slot first last) (hrange : first ≤ last) (hlast : last ≤ 31)
    (hkind : (s.element slot first).kind = 1) (hlegal : (s.element slot first).trapReason = 0)
    (hg : groupOf (s.element slot first).group = some g) :
    ∃ t, exec .waitExpiry s = .next t ∧ s.endsNodes t ∧ s.resultWritten t f ∧ t.seq.sampler = .running ∧
      s.switched ((s.elapse r).resultJoined f.result) t slot first last ∧ s.frameSized t slot first last ∧
      ((∀ m, s.seq.slot ≠ some (.select m)) →
        t.pool.resultQueue = (s.resultJoined f.result).pool.resultQueue) ∧
      t.seq.overruns = min 65535 (s.seq.overruns + 1) ∧ t.seq.frameNumber = s.seq.frameNumber + 1 ∧
      t.seq.frameStart = (s.elapse r).clock.packTime ∧ t.seq.frameTimer = some (1000 * s.seq.period) ∧
      t.seq.startDue = false ∧ t.seq.frame.map (fun f => (f.slot, f.first, f.last, f.index, f.phase, f.late)) =
        some (slot, first, last, first, .converting, true) ∧
      t.chain.seqRequest = some (.convert ((s.seq.frameNumber + 1).setWidth 8) g) ∧
      SameExcept [.pool, .chain, .seq, .table, .transit] (s.elapse r) t := by
  have hasked : f.result ≠ .asked := by
    rcases hres with h | ⟨n, h⟩ <;> simp [h]
  have hno : f.halted = false ∧ f.trapped = false := by simpa using hhalts
  have hstop' : ∀ m, s.seq.slot ≠ some (.stop m) := fun m hm => hstop ⟨m, hm⟩
  obtain ⟨T, hT⟩ : ∃ T, T = s.lateStarted f r slot first last g := ⟨_, rfl⟩
  have hexec := exec_waitExpiry_lateStarted h hl hasked hm hk hstop' hd hno.1 hno.2 he hruns hrange hlast hkind hlegal hg
  rw [← hT] at hexec
  obtain ⟨-, hnumber, -, hover, htime⟩ := (s.lateSeq r).switched_kept
  have hseq : (T.publish s).seq = T.seq := State.publish_seq ..
  have hbuffers : (T.publish s).pool.sameBuffers (s.latePool f r) := by
    obtain ⟨h1, h2, h3, h4⟩ := Pool.grant_kept { s.latePool f r with
      waitingSampler := some ((64 + stopAreaBytes (s.rangeBytes slot first last) +
        ((s.sizedNodes (s.rangeBytes slot first last)).map recordSize).sum + 255) / 256) }
    rw [State.publish_eq, hT]
    exact ⟨h1, h2, h3, h4⟩
  have hclock : (T.publish s).clock = (s.elapse r).clock := by
    rw [State.publish_clock, hT]
    rfl
  refine ⟨T.publish s, hexec, State.late_endsNodes hT, State.late_resultWritten hm hapart hbuffers, ?_,
    State.late_switched hm hapart hruns hclock hbuffers ?_, ?_, State.late_resultQueue hbuffers, ?_, ?_, ?_, ?_, ?_,
    ?_, ?_, ?_⟩
  · rw [hseq, hT]
    rfl
  · rw [hseq, hT]
    exact ⟨rfl, rfl, rfl, rfl, rfl⟩
  · exact State.late_frameSized hT
  · rw [hseq, hT]
    exact hover.trans (by simp [State.lateSeq, satAdd])
  · rw [hseq, hT]
    exact hnumber.trans (by simp [State.lateSeq])
  · rw [hseq, hT]
    exact htime
  · rw [hseq, hT]
    rfl
  · rw [hseq, hT]
    rfl
  · rw [hseq, hT]
    rfl
  · rw [State.publish_chain, hT]
    rfl
  · refine SameExcept.publish_transit ?_ (by simp) (by simp)
    rw [hT]
    simp [sameExcept_iff, State.lateStarted, State.frameEnded, State.waitEnded]

end Sys2Proof.Machine

namespace Sys2Proof.Machine

open Sys2Proof

/-! ## A late start whose range reaches into the pool pages

`Obligations.FramesEndWithTheirResult` sizes the result of a late start by the elements as they stood before the frame's
end. Its range has no bound: the indices past 31 of slot B name bytes of the pool pages, where the frame's end has just
written the result of the frame before. With the range inside its slot that clause holds (`exec_waitExpiry_late`), and
the others hold as they stand: the layout (`State.resultLaidOut_resultBytes`), the nodes (`State.endsNodes.updated`),
the sampler with no order to complete (`exec_waitExpiry_normal`), STOP_SAMPLING and SINGLE_FRAME
(`exec_waitExpiry_completes`), the aborted SELECT_LIST (`exec_waitExpiry_aborts`), and the allocation that completes at
an ended list (`exec_allocationComplete_frameEnds`). -/

/-- A frame that holds buffer 1, in the WAIT of its last index. -/
def overlongFrame : Frame :=
  { Frame.start .normal .slotA 0 0 false 0 [] with phase := .waiting, result := .granted 1 }

/-- The frame is number 7, and a start of slot B from index 0 to 64 is due; index 0 is a CONVERT. Index 64 stands at
address 1,024, the first byte of page 4, which is the page of buffer 1. -/
def overlongRange : State := { State.reset with
  chain := { Chain.reset false with engine := some ⟨.order, .keepalive, .a, .watching, 0, 120, 0, 0, .noError⟩ }
  pool := { State.reset.pool.setEntry 1 ⟨.filling, [4], .sampler, false⟩ with
    memory := [(512, 1), (516, 3), (519, 4)] }
  seq := { State.reset.seq with
    sampler := .running, frameNumber := 7, startDue := true, activeSlot := some .slotB, first := 0, last := 64
    period := 10, elementTimer := some 9, frame := some overlongFrame } }

theorem overlongRange_waits : overlongRange.waits overlongFrame 9 := by decide +kernel

theorem overlongRange_memoryOk : overlongRange.memoryOk := by decide +kernel

theorem overlongRange_convert : (overlongRange.element .slotB 0).kind = 1 ∧
    (overlongRange.element .slotB 0).trapReason = 0 ∧
    groupOf (overlongRange.element .slotB 0).group = some .both := by decide +kernel

/-- Before the frame's end no element of the range is a MARK or a HALT, so the range wants no stop-code area. -/
theorem overlongRange_stopArea : stopAreaBytes (overlongRange.rangeBytes .slotB 0 64) = 0 := by decide +kernel

/-- The stop-code area of the frame that runs behind an event. -/
def stopAreaAfter (c : Instr) (s : State) : Option Nat :=
  match exec c s with
  | .next t => Option.map Frame.stopArea (State.seq t).frame
  | _ => none

/-- The result's first byte is the frame's number, 7: index 64 is then a MARK, and the frame has an area of 4. -/
theorem overlongRange_sized : stopAreaAfter .waitExpiry overlongRange = some 4 := by decide +kernel

/-- Refutes O44: the late start behind frame 7 sizes its result by a MARK that the result of frame 7 has put at index 64,
where the statement sizes it by the bytes before. -/
theorem not_framesEndWithTheirResult : ¬ Obligations.FramesEndWithTheirResult := by
  unfold Obligations.FramesEndWithTheirResult
  rintro ⟨-, hends, -⟩
  obtain ⟨-, -, -, hlate⟩ :=
    hends overlongFrame 9 overlongRange overlongRange_waits rfl (.inl rfl) (.inr ⟨1, rfl⟩) overlongRange_memoryOk
  obtain ⟨hkind, htrap, hgroup⟩ := overlongRange_convert
  obtain ⟨t, hexec, -, -, -, -, hsized, -⟩ := hlate .slotB 0 64 .both nofun rfl nofun rfl (by decide)
    rfl (.inr ⟨rfl, rfl, rfl, rfl⟩) (by decide) hkind htrap hgroup
  obtain ⟨hframe, -⟩ := hsized
  have harea := overlongRange_sized
  rw [stopAreaAfter, hexec] at harea
  rw [overlongRange_stopArea] at hframe
  have hzero := congrArg (Option.map fun x => x.2.1) hframe
  rw [Option.map_map] at hzero
  exact absurd (harea.symm.trans hzero) (by decide)

end Sys2Proof.Machine

namespace Sys2Proof.Machine

open Sys2Proof

/-! ## A pending switch whose range reaches into the pool pages

`Obligations.SequencerTimersEnd` sizes the result of a frame start by the elements as they stood before the switch took
effect. Its range has no bound: an index past 31 of slot A can name bytes of the pool page in which the switch has just
completed its SELECT_LIST. -/

/-- A switch to slot A from index 0 to 97 is pending, ordered by buffer 1 on page 4; index 0 is a CONVERT. Index 97 stands
at address 1,032, which is the time field of that buffer's header. -/
def overlongSwitch : State := { State.reset with
  chain := { Chain.reset false with engine := some ⟨.order, .keepalive, .a, .watching, 0, 120, 0, 0, .noError⟩ }
  pool := { State.reset.pool.setEntry 1 ⟨.inService, [4], .link, false⟩ with
    memory := [(256, 1), (260, 3), (263, 4)] }
  seq := { State.reset.seq with
    sampler := .waiting, frameTimer := some 7, activeSlot := some .slotB, period := 10
    pendingSwitch := some ⟨.slotA, 0, 97⟩, slot := some (.select 1) } }

theorem overlongSwitch_memoryOk : overlongSwitch.memoryOk := by decide +kernel

theorem overlongSwitch_convert : (overlongSwitch.element .slotA 0).kind = 1 ∧
    (overlongSwitch.element .slotA 0).trapReason = 0 ∧
    groupOf (overlongSwitch.element .slotA 0).group = some .both := by decide +kernel

/-- Before the switch no element of the range is a MARK or a HALT, so the range wants no stop-code area. -/
theorem overlongSwitch_stopArea : stopAreaBytes (overlongSwitch.rangeBytes .slotA 0 97) = 0 := by decide +kernel

/-- SELECT_LIST completes at pack time 7: index 97 is then a MARK, and the frame has an area of 4. -/
theorem overlongSwitch_sized : stopAreaAfter .frameTimerExpiry overlongSwitch = some 4 := by decide +kernel

/-- Refutes O41: the frame start at pack time 7 sizes its result by a MARK that the completion of its SELECT_LIST has put
at index 97, where the statement sizes it by the bytes before. -/
theorem not_sequencerTimersEnd : ¬ Obligations.SequencerTimersEnd := by
  unfold Obligations.SequencerTimersEnd
  rintro ⟨hstart, -⟩
  obtain ⟨-, -, hswitch⟩ := hstart 7 overlongSwitch rfl rfl
  obtain ⟨hkind, htrap, hgroup⟩ := overlongSwitch_convert
  obtain ⟨t, hexec, -, -, -, -, -, -, -, -, ⟨hframe, -⟩, -⟩ := hswitch .slotA 0 97 .both rfl rfl
    (.inl ⟨rfl, overlongSwitch_memoryOk⟩) (by decide) hkind htrap hgroup
  have harea := overlongSwitch_sized
  rw [stopAreaAfter, hexec] at harea
  rw [overlongSwitch_stopArea] at hframe
  have hzero := congrArg (Option.map fun x => x.2.1) hframe
  rw [Option.map_map] at hzero
  exact absurd (harea.symm.trans hzero) (by decide)

end Sys2Proof.Machine

namespace Sys2Proof.Machine

open Sys2Proof

/-! ## The write-behind byte (R136) -/

/-- Exchange memory once the write-behind byte `w` has been stored at its target, or lost. -/
def State.memoryStored (s : State) (w : WriteBehind) : List Host.Cell :=
  match s.storeAddress w with
  | some a => memWrite s.pool.memory a w.value
  | none => s.pool.memory

theorem State.memRead_stored_self {s : State} (hm : s.memoryOk) {w : WriteBehind} {a : Nat}
    (ha : s.storeAddress w = some a) : memRead (s.memoryStored w) a = w.value := by
  rw [State.memoryStored, ha]
  exact memRead_memWrite_self hm.1 a w.value

theorem State.memRead_stored_other {s : State} {w : WriteBehind} {a : Nat} (ha : s.storeAddress w = some a) {b : Nat}
    (hb : b ≠ a) : memRead (s.memoryStored w) b = memRead s.pool.memory b := by
  rw [State.memoryStored, ha]
  exact memRead_memWrite_other w.value hb

theorem State.memoryStored_lost {s : State} {w : WriteBehind} (h : s.storeAddress w = none) :
    s.memoryStored w = s.pool.memory := by
  rw [State.memoryStored, h]

/-- The storing changes memory, the byte held and ACCESS_FAULT alone. -/
theorem State.storeWriteBehind_some {s : State} {w : WriteBehind} (h : s.link.writeBehind = some w) :
    s.storeWriteBehind = { s with
      link := { s.link with
        writeBehind := none
        accessFault := s.link.accessFault || decide (w.number ≠ 0 ∧ (s.pool.entry w.number).hostHeld = false) }
      pool := { s.pool with memory := s.memoryStored w } } := by
  by_cases hn : w.number = 0
  · simp [State.storeWriteBehind, h, State.memoryStored, State.storeAddress, hn, State.onLink, State.onPool]
  · cases hh : (s.pool.entry w.number).hostHeld with
    | false => simp [State.storeWriteBehind, h, State.memoryStored, State.storeAddress, hn, hh, State.onLink]
    | true =>
      simp only [State.storeWriteBehind, h, State.memoryStored, State.storeAddress, hn, hh, State.onLink, State.onPool,
        Pool.writeByte]
      cases (s.pool.entry w.number).address w.offset <;> simp

/-- A storing touches the link's byte and fault and the memory, whether a byte is held or not. -/
theorem State.storeWriteBehind_form (s : State) : ∃ fault memory, s.storeWriteBehind = { s with
    link := { s.link with writeBehind := none, accessFault := fault }, pool := { s.pool with memory := memory } } := by
  cases h : s.link.writeBehind with
  | none => exact ⟨s.link.accessFault, s.pool.memory, by rw [State.storeWriteBehind_none h, ← h]⟩
  | some w => exact ⟨_, _, State.storeWriteBehind_some h⟩

/-- The kind of the transaction in progress has no part in the storing. -/
theorem State.storeWriteBehind_transaction (s : State) (x : SpiTransaction) :
    (s.onLink fun l => { l with transaction := x }).storeWriteBehind =
      s.storeWriteBehind.onLink fun l => { l with transaction := x } := by
  cases h : s.link.writeBehind with
  | none =>
    rw [State.storeWriteBehind_none h]
    exact State.storeWriteBehind_none h
  | some w =>
    rw [State.storeWriteBehind_some h]
    exact State.storeWriteBehind_some h

/-- A storing leaves the tests of a target as they are: they read the Buffer Table and the active set. -/
theorem State.writable_storeWriteBehind (s : State) (number offset : Nat) :
    s.storeWriteBehind.writable number offset = s.writable number offset := by
  obtain ⟨fault, memory, h⟩ := s.storeWriteBehind_form
  rw [h]
  rfl

/-! ## DATA writes and the end of a transaction (R135, R136) -/

theorem State.linkEvent_taking {s : State} (f : State → State) (ht : s.taking) (hl : s.linkPowered = true) :
    s.linkEvent f = .next (f s) := by
  rw [State.linkEvent, State.localEvent_taking _ ht, if_pos hl]

theorem exec_dataWrite {s : State} (v : Byte) (ht : s.taking) (hl : s.linkPowered = true) :
    exec (.dataWrite v) s = .next (s.writeData v) := State.linkEvent_taking (·.writeData v) ht hl

theorem exec_spiTransactionEnd {s : State} (ht : s.taking) (hl : s.linkPowered = true) :
    exec .spiTransactionEnd s = .next s.endTransaction := State.linkEvent_taking _ ht hl

/-- A DATA write byte follows the storing of the byte before it, and is tested at the pointer. -/
theorem State.writeData_eq (s : State) (v : Byte) : s.writeData v =
    s.storeWriteBehind.onLink fun l => { l with
      transaction := .dataWrite
      readAhead := .discarded
      writeBehind := if s.writable s.link.number.toNat s.link.offset.toNat then
        some ⟨s.link.number.toNat, s.link.offset.toNat, v⟩ else none
      accessFault := l.accessFault || !s.writable s.link.number.toNat s.link.offset.toNat
      offset := s.link.offset + 1 } := by
  have hbegin : s.beginTransaction .dataWrite = s.onLink fun l => { l with transaction := .dataWrite } := by
    simp [State.beginTransaction]
  have hwrite (x : State) (n o : Nat) :
      (x.onLink fun l => { l with transaction := .dataWrite }).writable n o = x.writable n o := rfl
  simp only [State.writeData, hbegin, State.storeWriteBehind_transaction, hwrite, State.writable_storeWriteBehind]
  obtain ⟨fault, memory, h⟩ := s.storeWriteBehind_form
  rw [h]
  rfl

/-- Which targets are accepted: a slot outside the active set, or a place in a buffer that the host holds. -/
theorem State.writable_iff (s : State) (number offset : Nat) : s.writable number offset = true ↔
    (number = 0 ∧ (256 ≤ offset ∧ offset < 512 ∧ .slotA ∉ s.activeSet ∨
        512 ≤ offset ∧ offset < 768 ∧ .slotB ∉ s.activeSet) ∨
      1 ≤ number ∧ number ≤ 40 ∧ (s.pool.entry number).state = .held ∧ (s.pool.entry number).marked = false ∧
        offset < (s.pool.entry number).capacity) := by
  by_cases hn : number = 0
  · simp [State.writable, hn, and_assoc]
  · have hpos : 1 ≤ number := by omega
    simp [State.writable, hn, hpos, BufferEntry.hostHeld, and_assoc]

/-- The end of a transaction is the storing of the byte held, with a fresh fetch behind a DATA write. -/
theorem State.endTransaction_eq (s : State) : s.endTransaction =
    s.storeWriteBehind.onLink fun l => { l with
      transaction := .idle
      readAhead := if s.link.transaction = .dataWrite then
        s.storeWriteBehind.fetchAt s.link.number.toNat s.link.offset.toNat else s.link.readAhead } := by
  obtain ⟨fault, memory, h⟩ := s.storeWriteBehind_form
  rw [State.endTransaction, h]
  by_cases ht : s.link.transaction = .dataWrite
  · simp only [ht, beq_self_eq_true, if_true]
    rfl
  · rw [if_neg (by simpa using ht), if_neg ht]
    rfl

/-! ## What a command finds stored (R127, R134) -/

/-- A command's transaction stores the byte held: after the end of the transaction before it there is nothing left to
do. -/
theorem State.beginWrite_endTransaction (s : State) :
    (s.endTransaction.beginTransaction .registerWrite).storeWriteBehind =
      (s.beginTransaction .registerWrite).storeWriteBehind := by
  have hnone : s.endTransaction.link.writeBehind = none := by
    obtain ⟨fault, memory, h⟩ := s.storeWriteBehind_form
    rw [State.endTransaction_eq, h]
    rfl
  have hidle : s.endTransaction.link.transaction = .idle := by rw [State.endTransaction_eq]; rfl
  have hbegin : s.endTransaction.beginTransaction .registerWrite =
      s.endTransaction.onLink fun l => { l with transaction := .registerWrite } := by
    rw [State.beginTransaction, if_neg (by simp [hidle])]
  rw [hbegin, State.storeWriteBehind_transaction, State.storeWriteBehind_none hnone]
  by_cases ht : s.link.transaction = .dataWrite
  · rw [State.beginTransaction, if_pos ⟨ht, by simp⟩, State.storeWriteBehind_transaction,
      State.storeWriteBehind_none hnone]
  · rw [State.beginTransaction, if_neg (fun h => ht h.1), State.storeWriteBehind_transaction, State.endTransaction_eq,
      if_neg ht]
    obtain ⟨fault, memory, h⟩ := s.storeWriteBehind_form
    rw [h]
    rfl

/-- The blocks that the end of a transaction changes. -/
theorem State.endTransaction_form (s : State) : ∃ l memory, l.resetCause = s.link.resetCause ∧
    s.endTransaction = { s with link := l, pool := { s.pool with memory := memory } } := by
  obtain ⟨fault, memory, h⟩ := s.storeWriteBehind_form
  refine ⟨s.endTransaction.link, memory, ?_, ?_⟩ <;>
  · rw [State.endTransaction_eq, h]
    rfl

/-- Neither the link's registers, the reset cause apart, nor the memory are shown in the Status Block. -/
theorem State.publish_old_congr (s old : State) {l : Link} (memory : List Host.Cell)
    (hl : l.resetCause = old.link.resetCause) :
    s.publish { old with link := l, pool := { old.pool with memory := memory } } = s.publish old := by
  have hfields : State.statusFields { old with link := l, pool := { old.pool with memory := memory } } =
      old.statusFields := by
    simp only [State.statusFields, hl]
    rfl
  rw [State.publish, State.publish, State.countUpdate, State.countUpdate, hfields]
  rfl

section
variable {s : State}

theorem State.endTransaction_taking (ht : s.taking) : s.endTransaction.taking := by
  obtain ⟨l, memory, -, h⟩ := s.endTransaction_form
  rw [h]
  exact ht

/-- A command acts on the state that the end of the transaction before it leaves. -/
theorem State.command_endTransaction (code : Byte) (argument : Half) (body : State → CommandOutcome × State) :
    s.endTransaction.command code argument body = s.command code argument body ∨ s.linkTakes = false := by
  obtain ⟨l, memory, -, h⟩ := s.endTransaction_form
  have htakes : s.endTransaction.linkTakes = s.linkTakes := by rw [h]; rfl
  cases hl : s.linkTakes with
  | false => exact .inr rfl
  | true =>
    left
    simp only [State.command, htakes, hl, Bool.not_true, Bool.false_eq_true, if_false, State.beginWrite_endTransaction]

theorem State.linkTakes_of (ht : s.taking) (hl : s.linkPowered = true) : s.linkTakes = true := by
  simp [State.linkTakes, hl, ht]

theorem State.localCommand_endTransaction (ht : s.taking) (hl : s.linkPowered = true) (code : Byte) (argument : Half)
    (body : State → CommandOutcome × State) :
    s.localEvent (·.command code argument body) = s.endTransaction.localEvent (·.command code argument body) := by
  rw [State.localEvent_taking _ ht, State.localEvent_taking _ (State.endTransaction_taking ht),
    (State.command_endTransaction code argument body).resolve_right (by simp [State.linkTakes_of ht hl])]

theorem State.eventCommand_endTransaction (ht : s.taking) (hl : s.linkPowered = true) (code : Byte) (argument : Half)
    (body : State → CommandOutcome × State) :
    s.event (·.command code argument body) = s.endTransaction.event (·.command code argument body) := by
  rw [State.event_taking _ ht, State.event_taking _ (State.endTransaction_taking ht),
    (State.command_endTransaction code argument body).resolve_right (by simp [State.linkTakes_of ht hl])]
  obtain ⟨l, memory, hcause, h⟩ := s.endTransaction_form
  rw [h, State.publish_old_congr _ s memory hcause]

theorem exec_selectWrite_endTransaction (ht : s.taking) (hl : s.linkPowered = true) (v : Word) :
    exec (.selectWrite v) s = exec (.selectWrite v) s.endTransaction := by
  have hpowered : s.endTransaction.linkPowered = true := by
    obtain ⟨l, memory, -, h⟩ := s.endTransaction_form
    rw [h]
    exact hl
  have hboth : ∀ x : State, x.taking → x.linkPowered = true → exec (.selectWrite v) x =
      .next ((x.beginTransaction .registerWrite).storeWriteBehind.loadPointer v) :=
    fun x hx hp => State.linkEvent_taking
      (fun x => (x.beginTransaction .registerWrite).storeWriteBehind.loadPointer v) hx hp
  rw [hboth s ht hl, hboth _ (State.endTransaction_taking ht) hpowered, State.beginWrite_endTransaction]

end

/-- Settles O18: the four clauses follow the storing of the byte held, the test of a target, the end of a transaction, and
the commands that find it made. -/
theorem dataWritesAreTestedAndStored : Obligations.DataWritesAreTestedAndStored := by
  unfold Obligations.DataWritesAreTestedAndStored
  refine ⟨fun v s ht hl hnone => ?_, fun v w s ht hl hm _ hw => ?_, fun w s ht hl hm hw => ?_, fun a s u ht hl hu => ?_⟩
  · refine ⟨_, exec_dataWrite v ht hl, ?_⟩
    rw [State.writeData_eq, State.storeWriteBehind_none hnone]
    refine ⟨rfl, s.writable_iff _ _, fun hyes => ?_, fun hno => ?_, rfl, rfl, rfl, rfl, rfl, ?_⟩
    · simp [hyes]
    · simp [hno]
    · simp [sameExcept_iff]
  · refine ⟨_, exec_dataWrite v ht hl, ?_⟩
    rw [State.writeData_eq, State.storeWriteBehind_some hw]
    refine ⟨fun a ha => ⟨State.memRead_stored_self hm ha, fun b hb => State.memRead_stored_other ha hb⟩,
      fun hlost b => congrArg (memRead · b) (State.memoryStored_lost hlost), ⟨rfl, rfl⟩, rfl, rfl, rfl, rfl, rfl, rfl,
      rfl, rfl, rfl, rfl, ?_⟩
    simp [sameExcept_iff]
  · refine ⟨_, exec_spiTransactionEnd ht hl, ?_⟩
    rw [State.endTransaction_eq, State.storeWriteBehind_some hw]
    refine ⟨rfl, fun a ha => ⟨State.memRead_stored_self hm ha, fun b hb => State.memRead_stored_other ha hb⟩,
      fun hlost b => congrArg (memRead · b) (State.memoryStored_lost hlost), fun hn hh => ?_, rfl, rfl, rfl, rfl, ?_⟩
    · simp [hn, hh]
    · simp [sameExcept_iff]
  · rw [exec_spiTransactionEnd ht hl] at hu
    obtain rfl : s.endTransaction = u := by simpa using hu
    exact ⟨State.localCommand_endTransaction ht hl 1 a _, State.eventCommand_endTransaction ht hl 3 a _,
      State.eventCommand_endTransaction ht hl 4 a _, State.localCommand_endTransaction ht hl 5 a _,
      exec_selectWrite_endTransaction ht hl⟩

end Sys2Proof.Machine

namespace Sys2Proof.Machine

open Sys2Proof

/-! ## The allocator's outcome (R123) -/

theorem Pool.setEntry_table (p : Pool) (n : Nat) (e : BufferEntry) :
    p.setEntry n e = { p with table := (p.setEntry n e).table } := by
  unfold Pool.setEntry
  split <;> rfl

/-- The buffer of a successful allocation: the lowest free number, with the lowest free pages set to 00h. -/
def Pool.allocatedEntry (p : Pool) (r : Requester) (n : Nat) : BufferEntry :=
  ⟨if r = .link then .held else .filling, p.freePages.take n, r, false⟩

theorem Pool.create_eq {p : Pool} {number : Nat} (r : Requester) (n : Nat) (h : p.freeNumbers.head? = some number) :
    (p.create r n).1 = number ∧ (p.create r n).2 = { p with
      memory := memZero p.memory (p.freePages.take n)
      table := (p.setEntry number (p.allocatedEntry r n)).table
      retained := if r = .alert then p.retained.map (· ++ p.freePages.take n) else p.retained } := by
  have hd : p.freeNumbers.headD 0 = number := by rw [List.headD_eq_head?_getD, h, Option.getD_some]
  have hset (e : BufferEntry) :
      ({ p with memory := memZero p.memory (p.freePages.take n) } : Pool).setEntry number e = { p with
        memory := memZero p.memory (p.freePages.take n), table := (p.setEntry number e).table } := by
    unfold Pool.setEntry
    split <;> rfl
  refine ⟨hd, ?_⟩
  unfold Pool.create
  rw [hd]
  cases r <;> simp only [hset] <;> rfl

/-- The tests of an allocation, in their order: numbers, then pages. -/
theorem Pool.allocFailure_eq (p : Pool) (r : Requester) (n reserve : Nat) : p.allocFailure r n reserve =
    if p.freeNumberCount < (if r = .alert then 1 else 5) then some .noNumber
    else if p.freePageCount < (if r = .alert then 1 else n + reserve) then some .noPages
    else none := by
  cases r <;> rfl

theorem Pool.freeNumbers_head {p : Pool} {r : Requester} {n reserve : Nat}
    (h : p.allocFailure r n reserve = none) : ∃ number, p.freeNumbers.head? = some number := by
  have hpos : 0 < p.freeNumbers.length := by
    rw [Pool.allocFailure_eq] at h
    split_ifs at h with halert hnumber hpages hnumber hpages <;>
    · rw [Pool.freeNumberCount] at hnumber
      omega
  exact ⟨_, List.head?_eq_some_head (List.ne_nil_of_length_pos hpos)⟩

/-- The pool behind the tests: with the new buffer, where they pass, and no allocation in progress. -/
def Pool.tested (p : Pool) (r : Requester) (n reserve : Nat) : Pool :=
  { (if (p.allocFailure r n reserve).isNone then (p.create r n).2 else p) with inProgress := none }

section
variable {p : Pool} {r : Requester} {n reserve : Nat}

theorem Pool.tested_fails {reason : AllocReason} (h : p.allocFailure r n reserve = some reason) :
    p.tested r n reserve = { p with inProgress := none } := by
  simp [Pool.tested, h]

theorem Pool.tested_creates {number : Nat} (h : p.allocFailure r n reserve = none)
    (hn : p.freeNumbers.head? = some number) : p.tested r n reserve = { p with
      inProgress := none
      memory := memZero p.memory (p.freePages.take n)
      table := (p.setEntry number (p.allocatedEntry r n)).table
      retained := if r = .alert then p.retained.map (· ++ p.freePages.take n) else p.retained } := by
  simp [Pool.tested, h, (Pool.create_eq r n hn).2]

/-- The tests leave the requests that wait. -/
theorem Pool.tested_requests (p : Pool) (r : Requester) (n reserve : Nat) :
    (p.tested r n reserve).inProgress = none ∧ (p.tested r n reserve).waitingAlert = p.waitingAlert ∧
      (p.tested r n reserve).waitingSampler = p.waitingSampler ∧
      (p.tested r n reserve).waitingLink = p.waitingLink := by
  cases h : p.allocFailure r n reserve with
  | some reason => rw [Pool.tested_fails h]; exact ⟨rfl, rfl, rfl, rfl⟩
  | none =>
    obtain ⟨number, hn⟩ := Pool.freeNumbers_head h
    rw [Pool.tested_creates h hn]
    exact ⟨rfl, rfl, rfl, rfl⟩

end

/-! ## The next grant (R122) -/

/-- The arbiter has granted the waiting request of the highest rank: ALERT where `alert` holds, else SAMPLER, else LINK; `p`
holds what waited. -/
def Pool.grantedByRank (p q : Pool) (alert : Prop) : Prop :=
  q.waitingAlert = false ∧
  (alert → q.inProgress = some (.alert, 1) ∧ q.waitingSampler = p.waitingSampler ∧ q.waitingLink = p.waitingLink) ∧
  (¬ alert → ∀ k, p.waitingSampler = some k → q.inProgress = some (.sampler, k) ∧ q.waitingSampler = none ∧
    q.waitingLink = p.waitingLink) ∧
  (¬ alert → p.waitingSampler = none → q.inProgress = p.waitingLink.map (Requester.link, ·) ∧
    q.waitingSampler = none ∧ q.waitingLink = none)

/-- A free allocator serves the request of the highest rank; the others wait on. -/
theorem Pool.grant_byRank {p : Pool} (h : p.inProgress = none) :
    p.grantedByRank p.grant (p.waitingAlert = true) := by
  unfold Pool.grantedByRank Pool.grant
  cases ha : p.waitingAlert <;> cases hs : p.waitingSampler <;> cases hl : p.waitingLink <;> simp [h, ha, hs, hl]

/-- An allocator that is busy grants nothing. -/
theorem Pool.grant_busy {p : Pool} (h : p.inProgress ≠ none) : p.grant = p := by
  obtain ⟨x, hx⟩ := Option.ne_none_iff_exists'.mp h
  simp [Pool.grant, hx]

/-! ## What the requester takes (R31, R126, R142) -/

/-- The link once its allocation has completed: the flag, and COMMAND from PENDING to OK where ALLOCATE is the last
command. -/
def Link.allocated (l : Link) : Link := { l with
  allocDone := true
  command := if l.command.code = 1 ∧ l.command.outcome = .pending then { l.command with outcome := .ok } else l.command }

theorem State.linkAllocated_eq (s : State) (number : Nat) (reason : AllocReason) : s.linkAllocated number reason =
    { s with pool := { s.pool with allocNumber := number, allocReason := reason }, link := s.link.allocated } := by
  by_cases h : s.link.command.code = 1 ∧ s.link.command.outcome = .pending
  · simp [State.linkAllocated, State.settleCommand, Link.allocated, State.onPool, State.onLink, h]
  · have h' : ¬ (s.link.command.code == 1 && s.link.command.outcome == .pending) = true := by simpa using h
    simp only [State.linkAllocated, State.settleCommand, Link.allocated, State.onPool, State.onLink, h, if_false,
      List.contains_cons, List.contains_nil, Bool.or_false, h']
    rfl

section
variable (s : State) (n : Nat)

theorem State.completeAllocation_link (n : Nat) : s.completeAllocation .link n = { s with
    pool := Pool.grant { s.pool.tested .link n s.profile.alertReserve with
      allocNumber := if (s.pool.allocFailure .link n s.profile.alertReserve).isNone then
        (s.pool.create .link n).1 else 0
      allocReason := (s.pool.allocFailure .link n s.profile.alertReserve).getD .noReason }
    link := s.link.allocated } := by
  unfold State.completeAllocation Pool.tested
  cases s.pool.allocFailure .link n s.profile.alertReserve <;> dsimp only <;> rw [State.linkAllocated_eq] <;> rfl

theorem State.completeAllocation_sampler (n : Nat) : s.completeAllocation .sampler n = { s with
    pool := Pool.grant (s.pool.tested .sampler n s.profile.alertReserve)
    seq := if (s.pool.allocFailure .sampler n s.profile.alertReserve).isNone then { s.seq with
        frame := s.seq.frame.map fun f => { f with result := .granted (s.pool.create .sampler n).1 } }
      else { s.seq with
        droppedFrames := min 65535 (s.seq.droppedFrames + 1)
        frame := s.seq.frame.map fun f => { f with result := .dropped } } } := by
  unfold State.completeAllocation Pool.tested
  cases s.pool.allocFailure .sampler n s.profile.alertReserve <;> rfl

/-- The page that the Alert Writer asks for takes part in the grant that follows. -/
theorem State.requestAlertPage_grant {s : State} (h : s.pool.inProgress = none) :
    s.requestAlertPage.onPool Pool.grant = s.onPool fun p => Pool.grant { p with
      waitingAlert := s.pool.waitingAlert || (s.alerts.writing.isNone && !s.alerts.pending.isEmpty) } := by
  have hreq : s.pool.hasRequest .alert = s.pool.waitingAlert := by simp [Pool.hasRequest, h]
  have hkept : s.onPool Pool.grant = s.onPool fun p => Pool.grant { p with waitingAlert := s.pool.waitingAlert } := rfl
  unfold State.requestAlertPage
  rw [hreq]
  by_cases ha : s.pool.waitingAlert = true
  · rw [if_pos (by simp [ha]), hkept]
    simp only [ha, Bool.true_or]
  · have ha : s.pool.waitingAlert = false := by simpa using ha
    by_cases hask : s.alerts.writing = none ∧ s.alerts.pending ≠ []
    · have hbusy : (Pool.grant { s.pool with waitingAlert := true }).inProgress ≠ none := by simp [Pool.grant, h]
      rw [if_neg (by simp [ha, hask]), show (s.pool.waitingAlert || (s.alerts.writing.isNone &&
        !s.alerts.pending.isEmpty)) = true by simp [hask]]
      exact congrArg (fun q => { s with pool := q }) (Pool.grant_busy hbusy)
    · rw [show (s.alerts.writing.isNone && !s.alerts.pending.isEmpty) = false by simpa [Bool.eq_false_iff] using hask,
        Bool.or_false, if_pos (by simpa [ha, Option.isSome_iff_ne_none, ← imp_iff_not_or] using hask)]
      exact hkept

theorem State.completeAllocation_alert_creates
    (h : s.pool.allocFailure .alert n s.profile.alertReserve = none) : s.completeAllocation .alert n = { s with
      pool := Pool.grant (s.pool.tested .alert n s.profile.alertReserve)
      alerts := match s.alerts.pending with
        | [] => s.alerts
        | x :: rest => { s.alerts with pending := rest, writing := some ((s.pool.create .alert n).1, x) } } := by
  simp only [State.completeAllocation, State.alertAllocated, h, Pool.tested, Option.isNone_none, if_true]
  cases hp : s.alerts.pending <;> simp [State.onPool, State.onAlerts, hp]

theorem State.completeAllocation_alert_fails {reason : AllocReason}
    (h : s.pool.allocFailure .alert n s.profile.alertReserve = some reason) : s.completeAllocation .alert n = { s with
      pool := Pool.grant { s.pool.tested .alert n s.profile.alertReserve with
        waitingAlert := s.pool.waitingAlert || (s.alerts.writing.isNone && decide (2 ≤ s.alerts.pending.length)) }
      link := match s.alerts.pending with
        | [] => s.link
        | _ :: _ => { s.link with alertLost := true }
      alerts := match s.alerts.pending with
        | [] => s.alerts
        | x :: rest => { s.alerts with
          pending := rest, lostCount := min 65535 (s.alerts.lostCount + 1)
          firstLost := if s.alerts.lostCount = 0 then some x.kind else s.alerts.firstLost } } := by
  rw [Pool.tested_fails h]
  unfold State.completeAllocation
  rw [h]
  cases hp : s.alerts.pending with
  | nil => simp [State.alertAllocated, State.onPool, hp]
  | cons x rest =>
    obtain ⟨L, hL⟩ : ∃ L, L = State.loseAlert
        ((s.onPool fun p => { p with inProgress := none }).onAlerts fun w => { w with pending := rest }) x.kind :=
      ⟨_, rfl⟩
    have hlong : decide (2 ≤ (x :: rest).length) = !rest.isEmpty := by cases rest <;> simp
    have hgrant := State.requestAlertPage_grant (s := L) (by rw [hL]; rfl)
    have htaken : State.alertAllocated (s.onPool fun p => { p with inProgress := none }) none = L.requestAlertPage := by
      simp only [State.alertAllocated, State.onPool_alerts, hp, hL]
    simp only [Option.isNone_some, Bool.false_eq_true, if_false, htaken, hgrant, hlong]
    rw [hL]
    rfl

end

/-! ## The event of an allocation that completes (R123) -/

section
variable {s : State} {r : Requester} {n : Nat}

/-- Behind the outcome nothing more follows than before it: no list has ended with its result asked for. -/
theorem State.completeAllocation_workIdle (hidle : s.workIdle)
    (hframe : r = .sampler → ∀ f, s.seq.frame = some f → f.phase ≠ .ended) :
    (s.completeAllocation r n).workIdle := by
  obtain ⟨hlist, hengine⟩ := hidle
  cases r with
  | link =>
    rw [State.completeAllocation_link]
    exact ⟨hlist, hengine⟩
  | alert =>
    cases h : s.pool.allocFailure .alert n s.profile.alertReserve with
    | none =>
      rw [State.completeAllocation_alert_creates s n h]
      exact ⟨hlist, hengine⟩
    | some reason =>
      rw [State.completeAllocation_alert_fails s n h]
      exact ⟨hlist, hengine⟩
  | sampler =>
    rw [State.completeAllocation_sampler]
    refine ⟨?_, hengine⟩
    have hf := hframe rfl
    dsimp only [State.listIdle]
    split
    all_goals
      simp only [Option.mem_def, Option.map_eq_some_iff]
      rintro _ ⟨f, hs, rfl⟩
      exact ⟨(hlist f hs).1, fun h => hf f hs h.1⟩

/-- The outcome reaches the pool, the link, the sequencer and the Alert Writer, and is reported to no other block. -/
theorem State.completeAllocation_frame : SameExcept [.pool, .link, .seq, .alerts] s (s.completeAllocation r n) ∧
    (s.completeAllocation r n).sameReported s := by
  have hshape (x : State) (h : ∃ p l q a, x = { s with pool := p, link := l, seq := q, alerts := a } ∧
      q.sampler = s.seq.sampler) : SameExcept [.pool, .link, .seq, .alerts] s x ∧ x.sameReported s := by
    obtain ⟨p, l, q, a, rfl, hq⟩ := h
    exact ⟨by simp [sameExcept_iff], rfl, rfl, rfl, hq⟩
  refine hshape _ ?_
  cases r with
  | link => exact ⟨_, _, _, _, s.completeAllocation_link n, rfl⟩
  | sampler =>
    refine ⟨_, _, _, _, s.completeAllocation_sampler n, ?_⟩
    split <;> rfl
  | alert =>
    cases h : s.pool.allocFailure .alert n s.profile.alertReserve with
    | none => exact ⟨_, _, _, _, State.completeAllocation_alert_creates s n h, rfl⟩
    | some reason => exact ⟨_, _, _, _, State.completeAllocation_alert_fails s n h, rfl⟩

/-- The sequencer takes its own outcomes alone, and so does the Alert Writer. -/
theorem State.completeAllocation_kept : (r ≠ .sampler → (s.completeAllocation r n).seq = s.seq) ∧
    (r ≠ .alert → (s.completeAllocation r n).alerts = s.alerts) := by
  cases r with
  | link =>
    rw [State.completeAllocation_link]
    exact ⟨fun _ => rfl, fun _ => rfl⟩
  | sampler =>
    rw [State.completeAllocation_sampler]
    exact ⟨fun h => absurd rfl h, fun _ => rfl⟩
  | alert =>
    refine ⟨fun _ => ?_, fun h => absurd rfl h⟩
    cases h : s.pool.allocFailure .alert n s.profile.alertReserve with
    | none => rw [State.completeAllocation_alert_creates s n h]
    | some reason => rw [State.completeAllocation_alert_fails s n h]

/-- The pool behind the outcome: the tested pool, and a grant by rank in which the Alert Writer's next request takes part
(log entry 49). -/
theorem State.completeAllocation_pool :
    (s.completeAllocation r n).pool.table = (s.pool.tested r n s.profile.alertReserve).table ∧
    (s.completeAllocation r n).pool.memory = (s.pool.tested r n s.profile.alertReserve).memory ∧
    s.pool.grantedByRank (s.completeAllocation r n).pool (s.pool.waitingAlert = true ∨
      r = .alert ∧ s.pool.allocFailure r n s.profile.alertReserve ≠ none ∧ s.alerts.writing = none ∧
        2 ≤ s.alerts.pending.length) := by
  obtain ⟨hfree, halert, hsampler, hlink⟩ := s.pool.tested_requests r n s.profile.alertReserve
  have hgrant (p : Pool) (alert : Prop) (ht : p.table = (s.pool.tested r n s.profile.alertReserve).table)
      (hm : p.memory = (s.pool.tested r n s.profile.alertReserve).memory) (hi : p.inProgress = none)
      (hws : p.waitingSampler = s.pool.waitingSampler) (hwl : p.waitingLink = s.pool.waitingLink)
      (hwa : p.waitingAlert = true ↔ alert) :
      p.grant.table = (s.pool.tested r n s.profile.alertReserve).table ∧
      p.grant.memory = (s.pool.tested r n s.profile.alertReserve).memory ∧ s.pool.grantedByRank p.grant alert := by
    obtain ⟨hmemory, htable, -, -⟩ := p.grant_kept
    refine ⟨htable.trans ht, hmemory.trans hm, ?_⟩
    have hrank := Pool.grant_byRank hi
    rwa [propext hwa, Pool.grantedByRank, hws, hwl] at hrank
  cases r with
  | link =>
    rw [State.completeAllocation_link]
    exact hgrant _ _ rfl rfl hfree hsampler hlink (by rw [halert]; simp)
  | sampler =>
    rw [State.completeAllocation_sampler]
    exact hgrant _ _ rfl rfl hfree hsampler hlink (by rw [halert]; simp)
  | alert =>
    cases h : s.pool.allocFailure .alert n s.profile.alertReserve with
    | none =>
      rw [State.completeAllocation_alert_creates s n h]
      exact hgrant _ _ rfl rfl hfree hsampler hlink (by rw [halert]; simp)
    | some reason =>
      rw [State.completeAllocation_alert_fails s n h]
      exact hgrant _ _ rfl rfl hfree hsampler hlink (by simp)

theorem exec_allocationComplete (ht : s.taking) (hidle : s.workIdle) (hi : s.pool.inProgress = some (r, n))
    (hframe : r = .sampler → ∀ f, s.seq.frame = some f → f.phase ≠ .ended) :
    exec .allocationComplete s = .next ((s.completeAllocation r n).publish s) := by
  rw [show exec .allocationComplete s = execAllocationComplete s from rfl, execAllocationComplete,
    State.event_taking _ ht, hi]
  exact congrArg (fun x : State => Host.Outcome.next (x.publish s))
    (State.settle_of_workIdle (State.completeAllocation_workIdle hidle hframe))

end

/-! ## The event of a release that completes (R124 to R126) -/

section
variable {s : State} {n : Nat} {rest : List Nat}

theorem Pool.finishRelease_eq (p : Pool) (n : Nat) : p.finishRelease n = { p with
    table := (p.setEntry n { p.entry n with state := .free, pages := [], marked := false }).table
    releaseList := p.releaseList.tail
    hostRelease := if p.hostRelease = some n then none else p.hostRelease } := by
  unfold Pool.finishRelease
  rw [Pool.setEntry_table]

/-- The oldest release completes: its number is free and off the list, and so is the command that asked for it. -/
theorem State.completeRelease_eq (hphase : s.sleep.phase ≠ .entryRelease) :
    s.completeRelease n = { s with
      pool := s.pool.finishRelease n
      link := if s.pool.hostRelease = some n ∧ s.link.command.code ∈ [(3 : Byte), 4, 5] ∧
          s.link.command.outcome = .pending then
        { s.link with command := { s.link.command with outcome := .ok } } else s.link } := by
  by_cases hhost : s.pool.hostRelease = some n
  · by_cases hcmd : s.link.command.code ∈ [(3 : Byte), 4, 5] ∧ s.link.command.outcome = .pending
    · simp [State.completeRelease, State.settleCommand, hhost, hcmd, hphase, State.onPool, State.onLink]
    · simp only [List.mem_cons, List.not_mem_nil, or_false] at hcmd
      simp [State.completeRelease, State.settleCommand, hhost, hphase, State.onPool, State.onLink]
  · simp [State.completeRelease, hhost, hphase, State.onPool]

theorem exec_releaseComplete (ht : s.taking) (h : s.pool.releaseList = n :: rest) :
    exec .releaseComplete s = .next ((s.completeRelease n).publish s) := by
  rw [show exec .releaseComplete s = execReleaseComplete s from rfl, execReleaseComplete, State.event_taking _ ht, h]

end

/-- Settles O23: the outcome requester by requester, the grant by rank behind it, and the oldest release. -/
theorem allocationsAndReleasesComplete : Obligations.AllocationsAndReleasesComplete := by
  unfold Obligations.AllocationsAndReleasesComplete
  refine ⟨fun r n s ht hidle _ hi hframe => ?_, fun n rest s ht hrel hphase hrange => ?_⟩
  · obtain ⟨htable, hmemory, hrank⟩ := State.completeAllocation_pool (s := s) (r := r) (n := n)
    obtain ⟨hsame, hreported⟩ := State.completeAllocation_frame (s := s) (r := r) (n := n)
    have hkept := State.completeAllocation_kept (s := s) (r := r) (n := n)
    refine ⟨_, exec_allocationComplete ht hidle hi hframe, hsame.publish hreported (by simp), Pool.allocFailure_eq _ _ _ _,
      fun reason hfail => ?_, fun hmade => ?_, ?_, ?_, fun hr => ?_, fun hr => ?_, ?_⟩
    · rw [Pool.tested_fails hfail] at htable hmemory
      refine ⟨by simpa using htable, by simpa using hmemory, ?_, ?_, ?_⟩
      · rintro rfl
        rw [State.publish_eq, State.completeAllocation_link, hfail, Pool.grant_eq]
        exact ⟨rfl, rfl, rfl⟩
      · rintro rfl
        rw [State.publish_seq, State.completeAllocation_sampler, hfail]
        rfl
      · rintro rfl x rest hx
        rw [State.publish_link, State.publish_alerts, State.completeAllocation_alert_fails s n hfail, hx]
        exact ⟨rfl, rfl⟩
    · obtain ⟨number, hn⟩ := Pool.freeNumbers_head hmade
      have hnumber := Pool.freeNumbers_range (List.mem_of_head? hn)
      rw [Pool.tested_creates hmade hn] at htable hmemory
      have hentry (m : Nat) : (s.completeAllocation r n).pool.entry m =
          (s.pool.setEntry number (s.pool.allocatedEntry r n)).entry m := by
        simp only [Pool.entry, htable]
      refine ⟨number, hn, ?_, fun m hm => ?_, fun a ha => ?_, fun a ha => ?_, ?_, ?_, ?_⟩
      · rw [State.publish_entry, hentry, Pool.entry_setEntry_self _ _ hnumber, Pool.allocatedEntry]
      · rw [State.publish_entry, hentry, Pool.entry_setEntry_other _ _ hm]
      · rw [State.publish_memory, hmemory, memRead_memZero, if_pos ha]
      · rw [State.publish_memory, hmemory, memRead_memZero, if_neg ha]
      · rintro rfl
        rw [State.publish_eq, State.completeAllocation_link, hmade, Pool.grant_eq]
        exact ⟨(Pool.create_eq .link n hn).1, rfl, rfl⟩
      · rintro rfl
        rw [State.publish_seq, State.completeAllocation_sampler, hmade, (Pool.create_eq .sampler n hn).1]
        rfl
      · rintro rfl x rest hx
        rw [State.publish_link, State.publish_alerts, State.completeAllocation_alert_creates s n hmade, hx,
          (Pool.create_eq .alert n hn).1]
        exact ⟨rfl, rfl⟩
    · rw [State.publish_pool]
      exact hrank
    · rintro rfl
      rw [State.publish_link, State.completeAllocation_link]
      rfl
    · exact (State.publish_seq ..).trans (hkept.1 hr)
    · exact (State.publish_alerts ..).trans (hkept.2 hr)
    · rintro rfl
      rw [State.publish_link, State.completeAllocation_sampler]
  · have hentry (m : Nat) : (s.pool.finishRelease n).entry m =
        (s.pool.setEntry n { s.pool.entry n with state := .free, pages := [], marked := false }).entry m := rfl
    refine ⟨_, exec_releaseComplete ht hrel, ?_⟩
    rw [State.completeRelease_eq hphase]
    refine ⟨?_, ?_, fun m hm => ?_, ?_, ?_, State.publish_link .., ?_, ?_, ?_, ?_, ?_, ?_, ?_,
      SameExcept.publish (by simp [sameExcept_iff]) ⟨rfl, rfl, rfl, rfl⟩ (by simp)⟩
    · rw [State.publish_releaseList, Pool.finishRelease_eq, hrel]
      rfl
    · rw [State.publish_entry, hentry, Pool.entry_setEntry_self _ _ hrange]
    · rw [State.publish_entry, hentry, Pool.entry_setEntry_other _ _ hm]
    · rw [State.publish_memory, Pool.finishRelease_eq]
    all_goals rw [State.publish_pool, Pool.finishRelease_eq]

end Sys2Proof.Machine

namespace Sys2Proof.Machine

open Sys2Proof

/-! ## Illegal elements (R28) -/

theorem u8_lt (bs : List Byte) (i : Nat) : u8 bs i < 256 := by
  simp only [u8, slice, ofLe]
  exact BitVec.isLt _

theorem u16_bytes (bs : List Byte) (i : Nat) : u16 bs i = u8 bs i + 256 * u8 bs (i + 1) := by
  simp [u16, u8, slice, ofLe]

theorem groupOf_eq_none {k : Nat} : groupOf k = none ↔ k = 0 ∨ 3 < k := by
  match k with
  | 0 | 1 | 2 | 3 => simp [groupOf]
  | k + 4 => simp [groupOf]

/-- The tests of R28 by an element's fields are those by its bytes. -/
theorem Element.trapReason_elementOf (b : List Byte) : (elementOf b).trapReason = elementTrap b := by
  have hlow := u8_lt b 5
  have hsum : (elementOf b).sum = (u8 b 0 + u8 b 1 + u8 b 2 + u8 b 3 + u8 b 4 + u8 b 5 + u8 b 6) % 256 := by
    have hargument : u16 b 5 = u8 b 5 + 256 * u8 b 6 := u16_bytes b 5
    simp only [Element.sum, elementOf]
    omega
  have hgroup : (groupOf (u8 b 4)).isNone = true ↔ u8 b 4 = 0 ∨ 3 < u8 b 4 := by
    rw [Option.isNone_iff_eq_none, groupOf_eq_none]
  have hblock : (blockOf (u8 b 4)).isNone = true ↔ 3 < u8 b 4 := by
    rw [Option.isNone_iff_eq_none, blockOf_eq_none]
    omega
  rw [Element.trapReason, hsum, elementTrap]
  simp only [elementOf, hgroup, hblock, ite_or]
  congr!

/-! ## A WAIT that runs out (R32) -/

/-- The list behind a WAIT of `r` µs: at its next index. -/
def State.waitOver (s : State) (f : Frame) (r : Nat) : State := { s.elapse r with
  seq := { (s.elapse r).seq with elementTimer := none, frame := some { f with index := f.index + 1, phase := .start } } }

theorem exec_waitExpiry {s : State} {f : Frame} {r : Nat} (h : s.waits f r) :
    exec .waitExpiry s = .next ((s.waitOver f r).settle.publish s) := by
  obtain ⟨ht, hf, hphase, htimer, -, -⟩ := h
  have hlist : s.listIn .waiting = true := by simp [State.listIn, hf, hphase]
  have hover : ((s.elapse r).onSeq fun q => { q with elementTimer := none }).nextElement = s.waitOver f r := by
    simp [State.nextElement, State.onFrame, State.onSeq, State.waitOver, hf]
  rw [show exec .waitExpiry s = execWaitExpiry s from rfl, execWaitExpiry, State.event_taking _ ht,
    State.elementTimedOut, if_pos hlist, htimer, State.onExpiry_some, hover]

/-- The piece of work that follows is the element at the next index. -/
theorem State.waitOver_settleStep {s : State} {f : Frame} {r : Nat} (h : s.waits f r) :
    (s.waitOver f r).settleStep =
      some ((s.waitOver f r).runElement { f with index := f.index + 1, phase := .start }) := by
  obtain ⟨-, -, -, -, halign, -⟩ := h
  rw [State.settleStep, show (s.waitOver f r).seq.frame = some { f with index := f.index + 1, phase := .start } from rfl]
  exact if_pos ⟨rfl, (congrArg FrameTable.align (State.elapse_table s r)).trans halign⟩

/-- Elements are read from the pool's memory alone. -/
theorem State.elementBytes_of_pool {s s' : State} (h : s'.pool = s.pool) (slot : Slot) (index : Nat) :
    s'.elementBytes slot index = s.elementBytes slot index := by
  rw [State.elementBytes, h]
  rfl

/-- The engine is as free, or as busy, once the WAIT has run out. -/
theorem State.waitOver_engine {s : State} {f : Frame} {r : Nat} (h : s.waits f r) :
    (s.waitOver f r).chain.engine.isSome = true ∨ (s.waitOver f r).chain.noRequest := by
  obtain ⟨-, -, -, -, -, hengine | ⟨hnone, -⟩⟩ := h
  · exact .inl ((congrArg Option.isSome (State.elapse_engine s r)).trans hengine)
  · obtain ⟨h1, h2, h3, h4⟩ := hnone
    exact .inr ⟨(State.elapse_location s r).trans h1, (State.elapse_seqRequest s r).trans h2,
      (State.elapse_sleepRequest s r).trans h3, (State.elapse_chainSlot s r).trans h4⟩

/-! ## A trap behind a WAIT (R37) -/

/-- The alert of an illegal element (R37). -/
def trapAlert (slot : Slot) (index : Nat) (el : Element) (frameNumber : Half) : AlertKind × List Byte :=
  (.sequenceTrap, [BitVec.ofNat 8 (slotCode slot), BitVec.ofNat 8 index, BitVec.ofNat 8 el.kind,
    BitVec.ofNat 8 el.trapReason, frameNumber.setWidth 8, (frameNumber >>> 8).setWidth 8])

theorem leBytes_half (v : Half) : leBytes 2 v.toNat = [v.setWidth 8, (v >>> 8).setWidth 8] := by
  simp only [leBytes, List.cons.injEq, and_true]
  refine ⟨BitVec.eq_of_toNat_eq (by simp), BitVec.eq_of_toNat_eq ?_⟩
  simp [Nat.shiftRight_eq_div_pow]

theorem trapAlert_payload (slot : Slot) (index : Nat) (el : Element) (v : Half) :
    packFields [(1, (slotCode slot : Int)), (1, (index : Int)), (1, (el.kind : Int)), (1, (el.trapReason : Int)),
      (2, (v.toNat : Int))] = (trapAlert slot index el v).2 := by
  have hbyte (x : Nat) : leBytes 1 x = [BitVec.ofNat 8 x] := rfl
  simp [packFields, leSigned_nat, leBytes_half, hbyte, trapAlert]

/-- The state in which the element behind a WAIT has trapped. -/
def State.waitTrapped (s : State) (f : Frame) (r : Nat) : State := { s.elapse r with
  seq := { (s.elapse r).seq with
    elementTimer := none
    frame := some { f with index := f.index + 1, phase := .ended, trapped := true, trapIndex := f.index + 1 } }
  transit := { (s.elapse r).transit with alerts := (s.elapse r).transit.alerts ++
    [trapAlert f.slot (f.index + 1) (s.element f.slot (f.index + 1)) s.seq.frameNumber] } }

/-- An illegal element behind a WAIT ends the list with its trap and the alert. -/
theorem exec_waitExpiry_traps {s : State} {f : Frame} {r : Nat} (h : s.waits f r) (hl : f.index < f.last)
    (hk : f.kind ≠ .patrol) (hres : f.result = .asked) (htrap : (s.element f.slot (f.index + 1)).trapReason ≠ 0) :
    exec .waitExpiry s = .next (s.waitTrapped f r) := by
  have hel : (s.waitOver f r).elementBytes f.slot (f.index + 1) = s.elementBytes f.slot (f.index + 1) :=
    State.elementBytes_of_pool (State.elapse_pool s r) _ _
  have hnumber : (s.waitOver f r).seq.frameNumber = s.seq.frameNumber := State.elapse_frameNumber s r
  have hrun : (s.waitOver f r).runElement { f with index := f.index + 1, phase := .start } = s.waitTrapped f r := by
    rw [State.runElement, if_neg (by simpa using hl)]
    dsimp only
    rw [hel, if_pos htrap, State.trapList, if_neg hk]
    refine (congrArg (fun p => State.raise .sequenceTrap p _) (trapAlert_payload f.slot (f.index + 1)
      (s.element f.slot (f.index + 1)) (s.waitOver f r).seq.frameNumber)).trans ?_
    rw [hnumber]
    rfl
  have hidle : (s.waitTrapped f r).workIdle :=
    ⟨by simp [State.listIdle, State.waitTrapped, hres], State.waitOver_engine h⟩
  have hshown : (s.waitTrapped f r).sameShown s := State.elapse_sameShown s r
  rw [exec_waitExpiry h, State.settle_of_one ((State.waitOver_settleStep h).trans (congrArg some hrun))
    (State.settleStep_of_workIdle hidle), State.publish_of_sameShown hshown]

/-! ## The end of a read (R33, R34, R60) -/

theorem FrameTable.slot_setSlot_self (t : FrameTable) {n : Nat} (x : NodeSlot) (h : 1 ≤ n ∧ n ≤ 20) :
    (t.setSlot n x).slot n = x := by
  have h0 : n ≠ 0 := by omega
  have hb : n - 1 < 20 := by omega
  simp [FrameTable.slot, FrameTable.setSlot, h0, hb]

theorem FrameTable.slot_setSlot_other (t : FrameTable) {n m : Nat} (x : NodeSlot) (h : m ≠ n) :
    (t.setSlot n x).slot m = t.slot m := by
  by_cases hm : m = 0
  · simp [FrameTable.slot, hm]
  · by_cases hn : n = 0
    · simp [FrameTable.setSlot, hn]
    · have hne : n - 1 ≠ m - 1 := by omega
      simp [FrameTable.slot, FrameTable.setSlot, hm, hn, Vector.getElem?_setIfInBounds_ne hne]

/-- The node slot behind a read of its temperatures, or of its cells with their timing capture. -/
def State.readSlot (s : State) (n : Nat) (temps : Bool) (mark : Mark) (words : List Half) : NodeSlot :=
  if temps then { s.table.slot n with tempMark := mark, temps := words }
  else { s.table.slot n with
    cellMark := mark, codes := words.map (·.toNat), vc := [], vcomp := [], ts := none, current := 0
    capture := if words = [] then none else some (s.captureNow n)
    flags := { NodeFlags.clear with unaligned := decide (words ≠ []) } }

theorem State.writeBlock_eq (s : State) (n : Nat) (temps : Bool) (mark : Mark) (words : List Half) :
    s.writeBlock n temps mark words = { s with table := s.table.setSlot n (s.readSlot n temps mark words) } := by
  cases temps
  · simp only [State.writeBlock, State.writeCells, State.readSlot, State.onTable, NodeSlot.clearComputed]
    cases words <;> rfl
  · rfl

/-- Behind the last node's last read no read of the element is left. -/
theorem State.gatherAfter_last {s : State} {e : Element} {n : Nat} {temps : Bool} (hl : e.lastNode = n)
    (hmore : temps = true ∨ e.hasTemps = false ∨ (s.chain.node n).temps = 0) :
    s.gatherAfter e (readKey n temps) = s.nextElement := by
  have hnone : (s.readsOf e).find? (fun x => decide (readKey n temps < readKey x.1 x.2)) = none := by
    rw [List.find?_eq_none]
    rintro ⟨m, block⟩ hm
    obtain ⟨l, hl', hml⟩ := List.mem_flatten.mp hm
    obtain ⟨k, hk, rfl⟩ := List.mem_map.mp hl'
    have hkn : k ≤ n := by
      have := List.mem_range'_1.mp hk
      omega
    have hmem : m = k ∧ (block = true → e.hasTemps = true ∧ (s.chain.node k).temps ≠ 0) := by
      rcases List.mem_append.mp hml with hc | ht
      · split at hc <;> simp_all
      · split at ht <;> simp_all
    obtain ⟨rfl, htemps⟩ := hmem
    rw [decide_eq_true_eq, readKey, readKey]
    rcases Nat.lt_or_eq_of_le hkn with hlt | rfl
    · cases block <;> cases temps <;> simp [boolCode] <;> omega
    · cases block <;> cases temps <;> simp_all [boolCode]
  rw [State.gatherAfter, hnone]

/-- The state behind the list's last read: the slot written, the list ended. -/
def State.gathered (s : State) (f : Frame) (n : Nat) (temps : Bool) (mark : Mark) (words : List Half) : State := { s with
  table := s.table.setSlot n (s.readSlot n temps mark words)
  seq := { s.seq with frame := some f.afterLast } }

section
variable {s : State} {f : Frame} {n repolls : Nat} {temps : Bool}

/-- The read is the last of its element at the list's last index, the frame's allocation is open, and no request waits for
the engine: nothing else follows it. -/
def State.readsLast (s : State) (f : Frame) (n repolls : Nat) (temps : Bool) : Prop :=
  s.seq.frame = some f ∧ f.phase = .gathering n temps repolls ∧ f.result = .asked ∧ f.index = f.last ∧
  s.table.align = .idle ∧ f.element.lastNode = n ∧
  (temps = true ∨ f.element.hasTemps = false ∨ (s.chain.node n).temps = 0) ∧ s.chain.noRequest

theorem State.settle_gathered (h : s.readsLast f n repolls temps) (mark : Mark) (words : List Half) :
    ((s.writeBlock n temps mark words).gatherAfter f.element (readKey n temps)).settle =
      s.gathered f n temps mark words := by
  obtain ⟨hf, -, hres, hlast, halign, hnode, hmore, hwork⟩ := h
  rw [State.writeBlock_eq, State.gatherAfter_last
    (s := { s with table := s.table.setSlot n (s.readSlot n temps mark words) }) hnode hmore]
  have hnext : State.nextElement { s with table := s.table.setSlot n (s.readSlot n temps mark words) } = { s with
      table := s.table.setSlot n (s.readSlot n temps mark words)
      seq := { s.seq with frame := some { f with index := f.index + 1, phase := .start } } } := by
    simp [State.nextElement, State.onFrame, State.onSeq, hf]
  have halign' : (s.table.setSlot n (s.readSlot n temps mark words)).align = .idle := by
    unfold FrameTable.setSlot
    split <;> exact halign
  rw [hnext]
  refine (State.settle_listEnds (s := { s with
      table := s.table.setSlot n (s.readSlot n temps mark words)
      seq := { s.seq with frame := some { f with index := f.index + 1, phase := .start } } })
    (f := { f with index := f.index + 1, phase := .start }) rfl rfl halign' ?_ hres (.inr hwork)).trans rfl
  rw [hlast]
  exact Nat.lt_succ_self _

/-- A read that gives a mark ends the list; one that is BUSY is asked for again after 20 µs. -/
theorem State.settle_gatherEnded_marked (h : s.readsLast f n repolls temps) {x : TransactionEnd} {mark : Mark}
    {words : List Half}
    (hx : s.gatherEnded f.element n temps repolls x =
      (s.writeBlock n temps mark words).gatherAfter f.element (readKey n temps)) :
    (s.sequencerEnded x).settle = s.gathered f n temps mark words := by
  obtain ⟨hf, hphase, -⟩ := id h
  rw [State.sequencerEnded, hf]
  dsimp only
  rw [hphase]
  dsimp only
  rw [hx, State.settle_gathered h]

theorem State.settle_gatherEnded_busy (h : s.readsLast f n repolls temps) {x : TransactionEnd}
    (hx : s.gatherEnded f.element n temps repolls x = (s.onSeq fun q => { q with repollTimer := some 20 }).onFrame
      fun f => { f with phase := .gathering n temps (repolls + 1) }) :
    (s.sequencerEnded x).settle = { s with seq := { s.seq with
      repollTimer := some 20, frame := some { f with phase := .gathering n temps (repolls + 1) } } } := by
  obtain ⟨hf, hphase, -, -, -, -, -, hwork⟩ := id h
  have hseq : (s.onSeq fun q => { q with repollTimer := some 20 }).onFrame
      (fun f => { f with phase := .gathering n temps (repolls + 1) }) = { s with seq := { s.seq with
        repollTimer := some 20, frame := some { f with phase := .gathering n temps (repolls + 1) } } } := by
    simp [State.onFrame, State.onSeq, hf]
  rw [State.sequencerEnded, hf]
  dsimp only
  rw [hphase]
  dsimp only
  rw [hx, hseq]
  exact State.settle_of_workIdle ⟨by simp [State.listIdle], .inr hwork⟩

end

/-! ## The events that end a read (R5, R6, R33) -/

/-- An end that is neither an ACK nor a NACK goes to the requester as it is, with the engine free. -/
theorem State.finishTransaction_plain (s : State) (e : Engine) {x : TransactionEnd} (hack : x ≠ .ack)
    (hnack : ∀ badValue, x ≠ .nack badValue) :
    s.finishTransaction e x = (s.onChain Chain.freeEngine).deliver e.requester e.frame x := by
  unfold State.finishTransaction
  cases x with
  | ack => exact absurd rfl hack
  | nack badValue => exact absurd rfl (hnack badValue)
  | _ => rfl

theorem State.finishTransaction_dataRead (s : State) {e : Engine} (hr : e.requester = .sequencer) (tag : Byte)
    (busy : Bool) (words : List Half) : s.finishTransaction e (.data tag busy words) =
      (s.onChain Chain.freeEngine).sequencerEnded (.data tag busy words) := by
  rw [State.finishTransaction_plain s e (by simp) (by simp), hr]
  rfl

/-- The state in which a read of node `n` has failed: the engine is free, the node's entry is `x`, and `raised` are the
alerts of its counts. -/
def State.readFailed (s : State) (n : Nat) (x : NodeEntry) (raised : List (AlertKind × List Byte)) : State := { s with
  chain := s.chain.freeEngine.setNode n x
  transit := { s.transit with alerts := s.transit.alerts ++ raised } }

section
variable {s u : State} {e : Engine} {f : Frame} {n repolls : Nat} {temps : Bool}

theorem State.finishTransaction_nackRead (hr : e.requester = .sequencer) (hn : e.frame.node = n) (h : 1 ≤ n ∧ n ≤ 20)
    (badValue : Bool) : s.finishTransaction e (.nack badValue) = (s.readFailed n { s.chain.node n with
      failedMark := true, lastError := if badValue then .nackBadValue else .nackBadBlock } []).sequencerEnded
      (.nack badValue) := by
  have hnode : s.chain.freeEngine.node n = s.chain.node n := rfl
  rw [State.finishTransaction_nack, hr, hn, State.deliver]
  simp [State.readFailed, State.setNodeError, State.onChain, Chain.markFailed, TransactionEnd.failed, hn, hnode,
    Chain.node_setNode_self _ _ h, Chain.setNode_setNode, NodeEntry.setError]

theorem State.endAttempt_lastRead (hr : e.requester = .sequencer) (hf : e.frame.isNodeFrame = true)
    (hn : e.frame.node = n) (h : 1 ≤ n ∧ n ≤ 20) (hleft : e.attemptsLeft = 0) (crc : Bool) : u.endAttempt e crc =
      (u.readFailed n { (u.chain.node n).attempted crc with failedMark := true }
        ((u.chain.node n).fullAlert n crc)).sequencerEnded (if crc then .crcFailure else .timeout) := by
  have hfailed : (if crc then TransactionEnd.crcFailure else .timeout).failed = true := by cases crc <;> rfl
  have hself (y : NodeEntry) : (u.chain.freeEngine.setNode n y).node n = y := Chain.node_setNode_self _ _ h
  rw [State.endAttempt_last hf hn h hleft, State.finishTransaction_plain _ _ (by cases crc <;> simp)
    (by cases crc <;> simp), hr, State.deliver, hfailed, hn, if_pos rfl]
  simp only [State.onChain, State.attemptCounted, Chain.markFailed, State.readFailed, ← Chain.freeEngine_setNode, hself,
    Chain.setNode_setNode]

/-- What a failed read leaves of the node and of the requests. -/
theorem State.readFailed_chain (s : State) (n : Nat) (x : NodeEntry) (raised : List (AlertKind × List Byte)) :
    (s.readFailed n x raised).chain = { s.chain.freeEngine with nodes := (s.chain.setNode n x).nodes } := by
  rw [State.readFailed, Chain.freeEngine_setNode, Chain.setNode_eq]
  rfl

/-- A read that fails keeps the list where it was, with the engine free. -/
theorem State.readsLast.readFailed (h : u.readsLast f n repolls temps) (hn : 1 ≤ n ∧ n ≤ 20) {x : NodeEntry}
    (hx : x.temps = (u.chain.node n).temps) (raised : List (AlertKind × List Byte)) :
    (u.readFailed n x raised).readsLast f n repolls temps := by
  obtain ⟨hf, hphase, hres, hlast, halign, hnode, hmore, hwork⟩ := h
  have htemps : ((u.readFailed n x raised).chain.node n).temps = (u.chain.node n).temps := by
    rw [← hx]
    exact congrArg NodeEntry.temps (Chain.node_setNode_self _ _ hn)
  refine ⟨hf, hphase, hres, hlast, halign, hnode, by rwa [htemps], ?_⟩
  rw [State.readFailed_chain]
  exact hwork

/-- A read has ended with a mark and the words kept: the view shows them at node `n`, the list has ended, and nothing
waits for the engine; `u` is the state once the time of an expiry has passed. -/
def State.readMarked (s u t : State) (f : Frame) (n : Nat) (temps : Bool) (mark : Mark) (words : List Half) : Prop :=
  (∀ m, m ≠ n → t.table.slot m = s.table.slot m) ∧ t.chain.engine = none ∧ t.chain.seqRequest = none ∧
  t.seq = { u.seq with frame := some { f with index := f.index + 1, phase := .ended } } ∧
  if temps then t.table.slot n = { s.table.slot n with tempMark := mark, temps := words }
  else t.table.slot n = { s.table.slot n with
    cellMark := mark, codes := words.map (·.toNat), vc := [], vcomp := [], ts := none, current := 0
    capture := if words = [] then none else some ⟨(s.chain.node n).path, (s.chain.node n).hops, (s.chain.node n).offset,
      match (s.chain.node n).path with
      | .pathA => s.table.issueA
      | .pathB => s.table.issueB
      | .noPath => none⟩
    flags := { NodeFlags.clear with unaligned := decide (words ≠ []) } }

theorem State.readMarked_gathered {v : State} (hn : 1 ≤ n ∧ n ≤ 20) (htable : v.table = s.table) (hseq : v.seq = u.seq)
    (hengine : v.chain.engine = none) (hreq : v.chain.seqRequest = none) {mark : Mark} {words : List Half}
    (hentry : words ≠ [] → v.chain.node n = s.chain.node n) :
    s.readMarked u (v.gathered f n temps mark words) f n temps mark words := by
  have hslot : v.table.slot n = s.table.slot n := by rw [htable]
  have hself : (v.gathered f n temps mark words).table.slot n = v.readSlot n temps mark words :=
    FrameTable.slot_setSlot_self _ _ hn
  refine ⟨fun m hm => ?_, hengine, hreq, ?_, ?_⟩
  · rw [← htable]
    exact FrameTable.slot_setSlot_other _ _ hm
  · rw [← hseq]
    rfl
  · rw [hself, State.readSlot, hslot]
    cases temps with
    | true => rfl
    | false =>
      by_cases hw : words = []
      · simp [hw]
      · simp only [hw, if_false, State.captureNow, hentry hw, htable]
        rfl

end

/-! ## GATHER and traps (R28, R33, R37) -/

/-- What `Obligations.GatherMarksAndTraps` supposes of a read, as far as it concerns the list and the engine. -/
structure State.readRuns (s : State) (e : Engine) (f : Frame) (n repolls : Nat) (temps : Bool) : Prop where
  taking : s.taking
  engine : s.chain.engine = some e
  requester : e.requester = .sequencer
  nodeFrame : e.frame.isNodeFrame = true
  addressed : e.frame.node = n
  range : 1 ≤ n ∧ n ≤ 20
  last : s.readsLast f n repolls temps

section
variable {s : State} {e : Engine} {f : Frame} {n repolls : Nat} {temps : Bool}

/-- The end of a read's event: nothing that the Status Block shows has changed. -/
theorem State.publish_gathered {v : State} (h : v.sameShown s) (mark : Mark) (words : List Half) :
    (v.gathered f n temps mark words).publish s = v.gathered f n temps mark words :=
  State.publish_of_sameShown h

/-- A DATA reply marks the block by the tests of R33 in their order, or asks for a re-poll (R34). -/
theorem State.readRuns.data (h : s.readRuns e f n repolls temps) (hphase : e.phase = .awaiting ∨ e.phase = .receiving)
    {bytes : List Byte} {tag : Byte} {busy : Bool} {words : List Half}
    (hj : judgeReply e.frame bytes = some (.data tag busy words)) :
    exec (.replyReceived e.port bytes) s = .next
      (match gatherMark (if temps then (s.chain.node n).temps else (s.chain.node n).cells) s.seq.tag tag busy
          (f.element.flags == 1) repolls words with
        | some (mark, kept) => (s.onChain Chain.freeEngine).gathered f n temps mark kept
        | none => { s.onChain Chain.freeEngine with seq := { s.seq with
            repollTimer := some 20, frame := some { f with phase := .gathering n temps (repolls + 1) } } }) := by
  have hlast : (s.onChain Chain.freeEngine).readsLast f n repolls temps := h.last
  rw [State.exec_replyReceived h.taking h.engine hphase, State.replied, hj]
  dsimp only
  rw [State.finishTransaction_dataRead s h.requester]
  cases hmark : gatherMark (if temps then (s.chain.node n).temps else (s.chain.node n).cells) s.seq.tag tag busy
      (f.element.flags == 1) repolls words with
  | some x =>
    obtain ⟨mark, kept⟩ := x
    rw [State.settle_gatherEnded_marked hlast (mark := mark) (words := kept)]
    · exact congrArg Host.Outcome.next (State.publish_gathered (by simp [State.sameShown]) mark kept)
    · have hmark' := hmark
      simp only [State.gatherEnded]
      rw [show (s.onChain Chain.freeEngine).chain.node n = s.chain.node n from rfl, State.onChain_seq, hmark']
  | none =>
    rw [State.settle_gatherEnded_busy hlast]
    · exact congrArg Host.Outcome.next (State.publish_of_sameShown (by simp [State.sameShown]))
    · have hmark' := hmark
      simp only [State.gatherEnded]
      rw [show (s.onChain Chain.freeEngine).chain.node n = s.chain.node n from rfl, State.onChain_seq, hmark']

theorem State.readRuns.nack (h : s.readRuns e f n repolls temps) (hphase : e.phase = .awaiting ∨ e.phase = .receiving)
    {bytes : List Byte} {badValue : Bool} (hj : judgeReply e.frame bytes = some (.nack badValue)) :
    exec (.replyReceived e.port bytes) s = .next ((s.readFailed n { s.chain.node n with
      failedMark := true, lastError := if badValue then .nackBadValue else .nackBadBlock } []).gathered f n temps
        .failed []) := by
  rw [State.exec_replyReceived h.taking h.engine hphase, State.replied, hj]
  dsimp only
  rw [State.finishTransaction_nackRead h.requester h.addressed h.range,
    State.settle_gatherEnded_marked (h.last.readFailed h.range (by rfl) []) rfl]
  exact congrArg Host.Outcome.next (State.publish_gathered (by simp [State.sameShown, State.readFailed]) .failed [])

theorem NodeEntry.attempted_temps (x : NodeEntry) (crc : Bool) : (x.attempted crc).temps = x.temps := by
  cases crc <;> rfl

/-- A read that fails marks its block, whatever failed. -/
theorem State.gatherEnded_fails (v : State) (el : Element) (n : Nat) (temps : Bool) (repolls : Nat) (crc : Bool) :
    v.gatherEnded el n temps repolls (if crc then .crcFailure else .timeout) =
      (v.writeBlock n temps .failed []).gatherAfter el (readKey n temps) := by
  cases crc <;> rfl

theorem State.readsLast.elapse (h : s.readsLast f n repolls temps) (r : Nat) :
    (s.elapse r).readsLast f n repolls temps := by
  simpa [State.readsLast, Chain.noRequest] using h

/-- A last attempt that fails marks its block, and counts against the node (R7). -/
theorem State.readRuns.fails (h : s.readRuns e f n repolls temps) {c : Instr} {u : State} {crc : Bool}
    (hf : s.lastAttemptFails e c u crc) : exec c s = .next ((u.readFailed n { (s.chain.node n).attempted crc with
      failedMark := true } ((s.chain.node n).fullAlert n crc)).gathered f n temps .failed []) := by
  have hu : u.sameShown s ∧ u.readsLast f n repolls temps ∧ u.chain.node n = s.chain.node n := by
    rcases hf.state with rfl | ⟨r, rfl⟩
    · exact ⟨by simp [State.sameShown], h.last, rfl⟩
    · exact ⟨State.elapse_sameShown s r, h.last.elapse r, State.elapse_node s r n⟩
  obtain ⟨hshown, hlast, hnode⟩ := hu
  obtain ⟨x, hx⟩ : ∃ x, x = { (u.chain.node n).attempted crc with failedMark := true } := ⟨_, rfl⟩
  have hxtemps : x.temps = (u.chain.node n).temps := by
    rw [hx]
    exact NodeEntry.attempted_temps _ crc
  have hshown' : (u.readFailed n x ((u.chain.node n).fullAlert n crc)).sameShown s := hshown
  rw [State.exec_lastAttemptFails h.taking h.engine hf, State.endAttempt_lastRead h.requester h.nodeFrame h.addressed
    h.range hf.1, ← hx, State.settle_gatherEnded_marked (hlast.readFailed h.range hxtemps _)
      (State.gatherEnded_fails _ _ _ _ _ crc), State.publish_gathered hshown', hx, hnode]

/-- The mark of a read that a DATA reply ends. -/
theorem State.readRuns.marked (h : s.readRuns e f n repolls temps) (hreq : s.chain.seqRequest = none) (mark : Mark) (words : List Half) :
    s.readMarked s ((s.onChain Chain.freeEngine).gathered f n temps mark words) f n temps mark words :=
  State.readMarked_gathered (v := s.onChain Chain.freeEngine) h.range rfl rfl rfl hreq fun _ => rfl

/-- The mark of a read that has failed, with the node's entry and its alerts. -/
theorem State.readFailed_marked {u : State} (hn : 1 ≤ n ∧ n ≤ 20) (htable : u.table = s.table)
    (hreq : u.chain.seqRequest = none) (hnodes : ∀ m, u.chain.node m = s.chain.node m) (x : NodeEntry)
    (raised : List (AlertKind × List Byte)) :
    s.readMarked u ((u.readFailed n x raised).gathered f n temps .failed []) f n temps .failed [] ∧
    ((u.readFailed n x raised).gathered f n temps .failed []).chain.node n = x ∧
    (∀ m, m ≠ n → ((u.readFailed n x raised).gathered f n temps .failed []).chain.node m = s.chain.node m) := by
  refine ⟨State.readMarked_gathered (v := u.readFailed n x raised) hn htable rfl ?_ ?_ (fun h => absurd rfl h),
    Chain.node_setNode_self _ _ hn, fun m hm => ?_⟩
  · rw [State.readFailed_chain]
    rfl
  · rw [State.readFailed_chain]
    exact hreq
  · exact (Chain.node_setNode_other _ _ hm).trans (hnodes m)

end

/-- Settles O42: the tests of an element, the ends of a read one by one, and the trap. -/
theorem gatherMarksAndTraps : Obligations.GatherMarksAndTraps := by
  unfold Obligations.GatherMarksAndTraps
  refine ⟨Element.trapReason_elementOf, ?_, ?_⟩
  · rintro e f n repolls temps bytes s ht hwork he hr ⟨b, k, hframe⟩ hphase hf hgather hres hlast halign hn hnode hmore
    have hruns : s.readRuns e f n repolls temps :=
      ⟨ht, he, hr, by rw [hframe]; rfl, by rw [hframe]; rfl, hn, hf, hgather, hres, hlast, halign, hnode, hmore, hwork⟩
    refine ⟨fun tag busy words hj => ?_, fun badValue hj => ?_, fun c u crc hfail => ?_⟩
    · refine ⟨_, hruns.data hphase hj, ?_, ?_, fun h1 => ?_, fun h1 h2 => ?_, fun h1 h2 h3 => ?_, fun h1 h2 h3 h4 => ?_,
        fun h1 h2 h3 h4 h5 => ?_⟩
      · split <;> rfl
      · split <;> simp [sameExcept_iff, State.gathered]
      · rw [gatherMark, if_pos h1]
        exact hruns.marked hwork.2.1 _ _
      · rw [gatherMark, if_neg (not_not.mpr h1), if_pos h2]
        exact hruns.marked hwork.2.1 _ _
      · rw [gatherMark, if_neg (not_not.mpr h1), if_neg (not_not.mpr h2), if_neg (by simp [h3])]
        exact hruns.marked hwork.2.1 _ _
      · rw [gatherMark, if_neg (not_not.mpr h1), if_neg (not_not.mpr h2), if_pos h3, if_pos (by simpa using h4)]
        exact hruns.marked hwork.2.1 _ _
      · rw [gatherMark, if_neg (not_not.mpr h1), if_neg (not_not.mpr h2), if_pos h3,
          if_neg (by simpa [h4] using h5)]
        exact ⟨rfl, rfl, rfl, hwork.2.1⟩
    · obtain ⟨hmarked, hself, hother⟩ := State.readFailed_marked (s := s) (u := s) (f := f) (temps := temps) hn rfl
        hwork.2.1 (fun _ => rfl) { s.chain.node n with
          failedMark := true, lastError := if badValue then .nackBadValue else .nackBadBlock } []
      refine ⟨_, hruns.nack hphase hj, hmarked, hself, hother, ?_⟩
      simp [sameExcept_iff, State.gathered, State.readFailed]
    · have hu : u.table = s.table ∧ u.chain.seqRequest = none ∧ (∀ m, u.chain.node m = s.chain.node m) ∧
          u.transit = s.transit := by
        rcases hfail.state with rfl | ⟨r, rfl⟩
        · exact ⟨rfl, hwork.2.1, fun _ => rfl, rfl⟩
        · exact ⟨State.elapse_table s r, (State.elapse_seqRequest s r).trans hwork.2.1, State.elapse_node s r,
            State.elapse_transit s r⟩
      obtain ⟨htable, hreq, hnodes, htransit⟩ := hu
      obtain ⟨hmarked, hself, hother⟩ := State.readFailed_marked (f := f) (temps := temps) hn htable hreq hnodes
        { (s.chain.node n).attempted crc with failedMark := true } ((s.chain.node n).fullAlert n crc)
      refine ⟨_, hruns.fails hfail, hmarked, hself, hother, ?_, ?_⟩
      · rw [← htransit]
        rfl
      · simp [sameExcept_iff, State.gathered, State.readFailed]
  · intro f r s hwaits hl hk hres el htrap
    refine ⟨_, exec_waitExpiry_traps hwaits hl hk hres htrap, rfl, ?_, ?_⟩
    · rw [← State.elapse_transit s r]
      rfl
    · simp [sameExcept_iff, State.waitTrapped]

end Sys2Proof.Machine

namespace Sys2Proof.Machine

open Sys2Proof

/-! ## The range and the period of a sampling order (R40) -/

/-- The range of a body: slot 0 or 1, and indexes up to 31 in order. -/
theorem State.rangeOf_eq_some {s : State} {n i first last : Nat} {slot : Slot} :
    s.rangeOf n i = some (slot, first, last) ↔
      s.body8 n i = (if slot = .slotA then 0 else 1) ∧ first = s.body8 n (i + 1) ∧ last = s.body8 n (i + 2) ∧
        first ≤ last ∧ last ≤ 31 := by
  have hslot : slotOf (s.body8 n i) = some slot ↔ s.body8 n i = (if slot = .slotA then 0 else 1) := by
    unfold slotOf
    split
    · rename_i h
      cases slot <;> simp [h]
    · rename_i h
      cases slot <;> simp [h]
    · cases slot <;> simp_all
  rw [← hslot, State.rangeOf]
  cases slotOf (s.body8 n i) with
  | none => simp
  | some x =>
    by_cases hout : 31 < s.body8 n (i + 1) ∨ 31 < s.body8 n (i + 2) ∨ s.body8 n (i + 2) < s.body8 n (i + 1)
    · simp only [if_pos hout, Option.some.injEq]
      refine iff_of_false (by simp) ?_
      rintro ⟨-, rfl, rfl, h1, h2⟩
      omega
    · simp only [if_neg hout, Option.some.injEq, Prod.mk.injEq]
      refine and_congr_right fun _ => ⟨?_, ?_⟩
      · rintro ⟨rfl, rfl⟩
        omega
      · rintro ⟨h1, h2, -⟩
        exact ⟨h1.symm, h2.symm⟩

theorem State.rangeOf_taken (s : State) (n m i : Nat) : (s.taken n).rangeOf m i = s.rangeOf m i := by
  simp [State.rangeOf]

/-- A period is 0 for the profile's own, or clamped to 10 to 1,000 ms. -/
theorem framePeriod_eq (value default : Nat) : framePeriod value default =
    (if value = 0 then default else min 1000 (max 10 value),
      decide (value ≠ 0 ∧ (value < 10 ∨ 1000 < value))) := by
  unfold framePeriod
  split_ifs with h0 hlow hhigh
  · simp [h0]
  · simp [h0, hlow, Nat.max_eq_left (Nat.le_of_lt hlow)]
  · simp [h0, hhigh]
    omega
  · simp [h0, hlow, hhigh]
    omega

/-! ## What a completion leaves of the pool (R141) -/

/-- A completion writes memory, the table, and the lists of releases and results. -/
theorem State.complete_pool_form (s : State) (n : Nat) (code : Completion) (detail : Word) (answer : List Byte)
    (clamped truncated : Bool) : ∃ memory table releases results,
      (s.complete n code detail answer clamped truncated).pool = { s.pool with
        memory := memory, table := table, releaseList := releases, resultQueue := results } := by
  rw [State.complete_eq]
  dsimp only
  rw [Pool.completed_eq]
  split
  · rw [Pool.beginRelease, Pool.setEntry_table]
    exact ⟨_, _, _, _, rfl⟩
  · rw [Pool.queueResult, Pool.setEntry_table]
    exact ⟨_, _, _, _, rfl⟩

/-- A completion seen from a state with the same buffers is the same completion. -/
theorem Completed.of_sameBuffers {s s' t : State} {n : Nat} {code : Completion} {detail : Word} {flags : Nat}
    (hb : s'.pool.sameBuffers s.pool) (h : Completed s' t n code detail flags) : Completed s t n code detail flags := by
  obtain ⟨h6, h7, h8, h12, hlow, hjoin⟩ := h
  have hbyte (i : Nat) : s'.orderByte n i = s.orderByte n i := congrArg BitVec.toNat (hb.readBuffer n i)
  have hquiet : s'.quiet n = s.quiet n := by rw [State.quiet, State.quiet, hbyte]
  rw [hquiet, hb.releaseList, hb.resultQueue] at hjoin
  exact ⟨h6, h7, h8, h12, fun i hi => (hlow i hi).trans (hbyte i), hjoin⟩

theorem State.memoryOk_of_sameBuffers {s s' : State} (hb : s'.pool.sameBuffers s.pool) (hl : s'.link = s.link)
    (h : s.memoryOk) : s'.memoryOk := by
  obtain ⟨hwf, hpages, htarget⟩ := h
  refine ⟨by rw [hb.1]; exact hwf, Pool.pagesOk_iff.mpr fun n q hq => ?_, by rw [hl]; exact htarget⟩
  rw [hb.entry] at hq
  exact Pool.pagesOk_iff.mp hpages n q hq

theorem Pool.sound_of_sameBuffers {p q : Pool} {n : Nat} (hb : p.sameBuffers q) (h : q.sound n) : p.sound n := by
  rwa [Pool.sound, hb.entry]

/-! ## A frame start with no switch pending (R30, R31) -/

theorem Chain.clearMarks_failedMark (c : Chain) (m : Nat) : (c.clearMarks.node m).failedMark = false := by
  by_cases hm : 1 ≤ m ∧ m ≤ 20
  · rw [Chain.node_clearMarks c hm]
  · by_cases h0 : m = 0
    · rw [h0, Chain.node_zero]
      rfl
    · have hout : c.clearMarks.nodes[m - 1]? = none := Vector.getElem?_eq_none (by omega)
      rw [Chain.node, if_neg h0, hout]
      rfl

/-- Elements are read of memory alone. -/
theorem State.rangeBytes_of_memory {s s' : State} (h : s'.pool.memory = s.pool.memory) (slot : Slot) (first last : Nat) :
    s'.rangeBytes slot first last = s.rangeBytes slot first last := by
  have hbytes (i : Nat) : s'.elementBytes slot i = s.elementBytes slot i := by
    rw [State.elementBytes, h]
    rfl
  exact List.map_congr_left fun i _ => hbytes i

/-- The pages that a range's result wants (R31). -/
def State.rangePages (s : State) (slot : Slot) (first last : Nat) : Nat :=
  (64 + stopAreaBytes (s.rangeBytes slot first last) +
    ((s.sizedNodes (s.rangeBytes slot first last)).map recordSize).sum + 255) / 256

/-- The state behind a frame start of the active slot's range. -/
def State.started (s : State) (kind : FrameKind) (slot : Slot) (first last : Nat) : State := { s with
  chain := s.chain.clearMarks
  table := .reset
  pool := Pool.grant { s.pool with waitingSampler := some (s.rangePages slot first last) }
  seq := { s.seq with
    sampler := .running
    frameNumber := s.seq.frameNumber + 1
    tag := (s.seq.frameNumber + 1).setWidth 8
    frameStart := s.now
    elementTimer := none
    repollTimer := none
    frameTimer := if kind = .normal then some (1000 * s.seq.period) else s.seq.frameTimer
    startDue := if kind = .normal then false else s.seq.startDue
    frame := some (.start kind slot first last false (stopAreaBytes (s.rangeBytes slot first last))
      (s.sizedNodes (s.rangeBytes slot first last))) } }

theorem State.frameStart_started {s : State} {slot : Slot} {first last : Nat} (kind : FrameKind)
    (hp : s.seq.pendingSwitch = none) (hslot : s.seq.activeSlot = some slot) (hfirst : s.seq.first = first)
    (hlast : s.seq.last = last) (hl : last ≤ 31) : s.frameStart kind false = s.started kind slot first last := by
  subst hfirst hlast
  obtain ⟨b, hb⟩ : ∃ b, b = s.frameStartCommon := ⟨_, rfl⟩
  have hswitch : s.frameStartCommon.takeSwitch = b := by
    rw [hb, State.takeSwitch, show s.frameStartCommon.seq.pendingSwitch = none from hp]
  have helements : b.elementsOf slot s.seq.first s.seq.last = (s.rangeBytes slot s.seq.first s.seq.last).map elementOf :=
    State.elementsOf_eq (fun a _ => by rw [hb]; rfl) slot s.seq.first hl
  have hnodes : b.resultNodesOf ((s.rangeBytes slot s.seq.first s.seq.last).map elementOf) =
      s.sizedNodes (s.rangeBytes slot s.seq.first s.seq.last) := by
    refine State.resultNodesOf_eq (fun m h1 h20 => ?_) _
    rw [hb, show s.frameStartCommon.chain.node m = s.chain.clearMarks.node m from rfl,
      Chain.node_clearMarks _ ⟨h1, h20⟩]
    exact ⟨Iff.rfl, rfl, rfl⟩
  have hbslot : b.seq.activeSlot = some slot := by rw [hb]; exact hslot
  have hbfirst : b.seq.first = s.seq.first := by rw [hb]; rfl
  have hblast : b.seq.last = s.seq.last := by rw [hb]; rfl
  rw [State.frameStart, hswitch]
  simp only [hbslot, Option.getD_some, hbfirst, hblast, helements, hnodes, stopAreaOf_map]
  rw [hb]
  rfl

/-- A grant keeps what the sizing of a result reads of the requests. -/
theorem State.frameSized_of {s t : State} {slot : Slot} {first last : Nat} {p : Pool}
    (hframe : t.seq.frame.map (fun f => (f.result, f.stopArea, f.resultNodes)) =
      some (.asked, stopAreaBytes (s.rangeBytes slot first last), s.sizedNodes (s.rangeBytes slot first last)))
    (hi : p.inProgress = s.pool.inProgress) (ha : p.waitingAlert = s.pool.waitingAlert)
    (hasks : p.waitingSampler = some (s.rangePages slot first last)) (hti : t.pool.inProgress = p.grant.inProgress)
    (hts : t.pool.waitingSampler = p.grant.waitingSampler) : s.frameSized t slot first last := by
  obtain ⟨hfree, hbusy⟩ := Pool.grant_sampler hasks
  refine ⟨hframe, fun hnone halert => ?_, fun hsome => ?_⟩
  · rw [hti, hts]
    exact hfree (hi.trans hnone) (ha.trans halert)
  · rw [hti, hts]
    obtain ⟨h1, h2⟩ := hbusy (fun h => hsome (hi.symm.trans h))
    exact ⟨h1.trans hi, h2⟩

/-- A list at a legal CONVERT asks for its frame and waits, the engine being busy (R32). -/
def State.converts (s : State) (f : Frame) (g : Group) : State := { s with
  chain := { s.chain with seqRequest := some (.convert s.seq.tag g) }
  seq := { s.seq with frame := some { f with phase := .converting } } }

theorem State.settle_converts {s : State} {f : Frame} {g : Group} (hf : s.seq.frame = some f) (hphase : f.phase = .start)
    (halign : s.table.align = .idle) (he : s.chain.engine.isSome = true) (hl : f.index ≤ f.last)
    (hkind : (s.element f.slot f.index).kind = 1) (htrap : (s.element f.slot f.index).trapReason = 0)
    (hg : groupOf (s.element f.slot f.index).group = some g) : s.settle = s.converts f g := by
  have hrun : s.runElement f = s.converts f g := by
    rw [State.runElement_convert hl hkind htrap hg]
    simp [State.requestChain, State.onFrame, State.onChain, State.onSeq, State.converts, hf]
  have hstep : s.settleStep = some (s.converts f g) := by
    rw [State.settleStep, hf, ← hrun]
    exact if_pos ⟨hphase, halign⟩
  exact State.settle_of_one hstep (State.settleStep_of_workIdle ⟨by simp [State.listIdle, State.converts], .inl he⟩)

/-- A legal CONVERT names a group. -/
theorem Element.groupOf_convert {el : Element} (hkind : el.kind = 1) (htrap : el.trapReason = 0) :
    ∃ g, groupOf el.group = some g := by
  by_contra hnone
  have hnone : (groupOf el.group).isNone = true := by
    cases h : groupOf el.group with
    | none => rfl
    | some g => exact absurd ⟨g, h⟩ hnone
  rw [Element.trapReason] at htrap
  split_ifs at htrap
  simp_all

/-! ## START_SAMPLING and SINGLE_FRAME (R40, R42) -/

theorem State.memRead_completed_low {s : State} (hp : s.pool.pagesOk) (n : Nat) (code : Completion) (detail : Word)
    (clamped : Bool) {a : Nat} (ha : a < 1024) :
    memRead (s.complete n code detail [] clamped).pool.memory a = memRead s.pool.memory a := by
  have hmem : (s.complete n code detail [] clamped).pool.memory =
      (s.pool.completed n [] (completionHeader s code detail clamped false)).memory := by
    rw [State.complete_eq]
    dsimp only
    split <;> simp
  rw [hmem, Pool.completed, Pool.memRead_writeBuffer_low (by simpa using hp.le n) _ _ ha,
    Pool.memRead_writeBuffer_low (hp.le n) _ _ ha]

/-- A detail word of a 16-bit field and the low half of a number. -/
theorem packDetail_lowHalf {a : Nat} (ha : a < 65536) (b : Nat) :
    packDetail [(2, (a : Int)), (2, (b : Int))] = BitVec.ofNat 32 (a + 65536 * (b % 65536)) := by
  have hlow : leSigned 2 (b : Int) = leSigned 2 ((b % 65536 : Nat) : Int) := by
    rw [leSigned, leSigned]
    congr 2
    omega
  rw [← packDetail_halves ha (Nat.mod_lt b (by decide))]
  simp only [packDetail, packFields, List.foldl_cons, List.foldl_nil, hlow]

section
variable {s b y : State} {kind : FrameKind} {slot : Slot} {first last : Nat}

/-- The frame that a frame start begins. -/
def State.startedFrame (s : State) (kind : FrameKind) (slot : Slot) (first last : Nat) : Frame :=
  .start kind slot first last false (stopAreaBytes (s.rangeBytes slot first last))
    (s.sizedNodes (s.rangeBytes slot first last))

/-- Behind a frame start at a legal CONVERT, with the engine busy, the list stands at its first element (R30, R32). -/
theorem State.settle_started (hseq : y.seq = (b.started kind slot first last).seq) (htable : y.table = .reset)
    (he : y.chain.engine.isSome = true) (hl : first ≤ last ∧ last ≤ 31)
    (hlow : ∀ a, a < 1024 → memRead y.pool.memory a = memRead s.pool.memory a)
    (hkind : (elementOf (s.elementBytes slot first)).kind = 1)
    (htrap : (elementOf (s.elementBytes slot first)).trapReason = 0) :
    ∃ g, y.settle = y.converts (b.startedFrame kind slot first last) g := by
  obtain ⟨g, hg⟩ := Element.groupOf_convert hkind htrap
  have helement : y.element slot first = elementOf (s.elementBytes slot first) :=
    congrArg elementOf (State.elementBytes_congr hlow slot (by omega))
  have hf : y.seq.frame = some (b.startedFrame kind slot first last) := by rw [hseq]; rfl
  refine ⟨g, State.settle_converts hf rfl (by rw [htable]; rfl) he hl.1 ?_ ?_ ?_⟩
  · exact (congrArg Element.kind helement).trans hkind
  · exact (congrArg Element.trapReason helement).trans htrap
  · exact (congrArg (fun el => groupOf el.group) helement).trans hg

/-- The sizing of the result is that seen before the start. -/
theorem State.frameSized_started {t : State} (hmem : b.pool.memory = s.pool.memory)
    (hc : b.chain = s.chain) (hi : b.pool.inProgress = s.pool.inProgress) (ha : b.pool.waitingAlert = s.pool.waitingAlert)
    (hframe : t.seq.frame.map (fun f => (f.result, f.stopArea, f.resultNodes)) =
      some (ResultBuffer.asked, (b.startedFrame kind slot first last).stopArea,
        (b.startedFrame kind slot first last).resultNodes))
    (hti : t.pool.inProgress = (b.started kind slot first last).pool.inProgress)
    (hts : t.pool.waitingSampler = (b.started kind slot first last).pool.waitingSampler) :
    s.frameSized t slot first last := by
  have hrange := State.rangeBytes_of_memory hmem slot first last
  have hnodes : b.sizedNodes (b.rangeBytes slot first last) = s.sizedNodes (s.rangeBytes slot first last) := by
    rw [hrange, State.sizedNodes, State.sizedNodes, hc]
  refine State.frameSized_of (p := { b.pool with waitingSampler := some (b.rangePages slot first last) }) ?_ hi ha ?_ hti hts
  · rw [hframe, State.startedFrame, ← hnodes, ← hrange]
    rfl
  · rw [State.rangePages, State.rangePages, ← hnodes, ← hrange]

end

theorem State.taken_requests (s : State) (n : Nat) : (s.taken n).pool.inProgress = s.pool.inProgress ∧
    (s.taken n).pool.waitingAlert = s.pool.waitingAlert := by
  have hpool : (s.taken n).pool = s.pool.takeHead n := rfl
  rw [hpool, Pool.takeHead, Pool.setEntry_table]
  exact ⟨rfl, rfl⟩

theorem State.publish_requests (s old : State) : (s.publish old).pool.inProgress = s.pool.inProgress ∧
    (s.publish old).pool.waitingSampler = s.pool.waitingSampler := by
  rw [State.publish_eq]
  exact ⟨rfl, rfl⟩

section
variable {n first last : Nat} {slot : Slot} {s : State}

/-- START_SAMPLING begins its frame and completes. -/
theorem exec_startSampling (hm : s.memoryOk) (hn : s.pool.sound n) (hr : s.rangeOf n 0 = some (slot, first, last))
    (hmatched : s.chain.enumStatus = .matched) (he : s.chain.engine.isSome = true) (hp : s.seq.pendingSwitch = none)
    (hkind : (elementOf (s.elementBytes slot first)).kind = 1)
    (htrap : (elementOf (s.elementBytes slot first)).trapReason = 0) (h : s.orderTaken n .startSampling)
    (hs : s.seq.sampler = .stopped ∨ s.seq.sampler = .halted) :
    (let asked := s.body32 n 4
     let period := if asked = 0 then s.profile.defaultPeriod else min 1000 (max 10 asked)
     ∃ t, exec .startSampling s = .next t ∧
      Completed s t n .ok (BitVec.ofNat 32 ((s.seq.frameNumber + 1).toNat + 65536 * (period % 65536)))
        (if asked ≠ 0 ∧ (asked < 10 ∨ 1000 < asked) then 1 else 0) ∧
      t.seq.sampler = .running ∧ t.seq.frameNumber = s.seq.frameNumber + 1 ∧
      t.seq.tag = (s.seq.frameNumber + 1).setWidth 8 ∧ t.seq.frameStart = s.clock.packTime ∧
      t.seq.activeSlot = some slot ∧ t.seq.first = first ∧ t.seq.last = last ∧ t.seq.period = period ∧
      t.seq.frameTimer = some (1000 * period) ∧ t.seq.startDue = false ∧ t.table = FrameTable.reset ∧
      (∀ m, (t.chain.node m).failedMark = false) ∧ s.frameSized t slot first last ∧
      SameExcept [.pool, .chain, .seq, .table, .transit] s t) := by
  intro asked period
  obtain ⟨-, -, -, hl⟩ := State.rangeOf_eq_some.mp hr
  obtain ⟨b, hb⟩ : ∃ b, b = (s.taken n).onSeq fun q => { q with
    activeSlot := some slot, first := first, last := last, period := period } := ⟨_, rfl⟩
  obtain ⟨x, hx⟩ : ∃ x, x = b.started .normal slot first last := ⟨_, rfl⟩
  obtain ⟨d, hd⟩ : ∃ d, d = BitVec.ofNat 32 ((s.seq.frameNumber + 1).toNat + 65536 * (period % 65536)) := ⟨_, rfl⟩
  obtain ⟨clamped, hclamped⟩ : ∃ c, c = decide (asked ≠ 0 ∧ (asked < 10 ∨ 1000 < asked)) := ⟨_, rfl⟩
  have hstart : b.frameStart .normal false = x := by
    rw [hx]
    refine State.frameStart_started .normal ?_ ?_ ?_ ?_ hl.2 <;> rw [hb]
    · exact hp
    · rfl
    · rfl
    · rfl
  have hnumber : x.seq.frameNumber = s.seq.frameNumber + 1 := by rw [hx, hb]; rfl
  have htake : (s.taken n).takeKind .startSampling n = x.complete n .ok d [] clamped := by
    have hbusy : ¬ ((s.taken n).seq.sampler = .waiting ∨ (s.taken n).seq.sampler = .running) := by
      rcases hs with hs | hs <;> simp [hs]
    rw [State.takeKind, State.takeStartSampling, if_neg hbusy, State.rangeOf_taken, hr]
    simp only [State.taken_chain, hmatched, ne_eq, not_true_eq_false, if_false, State.taken_body32, framePeriod_eq]
    rw [show (s.taken n).profile = s.profile from rfl, ← hb, hstart, hnumber,
      packDetail_lowHalf (s.seq.frameNumber + 1).isLt, hclamped, hd]
  have hbuffers : x.pool.sameBuffers (s.taken n).pool := by
    obtain ⟨hmem, htable, hqueue, hlist⟩ :=
      Pool.grant_kept { b.pool with waitingSampler := some (b.rangePages slot first last) }
    rw [hx]
    refine ⟨hmem.trans ?_, htable.trans ?_, hqueue.trans ?_, hlist.trans ?_⟩ <;> rw [hb] <;> rfl
  have hxm : x.memoryOk := State.memoryOk_of_sameBuffers hbuffers (by rw [hx, hb]; rfl) (by simpa using hm)
  have hxn : x.pool.sound n := Pool.sound_of_sameBuffers hbuffers (by simpa using hn)
  obtain ⟨g, hsettle⟩ := State.settle_started (s := s) (b := b) (y := x.complete n .ok d [] clamped) (kind := .normal)
    (by rw [hx]; rfl) (by rw [hx]; rfl) (by rw [hx, hb]; exact he) hl (fun a ha => by
      rw [State.memRead_completed_low hxm.2.1 n .ok d clamped ha, hbuffers.1, State.taken_memory]) hkind htrap
  obtain ⟨memory, table, releases, results, hpool⟩ := State.complete_pool_form x n .ok d [] clamped false
  refine ⟨_, (State.orderEvent_taken h).trans (by rw [htake, hsettle]), ?_, ?_⟩
  · have hdone := State.completed_publish (old := s) (u := (x.complete n .ok d [] clamped).converts
      (b.startedFrame .normal slot first last) g) .ok d [] clamped false hxm hxn rfl rfl
    have hflags : boolCode clamped + 2 * boolCode false =
        if asked ≠ 0 ∧ (asked < 10 ∨ 1000 < asked) then 1 else 0 := by
      by_cases hc : asked ≠ 0 ∧ (asked < 10 ∨ 1000 < asked) <;> simp [hclamped, hc, boolCode]
    rw [hflags] at hdone
    exact State.completed_of_taken (Completed.of_sameBuffers hbuffers (hd ▸ hdone))
  · simp only [State.publish_seq, State.publish_table, State.publish_chain]
    refine ⟨?_, ?_, ?_, ?_, ?_, ?_, ?_, ?_, ?_, ?_, ?_, ?_, ?_, SameExcept.publish_transit ?_ (by simp) (by simp)⟩
    · rw [hx]; rfl
    · exact hnumber
    · rw [hx, hb]; rfl
    · rw [hx, hb]; rfl
    · rw [hx, hb]; rfl
    · rw [hx, hb]; rfl
    · rw [hx, hb]; rfl
    · rw [hx, hb]; rfl
    · rw [hx, hb]; rfl
    · rw [hx, hb]; rfl
    · rw [hx]; rfl
    · intro m
      rw [hx]
      exact Chain.clearMarks_failedMark b.chain m
    · exact State.frameSized_started (b := b) (kind := .normal) (by rw [hb]; exact State.taken_memory s n) (by rw [hb]; rfl)
        (by rw [hb]; exact (State.taken_requests s n).1) (by rw [hb]; exact (State.taken_requests s n).2) (by rw [State.publish_seq]; rfl)
        (by rw [(State.publish_requests _ _).1, ← hx]; exact (congrArg Pool.inProgress hpool).trans rfl)
        (by rw [(State.publish_requests _ _).2, ← hx]; exact (congrArg Pool.waitingSampler hpool).trans rfl)
    · rw [hx, hb]
      simp [sameExcept_iff, State.converts, State.started, State.onSeq]

/-- SINGLE_FRAME begins its frame and waits for it in the slot. -/
theorem exec_singleFrame (hn : s.pool.sound n) (hr : s.rangeOf n 0 = some (slot, first, last))
    (hmatched : s.chain.enumStatus = .matched) (he : s.chain.engine.isSome = true) (hp : s.seq.pendingSwitch = none)
    (hkind : (elementOf (s.elementBytes slot first)).kind = 1)
    (htrap : (elementOf (s.elementBytes slot first)).trapReason = 0) (h : s.orderTaken n .singleFrame)
    (hs : s.seq.sampler = .stopped) :
    ∃ t, exec .singleFrame s = .next t ∧ InService s t n ∧ t.seq.slot = some (.single n) ∧
      t.seq.sampler = .running ∧ t.seq.frameNumber = s.seq.frameNumber + 1 ∧
      t.seq.frameStart = s.clock.packTime ∧ t.seq.activeSlot = some slot ∧ t.seq.first = first ∧ t.seq.last = last ∧
      t.seq.frameTimer = s.seq.frameTimer ∧ t.table = FrameTable.reset ∧ s.frameSized t slot first last ∧
      SameExcept [.pool, .chain, .seq, .table, .transit] s t := by
  obtain ⟨-, -, -, hl⟩ := State.rangeOf_eq_some.mp hr
  obtain ⟨b, hb⟩ : ∃ b, b = (s.taken n).onSeq fun q => { q with
    activeSlot := some slot, first := first, last := last, slot := some (.single n) } := ⟨_, rfl⟩
  obtain ⟨x, hx⟩ : ∃ x, x = b.started .single slot first last := ⟨_, rfl⟩
  have hstart : b.frameStart .single false = x := by
    rw [hx]
    refine State.frameStart_started .single ?_ ?_ ?_ ?_ hl.2 <;> rw [hb]
    · exact hp
    · rfl
    · rfl
    · rfl
  have htake : (s.taken n).takeKind .singleFrame n = x := by
    rw [State.takeKind, State.takeSingleFrame, if_neg (by simp [hs]), State.rangeOf_taken, hr]
    simp only [State.taken_chain, hmatched, ne_eq, not_true_eq_false, if_false]
    rw [← hb, hstart]
  obtain ⟨hmem, htable, hqueue, -⟩ :=
    Pool.grant_kept { b.pool with waitingSampler := some (b.rangePages slot first last) }
  have hmem : x.pool.memory = s.pool.memory := by
    rw [hx]
    refine hmem.trans ?_
    rw [hb]
    exact State.taken_memory s n
  obtain ⟨g, hsettle⟩ := State.settle_started (s := s) (b := b) (y := x) (kind := .single)
    (by rw [hx]) (by rw [hx]; rfl) (by rw [hx, hb]; exact he) hl (fun a _ => by rw [hmem]) hkind htrap
  have hservice : InService s ((x.converts (b.startedFrame .single slot first last) g).publish s) n := by
    have hentry : x.pool.entry n = (s.taken n).pool.entry n := by
      rw [hx]
      refine (Pool.grant_entry _ n).trans ?_
      rw [hb]
      rfl
    have horders : x.pool.orderQueue = s.pool.orderQueue.tail := by
      rw [hx, hb, ← State.taken_orderQueue s n]
      exact (congrArg Pool.orderQueue (Pool.grant_eq _)).trans rfl
    have hresults : x.pool.resultQueue = s.pool.resultQueue := by
      rw [hx]
      refine hqueue.trans ?_
      rw [hb]
      exact State.taken_resultQueue s n
    refine ⟨?_, ?_, ?_, ?_⟩
    · rw [State.publish_entry]
      exact (congrArg BufferEntry.state hentry).trans (by rw [State.taken_entry_self s n hn.range])
    · rw [State.publish_orderQueue]
      exact horders
    · rw [State.publish_memory]
      exact hmem
    · rw [State.publish_resultQueue]
      exact hresults
  refine ⟨_, (State.orderEvent_taken h).trans (by rw [htake, hsettle]), hservice, ?_⟩
  simp only [State.publish_seq, State.publish_table]
  refine ⟨?_, ?_, ?_, ?_, ?_, ?_, ?_, ?_, ?_, ?_, SameExcept.publish_transit ?_ (by simp) (by simp)⟩
  · rw [hx, hb]; rfl
  · rw [hx]; rfl
  · rw [hx, hb]; rfl
  · rw [hx, hb]; rfl
  · rw [hx, hb]; rfl
  · rw [hx, hb]; rfl
  · rw [hx, hb]; rfl
  · rw [hx, hb]; rfl
  · rw [hx]; rfl
  · exact State.frameSized_started (b := b) (kind := .single) (by rw [hb]; exact State.taken_memory s n) (by rw [hb]; rfl)
      (by rw [hb]; exact (State.taken_requests s n).1) (by rw [hb]; exact (State.taken_requests s n).2) (by rw [State.publish_seq]; rfl)
      (by rw [(State.publish_requests _ _).1, ← hx]; rfl) (by rw [(State.publish_requests _ _).2, ← hx]; rfl)
  · rw [hx, hb]
    simp [sameExcept_iff, State.converts, State.started, State.onSeq]

/-! ## The refusals (R40, R42, R43) -/

theorem exec_startSampling_refused (hm : s.memoryOk) (hn : s.pool.sound n) (hw : s.workIdle)
    (h : s.orderTaken n .startSampling)
    (hc : (s.seq.sampler = .waiting ∨ s.seq.sampler = .running) ∨ s.rangeOf n 0 = none ∨ s.chain.enumStatus ≠ .matched) :
    ∃ t, exec .startSampling s = .next t ∧ Completed s t n
      (if s.seq.sampler = .waiting ∨ s.seq.sampler = .running then .refusedState
       else if s.rangeOf n 0 = none then .range else .chainIncomplete) 0 0 ∧ SameExcept [.pool] s t := by
  have htake : (s.taken n).takeKind .startSampling n = (s.taken n).complete n
      (if s.seq.sampler = .waiting ∨ s.seq.sampler = .running then .refusedState
       else if s.rangeOf n 0 = none then .range else .chainIncomplete) 0 := by
    rw [State.takeKind, State.takeStartSampling, State.taken_seq, State.rangeOf_taken]
    by_cases hbusy : s.seq.sampler = .waiting ∨ s.seq.sampler = .running
    · rw [if_pos hbusy, if_pos hbusy]
    · rw [if_neg hbusy, if_neg hbusy]
      cases hr : s.rangeOf n 0 with
      | none => rfl
      | some r =>
        obtain ⟨slot, first, last⟩ := r
        exact if_pos ((hc.resolve_left hbusy).resolve_left (by simp [hr]))
  obtain ⟨t, ht, hdone, hsame, -⟩ := State.order_refused h hm hn hw htake
  exact ⟨t, ht, hdone, hsame⟩

theorem exec_singleFrame_refused (hm : s.memoryOk) (hn : s.pool.sound n) (hw : s.workIdle)
    (h : s.orderTaken n .singleFrame)
    (hc : s.seq.sampler ≠ .stopped ∨ s.rangeOf n 0 = none ∨ s.chain.enumStatus ≠ .matched) :
    ∃ t, exec .singleFrame s = .next t ∧ Completed s t n
      (if s.seq.sampler ≠ .stopped then .refusedState
       else if s.rangeOf n 0 = none then .range else .chainIncomplete) 0 0 ∧ SameExcept [.pool] s t := by
  have htake : (s.taken n).takeKind .singleFrame n = (s.taken n).complete n
      (if s.seq.sampler ≠ .stopped then .refusedState
       else if s.rangeOf n 0 = none then .range else .chainIncomplete) 0 := by
    rw [State.takeKind, State.takeSingleFrame, State.taken_seq, State.rangeOf_taken]
    by_cases hbusy : s.seq.sampler ≠ .stopped
    · rw [if_pos hbusy, if_pos hbusy]
    · rw [if_neg hbusy, if_neg hbusy]
      cases hr : s.rangeOf n 0 with
      | none => rfl
      | some r =>
        obtain ⟨slot, first, last⟩ := r
        exact if_pos ((hc.resolve_left hbusy).resolve_left (by simp [hr]))
  obtain ⟨t, ht, hdone, hsame, -⟩ := State.order_refused h hm hn hw htake
  exact ⟨t, ht, hdone, hsame⟩

theorem exec_selectList_refused (hm : s.memoryOk) (hn : s.pool.sound n) (hw : s.workIdle)
    (h : s.orderTaken n .selectList)
    (hc : (s.seq.sampler = .stopped ∨ s.seq.sampler = .halted) ∨ s.rangeOf n 0 = none) :
    ∃ t, exec .selectList s = .next t ∧ Completed s t n
      (if s.seq.sampler = .stopped ∨ s.seq.sampler = .halted then .refusedState else .range) 0 0 ∧
      SameExcept [.pool] s t := by
  have htake : (s.taken n).takeKind .selectList n = (s.taken n).complete n
      (if s.seq.sampler = .stopped ∨ s.seq.sampler = .halted then .refusedState else .range) 0 := by
    rw [State.takeKind, State.takeSelectList, State.taken_seq, State.rangeOf_taken]
    by_cases hidle : s.seq.sampler = .stopped ∨ s.seq.sampler = .halted
    · rw [if_pos hidle, if_pos hidle]
    · rw [if_neg hidle, if_neg hidle, hc.resolve_left hidle]
  obtain ⟨t, ht, hdone, hsame, -⟩ := State.order_refused h hm hn hw htake
  exact ⟨t, ht, hdone, hsame⟩

/-! ## STOP_SAMPLING and SELECT_LIST (R41, R43) -/

/-- The row of an order whose taking leaves nothing that the engine or the list could do. -/
theorem State.orderEvent_idle {k : OrderKind} {y : State} (h : s.orderTaken n k)
    (htake : (s.taken n).takeKind k n = y) (hidle : y.workIdle) : s.orderEvent k = .next (y.publish s) := by
  rw [State.orderEvent_taken h, htake, State.settle_of_workIdle hidle]

/-- With no frame running, STOP_SAMPLING stops the sampler at once. -/
theorem exec_stopSampling_idle (hm : s.memoryOk) (hn : s.pool.sound n) (hw : s.workIdle)
    (h : s.orderTaken n .stopSampling) (hs : s.seq.sampler ≠ .running) :
    ∃ t, exec .stopSampling s = .next t ∧ Completed s t n .ok (BitVec.ofNat 32 s.seq.frameNumber.toNat) 0 ∧
      t.seq.sampler = .stopped ∧
      (s.seq.sampler ≠ .stopped → t.seq.frameTimer = none ∧ t.seq.startDue = false ∧ t.seq.activeSlot = none) ∧
      (s.seq.sampler = .stopped → t.seq = s.seq) ∧ t.seq.frameNumber = s.seq.frameNumber ∧
      SameExcept [.pool, .seq, .transit] s t := by
  obtain ⟨q, hq⟩ : ∃ q, q = if s.seq.sampler = .stopped then s.seq else s.seq.leave .stopped := ⟨_, rfl⟩
  have htake : (s.taken n).takeKind .stopSampling n =
      { (s.taken n).complete n .ok (BitVec.ofNat 32 s.seq.frameNumber.toNat) with seq := q } := by
    rw [← packDetail_half s.seq.frameNumber.isLt, hq, State.takeKind, State.takeStopSampling, State.taken_seq]
    cases hst : s.seq.sampler with
    | stopped => rfl
    | waiting => rfl
    | halted => rfl
    | running => exact absurd hst hs
  have hidle : State.workIdle
      { (s.taken n).complete n .ok (BitVec.ofNat 32 s.seq.frameNumber.toNat) with seq := q } := by
    rw [hq]
    split
    · exact hw
    · exact hw
  refine ⟨_, State.orderEvent_idle h htake hidle,
    State.completed_publish_taken .ok _ [] false false hm hn rfl rfl, ?_⟩
  rw [State.publish_seq, hq]
  refine ⟨?_, fun hne => ?_, fun heq => if_pos heq, ?_, SameExcept.publish_transit (by simp [sameExcept_iff]) (by simp)
    (by simp)⟩
  · split
    · assumption
    · rfl
  · simp [hne, Sequencer.leave]
  · split
    · rfl
    · rfl

/-- While a frame runs, STOP_SAMPLING waits in the slot. -/
theorem exec_stopSampling_running (hn : s.pool.sound n) (hw : s.workIdle) (h : s.orderTaken n .stopSampling)
    (hs : s.seq.sampler = .running) : ∃ t, exec .stopSampling s = .next t ∧ InService s t n ∧
      t.seq = { s.seq with slot := some (.stop n) } ∧ SameExcept [.pool, .seq] s t := by
  have htake : (s.taken n).takeKind .stopSampling n = { s.taken n with seq := { s.seq with slot := some (.stop n) } } := by
    rw [State.takeKind, State.takeStopSampling, State.taken_seq, hs]
    rfl
  have hidle : State.workIdle { s.taken n with seq := { s.seq with slot := some (.stop n) } } := hw
  exact ⟨_, State.orderEvent_idle h htake hidle,
    State.inService_publish_taken hn.range rfl, by rw [State.publish_seq],
    SameExcept.publish (by simp [sameExcept_iff]) (by simp [State.sameReported]) (by simp)⟩

/-- An accepted SELECT_LIST leaves its range as the pending switch. -/
theorem exec_selectList (hn : s.pool.sound n) (hw : s.workIdle) (h : s.orderTaken n .selectList)
    (hs : s.seq.sampler = .waiting ∨ s.seq.sampler = .running) (hr : s.rangeOf n 0 = some (slot, first, last)) :
    ∃ t, exec .selectList s = .next t ∧ InService s t n ∧
      t.seq = { s.seq with pendingSwitch := some ⟨slot, first, last⟩, slot := some (.select n) } ∧
      SameExcept [.pool, .seq] s t := by
  have hidle : ¬ (s.seq.sampler = .stopped ∨ s.seq.sampler = .halted) := by
    rcases hs with hs | hs <;> simp [hs]
  have htake : (s.taken n).takeKind .selectList n = { s.taken n with
      seq := { s.seq with pendingSwitch := some ⟨slot, first, last⟩, slot := some (.select n) } } := by
    rw [State.takeKind, State.takeSelectList, State.taken_seq, if_neg hidle, State.rangeOf_taken, hr]
    rfl
  have hwork : State.workIdle { s.taken n with
      seq := { s.seq with pendingSwitch := some ⟨slot, first, last⟩, slot := some (.select n) } } := hw
  exact ⟨_, State.orderEvent_idle h htake hwork,
    State.inService_publish_taken hn.range rfl, by rw [State.publish_seq],
    SameExcept.publish (by simp [sameExcept_iff]) (by simp [State.sameReported]) (by simp)⟩

end

/-- Settles O28: an accepted frame start is followed to the list's first element, where the sequencer waits for the busy
engine; the other rows change the order's buffer and the Sequencer's own fields. -/
theorem samplingOrdersStartAFrameOrFollowTheSampler : Obligations.SamplingOrdersStartAFrameOrFollowTheSampler :=
  ⟨fun _ _ _ _ _ _ => State.rangeOf_eq_some,
    fun _ _ _ _ _ hm hn hr hmatched he hp hkind htrap =>
      ⟨exec_startSampling hm hn hr hmatched he hp hkind htrap, exec_singleFrame hn hr hmatched he hp hkind htrap⟩,
    fun _ _ hm hn hw => ⟨exec_startSampling_refused hm hn hw, exec_singleFrame_refused hm hn hw,
      exec_selectList_refused hm hn hw⟩,
    fun _ _ hm hn hw => ⟨exec_stopSampling_idle hm hn hw, exec_stopSampling_running hn hw,
      fun _ _ _ h hs hr => exec_selectList hn hw h hs hr⟩⟩

end Sys2Proof.Machine

namespace Sys2Proof.Machine

open Sys2Proof

/-! ## The completion of a wake (R158) -/

/-- The state whose tamper event is held no more. -/
def State.tamperReleased (s : State) : State := { s with prot := { s.prot with tamperHeld := false } }

/-- SAFE_OPEN and a held tamper event trip at the end of a wake (R88, R89). -/
def State.wakeTripped (s : State) : State :=
  let u := if s.inputs.pins.safeOpen then s.trip .safeLine .plain else s
  if s.prot.tamperHeld then u.tamperReleased.trip .tamper .plain else u.tamperReleased

/-- The TRIP alerts of a wake's end. -/
def State.wakeTrips (s : State) : List (AlertKind × List Byte) :=
  (if s.inputs.pins.safeOpen = true ∧ s.prot.latch .safeLine = none then
    [(.trip, tripPayload .safeLine .immediateOpen .plain)] else []) ++
  (if s.prot.tamperHeld = true then s.tamperTrip else [])

theorem State.wakeTripped_latch (s : State) (k : TripKind) : s.wakeTripped.prot.latch k =
    if k = .safeLine ∧ s.inputs.pins.safeOpen = true then some ((s.prot.latch .safeLine).getD .immediateOpen)
    else if k = .tamper ∧ s.prot.tamperHeld = true then
      some ((s.prot.latch .tamper).getD (s.profile.actionOf .tamper))
    else s.prot.latch k := by
  have h1 := s.tripIf_latch .safeLine s.inputs.pins.safeOpen
  have he := s.tripIf_eq .safeLine s.inputs.pins.safeOpen
  unfold State.wakeTripped
  generalize (if s.inputs.pins.safeOpen then s.trip .safeLine .plain else s) = u at h1 he ⊢
  have hprofile : u.tamperReleased.profile = s.profile := by rw [he]; rfl
  have hlatch (j : TripKind) : u.tamperReleased.prot.latch j = u.prot.latch j := rfl
  dsimp only
  rw [State.tripIf_latch, hprofile, hlatch, hlatch, h1, h1]
  by_cases hk : k = .tamper
  · subst hk; simp
  · by_cases hs : k = .safeLine
    · subst hs; simp [Profile.actionOf]
    · simp [hk, hs]

theorem State.wakeTripped_eq (s : State) : s.wakeTripped = { s with
    prot := { s.prot with latches := s.wakeTripped.prot.latches, tamperHeld := false }
    transit := { s.transit with
      alerts := s.transit.alerts ++ s.wakeTrips, demands := s.wakeTripped.transit.demands } } := by
  have h1 := s.tripIf_latch .safeLine s.inputs.pins.safeOpen .tamper
  have he := s.tripIf_eq .safeLine s.inputs.pins.safeOpen
  unfold State.wakeTripped
  generalize (if s.inputs.pins.safeOpen then s.trip .safeLine .plain else s) = u at h1 he ⊢
  have hu := u.tamperReleased.tripIf_eq .tamper s.prot.tamperHeld
  dsimp only
  generalize (if s.prot.tamperHeld then u.tamperReleased.trip .tamper .plain else u.tamperReleased) = v at hu ⊢
  rw [if_neg (by simp)] at h1
  have hprofile : u.tamperReleased.profile = s.profile := by rw [he]; rfl
  have halerts : v.transit.alerts = s.transit.alerts ++ s.wakeTrips := by
    rw [hu]
    change u.transit.alerts ++ (if s.prot.tamperHeld then (if u.prot.latch .tamper = none then
      [(AlertKind.trip, tripPayload .tamper (u.tamperReleased.profile.actionOf .tamper) .plain)] else []) else []) = _
    rw [h1, hprofile, State.wakeTrips, ← List.append_assoc, State.tamperTrip, he]
    simp only [ite_and]
    rfl
  rw [← halerts, hu, he]
  rfl

/-- The two lines as the wake's completion takes them. -/
theorem State.wakeTripped_taken (s : State) :
    (let u := if s.inputs.pins.safeOpen then s.tripSafeLine else s
     if u.prot.tamperHeld then (u.onProt fun p => { p with tamperHeld := false }).tripTamper else u) = s.wakeTripped := by
  have he := s.tripIf_eq .safeLine s.inputs.pins.safeOpen
  unfold State.wakeTripped State.tripSafeLine
  generalize (if s.inputs.pins.safeOpen then s.trip .safeLine .plain else s) = u at he ⊢
  have hheld : u.prot.tamperHeld = s.prot.tamperHeld := by rw [he]
  dsimp only
  rw [← hheld]
  cases h : u.prot.tamperHeld with
  | false => rw [State.tamperReleased, ← h]; rfl
  | true => rfl

/-- The detail word of ENTER_SLEEP, OK (R176). -/
def State.wakeDetail (s : State) : Word :=
  detailOf (leBytes 3 s.sleep.duration ++ [BitVec.ofNat 8 (wakeReasonCode s.sleep.lastReason)])

/-- The pool behind the completion of ENTER_SLEEP. -/
def State.wakePool (s : State) : Pool :=
  match s.sleep.slot with
  | none => s.pool
  | some o => (s.complete o.buffer .ok s.wakeDetail [] o.clamped).pool

/-- ENTER_SLEEP completes, and its slot is empty. -/
def State.wakeOrderDone (s : State) : State := { s with
  pool := s.wakePool
  sleep := { s.sleep with
    slot := none, wakeCompletion := (s.sleep.slot.map (·.buffer)).getD s.sleep.wakeCompletion } }

theorem State.wakeOrderDone_eq (s : State) : (match s.sleep.slot with
    | none => s
    | some o => (s.complete o.buffer .ok s.wakeDetail [] o.clamped).onSleep fun x =>
        { x with wakeCompletion := o.buffer, slot := none }) = s.wakeOrderDone := by
  unfold State.wakeOrderDone State.wakePool
  cases h : s.sleep.slot with
  | none =>
    have hsleep : { s.sleep with slot := none, wakeCompletion := s.sleep.wakeCompletion } = s.sleep := by rw [← h]
    exact (congrArg (fun x => ({ s with sleep := x } : State)) hsleep).symm
  | some o => rfl

/-- ACTIVE, with the history empty, the sampler stopped and the commands of the entry gone, before the lines are taken. -/
def State.wakeActive (z : State) : State := { z with
  sleep := { z.sleep with power := .active, phase := .idle, patrol := none, pendingReason := none }
  sensing := { z.sensing with
    history := [], burstCount := 0, burstSum := 0, burstSat := false, sampleTimer := some 250, burstTimer := none }
  seq := z.seq.leave .stopped
  cont := { z.cont with entry := none }
  transit := { z.transit with toContactors := [] } }

theorem State.wakeActive_eq (z : State) : z.wakeActive =
    ((((z.onSleep fun x => { x with power := .active, phase := .idle, patrol := none, pendingReason := none
      }).emptyHistory.onSensing fun x => { x with sampleTimer := some 250, burstTimer := none }).onTransit fun t =>
      { t with toContactors := [] }).onSeq fun q => q.leave .stopped) := rfl

/-- The wake completes in three parts: the order, the blocks, the lines. -/
theorem State.completeWake_parts (s : State) :
    s.completeWake = (s.wakeOrderDone.wakeActive.sampleAux true).wakeTripped := by
  rw [← State.wakeTripped_taken, State.wakeActive_eq, ← State.wakeOrderDone_eq, State.completeWake]
  rfl

/-- The end of a wake, block by block: what it leaves open are the aux logs, the watches, the latches and the demands. -/
theorem State.completeWake_form (s : State) : ∃ logs watches latches demands, s.completeWake = { s with
    pool := s.wakePool
    sleep := { s.sleep with
      power := .active, phase := .idle, patrol := none, pendingReason := none, slot := none
      wakeCompletion := (s.sleep.slot.map (·.buffer)).getD s.sleep.wakeCompletion }
    sensing := { s.sensing with
      history := [], burstCount := 0, burstSum := 0, burstSat := false, sampleTimer := some 250, burstTimer := none }
    seq := s.seq.leave .stopped
    cont := { s.cont with
      entry := none, aux := PinLevels.aux s.inputs.pins, holds := ⟨none, none, none⟩, logs := logs, watches := watches }
    prot := { s.prot with latches := latches, tamperHeld := false }
    transit := { s.transit with
      toContactors := [], alerts := s.transit.alerts ++ s.wakeTrips, demands := demands } } ∧
    ∀ k, Protection.latch { s.prot with latches := latches, tamperHeld := false } k =
      if k = .safeLine ∧ s.inputs.pins.safeOpen = true then some ((s.prot.latch .safeLine).getD .immediateOpen)
      else if k = .tamper ∧ s.prot.tamperHeld = true then
        some ((s.prot.latch .tamper).getD (s.profile.actionOf .tamper))
      else s.prot.latch k := by
  obtain ⟨y, hy⟩ : ∃ y, y = s.wakeOrderDone.wakeActive := ⟨_, rfl⟩
  obtain ⟨logs, watches, haux⟩ : ∃ logs watches, y.sampleAux true = { y with cont := { y.cont with
      aux := PinLevels.aux y.inputs.pins, holds := ⟨none, none, none⟩, logs := logs, watches := watches } } := by
    rw [State.sampleAux, State.restartWatches_eq]
    exact ⟨_, _, rfl⟩
  refine ⟨logs, watches, (y.sampleAux true).wakeTripped.prot.latches, (y.sampleAux true).wakeTripped.transit.demands,
    ?_, fun k => ?_⟩
  · rw [State.completeWake_parts, ← hy]
    refine (State.wakeTripped_eq _).trans ?_
    rw [haux, hy]
    rfl
  · have hlatch := (y.sampleAux true).wakeTripped_latch k
    rw [State.wakeTripped_eq] at hlatch
    rw [haux, hy] at hlatch ⊢
    exact hlatch

/-! ## The beginning of a wake (R157, R158) -/

/-- The pages that the clearing step sets to 00h (R132). -/
def State.clearedPages (s : State) : List Nat :=
  poolPages.filter fun q => !(s.pool.retained.getD s.keptPages).contains q

/-- WAKING, with the reason, duration and time written and the pool cleared, before the nodes are looked at. -/
def State.wakeStarted (s : State) (r : WakeReason) (duration : Nat) : State :=
  (s.leavePatrol.onSleep fun x => { x with
    power := .waking
    wakeOut := true
    timersRunning := false
    lastReason := r
    duration := duration
    pendingReason := none
    patrolDue := false
    patrol := none
    page := { x.page with lastReason := r, duration := duration, wakeTime := s.now } }).powerUpLink.clearPool

/-- The nodes that sleep are woken first; with the nodes awake the wake completes at once. -/
theorem State.beginWaking_eq (s : State) (r : WakeReason) (duration : Nat) : s.beginWaking r duration =
    if s.sleep.nodesAsleep then
      ((s.wakeStarted r duration).onSleep fun x => { x with phase := .wakeTone }).onChain fun c =>
        { c with sleepRequest := some .wakeTone }
    else (s.wakeStarted r duration).completeWake := by
  have hnodes : (s.wakeStarted r duration).sleep.nodesAsleep = s.sleep.nodesAsleep := by
    change s.leavePatrol.sleep.nodesAsleep = s.sleep.nodesAsleep
    rw [State.leavePatrol_sleep]
  rw [← hnodes, State.beginWaking]
  rfl

theorem State.powerUpLink_form (s : State) : ∃ ahead, s.powerUpLink = { s with
    link := { Link.reset s.link.resetCause with
      alertLost := decide (0 < s.alerts.lostCount), sdo := s.link.sdo, readAhead := ahead } } := ⟨_, rfl⟩

/-- The beginning of a wake, block by block; the link is as after its power-up, but for the read-ahead. -/
theorem State.wakeStarted_form (s : State) (r : WakeReason) (duration : Nat) : ∃ ahead, s.wakeStarted r duration = { s with
    link := { Link.reset s.link.resetCause with
      alertLost := decide (0 < s.alerts.lostCount), sdo := s.link.sdo, readAhead := ahead }
    pool := { s.pool with memory := memZero s.pool.memory s.clearedPages, retained := none }
    sensing := { s.sensing with burstTimer := if s.sleep.power = .patrol then none else s.sensing.burstTimer }
    sleep := { s.sleep with
      power := .waking, wakeOut := true, timersRunning := false, lastReason := r, duration := duration
      pendingReason := none, patrolDue := false, patrol := none
      page := { s.sleep.page with lastReason := r, duration := duration, wakeTime := s.now } }
    transit := { s.transit with burst := if s.sleep.power = .patrol then false else s.transit.burst } } := by
  have hkept (v : State) (hp : v.pool = s.pool) (hs : v.sleep.slot = s.sleep.slot) : v.clearPool =
      { v with pool := { s.pool with memory := memZero s.pool.memory s.clearedPages, retained := none } } := by
    have hpages : v.clearedPages = s.clearedPages := by
      rw [State.clearedPages, State.clearedPages, State.keptPages, State.keptPages, hp, hs]
    have hclear : v.clearPool =
        { v with pool := { v.pool with memory := memZero v.pool.memory v.clearedPages, retained := none } } := rfl
    rw [hclear, hpages, hp]
  obtain ⟨v, hv⟩ : ∃ v, v = s.leavePatrol.onSleep fun x => { x with
    power := .waking, wakeOut := true, timersRunning := false, lastReason := r, duration := duration
    pendingReason := none, patrolDue := false, patrol := none
    page := { x.page with lastReason := r, duration := duration, wakeTime := s.now } } := ⟨_, rfl⟩
  obtain ⟨ahead, hup⟩ := v.powerUpLink_form
  have hstarted : s.wakeStarted r duration = v.powerUpLink.clearPool := by rw [hv]; rfl
  refine ⟨ahead, hstarted.trans ((hkept _ ?_ ?_).trans ?_)⟩
  · rw [hup, hv]
    exact State.leavePatrol_pool s
  · rw [hup, hv]
    have hslot : s.leavePatrol.sleep.slot = s.sleep.slot := by rw [State.leavePatrol_sleep]
    exact hslot
  · rw [hup, hv]
    by_cases hpower : s.sleep.power = .patrol
    · rw [State.leavePatrol_patrol hpower, if_pos hpower, if_pos hpower]
      rfl
    · rw [State.leavePatrol_of_ne hpower, if_neg hpower, if_neg hpower]
      rfl

/-! ## What a wake leaves (R158) -/

/-- A completed wake is read of these blocks alone. -/
theorem State.awake_congr {u t t' : State} (h : u.awake t) (hclock : t'.clock = t.clock) (hsleep : t'.sleep = t.sleep)
    (hsensing : t'.sensing = t.sensing) (hseq : t'.seq = t.seq) (hcont : t'.cont = t.cont) (hprot : t'.prot = t.prot)
    (hstore : t'.store = t.store) (hsent : t'.transit.toContactors = t.transit.toContactors)
    (hpool : t'.pool.sameBuffers t.pool) : u.awake t' := by
  have hbyte (n i : Nat) : t'.orderByte n i = t.orderByte n i := congrArg BitVec.toNat (hpool.readBuffer n i)
  have hword (n i : Nat) : t'.orderWord n i = t.orderWord n i := by
    simp only [State.orderWord, Pool.bytes, hpool.readBuffer]
  have hnow : t'.now = t.now := congrArg Clock.packTime hclock
  simp only [State.awake, hsleep, hsensing, hseq, hcont, hprot, hstore, hsent, hbyte, hword, hnow, hpool.entry,
    hpool.resultQueue]
  exact h

theorem State.awake_publish {u t : State} (h : u.awake t) (old : State) : u.awake (t.publish old) :=
  State.awake_congr h (t.publish_clock old) (t.publish_sleep old) (t.publish_sensing old) (t.publish_seq old)
    (t.publish_cont old) (t.publish_prot old) (t.publish_store old) (by rw [State.publish_eq]; rfl)
    (Pool.sameBuffers_of_count (State.publish_pool t old))

/-- A state whose wake is completed as that of `u`: the blocks that a wake's end keeps or takes, and the order's buffer,
of whose pages some may have been cleared. -/
def State.wakesAs (u x : State) : Prop :=
  (PinLevels.aux x.inputs.pins = PinLevels.aux u.inputs.pins ∧
    x.inputs.pins.safeOpen = u.inputs.pins.safeOpen) ∧ x.store = u.store ∧
  x.sleep.nodesAsleep = false ∧ x.sleep.slot = u.sleep.slot ∧
  (x.seq.frameNumber = u.seq.frameNumber ∧ x.seq.overruns = u.seq.overruns ∧
    x.seq.droppedFrames = u.seq.droppedFrames) ∧
  (x.cont.state = u.cont.state ∧ x.cont.commands = u.cont.commands) ∧
  ((∀ k, x.prot.latch k = u.prot.latch k) ∧ x.prot.tamperHeld = u.prot.tamperHeld) ∧
  (∃ pages, x.pool.memory = memZero u.pool.memory pages) ∧ x.pool.table = u.pool.table ∧
  x.pool.resultQueue = u.pool.resultQueue ∧ x.link.targetOk

/-- Clearing sets no QUIET flag. -/
theorem State.quiet_of_cleared {u x : State} {pages : List Nat} (hmem : x.pool.memory = memZero u.pool.memory pages)
    (htable : x.pool.table = u.pool.table) {n : Nat} (h : u.quiet n = false) : x.quiet n = false := by
  have hbyte : x.orderByte n 1 = u.orderByte n 1 ∨ x.orderByte n 1 = 0 := by
    have hentry : x.pool.entry n = u.pool.entry n := by rw [Pool.entry, Pool.entry, htable]
    rw [State.orderByte, State.orderByte, Pool.readBuffer, Pool.readBuffer, hentry, hmem]
    cases (u.pool.entry n).address 1 with
    | none => exact .inl rfl
    | some a =>
      dsimp only
      rw [memRead_memZero]
      split
      · exact .inr rfl
      · exact .inl rfl
  rcases hbyte with hbyte | hbyte
  · rwa [State.quiet, hbyte]
  · rw [State.quiet, hbyte]
    rfl

theorem detailOf_wake (duration : Nat) {code : Nat} (h : code < 256) :
    (detailOf (leBytes 3 duration ++ [BitVec.ofNat 8 code])).toNat = duration % 2 ^ 24 + 2 ^ 24 * code := by
  simp [detailOf, slice, leBytes, ofLe]
  omega

theorem State.awake_completeWake {u x : State} (h : u.wakesAs x) : u.awake x.completeWake := by
  obtain ⟨⟨haux, hsafe⟩, hstore, hnodes, hslot, ⟨hnumber, hover, hdropped⟩, ⟨hstate, hcommands⟩, ⟨hlatch, hheld⟩,
    ⟨pages, hmem⟩, htable, hresults, htarget⟩ := h
  obtain ⟨logs, watches, latches, demands, hform, hlatches⟩ := x.completeWake_form
  have hprofile : x.profile = u.profile := by rw [State.profile, State.profile, hstore]
  rw [hform]
  refine ⟨rfl, rfl, rfl, rfl, rfl, hnodes, rfl, rfl, rfl, rfl, rfl, rfl, rfl, hnumber, hover, hdropped, hstate, hcommands,
    haux, rfl, rfl, rfl, rfl, hstore, fun k => ?_, fun o ho => ⟨?_, ?_⟩⟩
  · rw [← hsafe, ← hheld, ← hprofile, ← hlatch, ← hlatch, ← hlatch]
    exact hlatches k
  · simp [hslot, ho]
  · intro hm hn hquiet
    have hxm : x.memoryOk := by
      refine ⟨?_, ?_, htarget⟩
      · rw [hmem]
        exact memZero_wf pages hm.1
      · rw [Pool.pagesOk, htable]
        exact hm.2.1
    have hxn : x.pool.sound o.buffer := by
      rw [Pool.sound, show x.pool.entry o.buffer = u.pool.entry o.buffer by rw [Pool.entry, Pool.entry, htable]]
      exact hn
    have hpool : x.wakePool = (x.complete o.buffer .ok x.wakeDetail [] o.clamped).pool := by
      rw [State.wakePool, hslot, ho]
    have hxq : x.quiet o.buffer = false := State.quiet_of_cleared hmem htable hquiet
    obtain ⟨hcode, hflags, htime, hdetail, -, hjoin⟩ := State.completed_of_complete (s := x)
      (t := { x.completeWake with pool := x.wakePool, clock := x.clock }) .ok x.wakeDetail [] o.clamped false hxm hxn rfl
      (by simp [hpool]) (by simp [hpool]) (by simp [hpool]) (by simp [hpool])
    rw [if_neg (by simp [hxq])] at hjoin
    obtain ⟨hqueued, hresult, -⟩ := hjoin
    refine ⟨hcode, hflags, htime, hdetail.trans ?_, hqueued, hresult.trans (by rw [hresults])⟩
    exact detailOf_wake x.sleep.duration (by cases x.sleep.lastReason <;> decide)

/-- A wake that begins in `v`, with the nodes awake, is completed as that of `u`. -/
theorem State.wakesAs_wakeStarted {u v : State} (r : WakeReason) (duration : Nat)
    (hpins : PinLevels.aux v.inputs.pins = PinLevels.aux u.inputs.pins ∧
      v.inputs.pins.safeOpen = u.inputs.pins.safeOpen)
    (hstore : v.store = u.store) (hnodes : v.sleep.nodesAsleep = false) (hslot : v.sleep.slot = u.sleep.slot)
    (hseq : v.seq.frameNumber = u.seq.frameNumber ∧ v.seq.overruns = u.seq.overruns ∧
      v.seq.droppedFrames = u.seq.droppedFrames)
    (hcont : v.cont.state = u.cont.state ∧ v.cont.commands = u.cont.commands)
    (hprot : v.prot.latches = u.prot.latches ∧ v.prot.tamperHeld = u.prot.tamperHeld)
    (hpool : v.pool.memory = u.pool.memory ∧ v.pool.table = u.pool.table ∧ v.pool.resultQueue = u.pool.resultQueue) :
    u.wakesAs (v.wakeStarted r duration) := by
  obtain ⟨ahead, hform⟩ := v.wakeStarted_form r duration
  obtain ⟨hlatches, hheld⟩ := hprot
  obtain ⟨hmem, htable, hresults⟩ := hpool
  rw [hform]
  refine ⟨hpins, hstore, hnodes, hslot, hseq, hcont, ⟨fun k => ?_, hheld⟩,
    ⟨v.clearedPages, congrArg (memZero · v.clearedPages) hmem⟩, htable, hresults, by simp [Link.targetOk, Link.reset]⟩
  simp only [Protection.latch, hlatches]

theorem State.wakeTrips_trip (s : State) : ∀ x ∈ s.wakeTrips, x.1 = .trip := by
  intro x hx
  simp only [State.wakeTrips, State.tamperTrip, List.mem_append] at hx
  rcases hx with hx | hx
  · split at hx
    · rw [List.mem_singleton.mp hx]
    · simp at hx
  · split_ifs at hx
    · rw [List.mem_singleton.mp hx]
    · simp at hx
    · simp at hx

/-- What every beginning of a wake writes, with the nodes asleep or awake. -/
theorem State.beginWaking_shows (s : State) (r : WakeReason) (duration : Nat) :
    (let t := s.beginWaking r duration
     t.sleep.wakeOut = true ∧ t.sleep.lastReason = r ∧ t.sleep.duration = duration ∧
     t.sleep.page = { s.sleep.page with lastReason := r, duration := duration, wakeTime := s.now } ∧
     t.sleep.failedSet = s.sleep.failedSet ∧ t.sleep.power ≠ .asleep ∧ t.seq.frame = s.seq.frame ∧ t.clock = s.clock ∧
     t.inputs = s.inputs ∧ (∃ trips, t.transit.alerts = s.transit.alerts ++ trips ∧ ∀ x ∈ trips, x.1 = .trip) ∧
     t.chain = if s.sleep.nodesAsleep then { s.chain with sleepRequest := some .wakeTone } else s.chain) := by
  obtain ⟨ahead, hform⟩ := s.wakeStarted_form r duration
  obtain ⟨logs, watches, latches, demands, hwoken, -⟩ := (s.wakeStarted r duration).completeWake_form
  rw [State.beginWaking_eq]
  cases hnodes : s.sleep.nodesAsleep with
  | false =>
    rw [if_neg (by decide), hwoken]
    have htrips := (s.wakeStarted r duration).wakeTrips_trip
    generalize (s.wakeStarted r duration).wakeTrips = trips at htrips
    generalize (s.wakeStarted r duration).wakePool = pool
    rw [hform]
    exact ⟨rfl, rfl, rfl, rfl, rfl, nofun, rfl, rfl, rfl, ⟨trips, rfl, htrips⟩, rfl⟩
  | true =>
    rw [if_pos rfl, hform]
    exact ⟨rfl, rfl, rfl, rfl, rfl, nofun, rfl, rfl, rfl, ⟨[], by simp [State.onSleep, State.onChain], by simp⟩, rfl⟩

/-! ## A request of the Sleep Controller behind other work -/

theorem State.settleN_succ_of_rest {s : State} (h : ∀ s', s.settleStep = some s' → s'.settleStep = none) (k : Nat) :
    s.settleN (k + 1) = s.settle := by
  cases hs : s.settleStep with
  | none => rw [State.settleN_of_none _ hs, State.settle_of_settleStep hs]
  | some s' => rw [State.settleN_of_some k hs, State.settleN_of_none _ (h s' hs), State.settle_of_one hs (h s' hs)]

/-- A SLEEP or a tone that is asked for is sent on port A where nothing comes before it, else it waits. -/
theorem State.settleN_asks {s : State} (hl : s.listIdle) (ht : s.taking) (hp : s.sleep.power ≠ .asleep) {f : ChainFrame}
    (hs : s.chain.sleepRequest = some f)
    (hw : s.chain.engine.isSome = true ∨ s.chain.location = none ∧ s.chain.seqRequest = none) (k : Nat) :
    ∃ c : Chain, s.settleN (k + 1) = { s with chain := c } ∧ c.nodes = s.chain.nodes ∧
      (s.chain.engine.isSome = true → c = s.chain) ∧
      (s.chain.engine = none → s.chain.quietA = none →
        c.engine = some ⟨.sleepController, f, .a, .sending, 0, s.profile.replyTimeout, 0, 0, .noError⟩) := by
  have hrest : ∀ s', s.settleStep = some s' → s'.settleStep = none := by
    intro s' hs'
    cases he : s.chain.engine with
    | some e =>
      rw [State.settleStep_of_engine hl (by simp [he])] at hs'
      cases hs'
    | none =>
      obtain ⟨h1, h2⟩ : s.chain.location = none ∧ s.chain.seqRequest = none := by simpa [he] using hw
      have hc : s.candidate =
          some ((s.onChain fun c => { c with sleepRequest := none }).startTransaction .sleepController f .a 0) := by
        simp [State.candidate, h1, h2, hs]
      rw [State.settleStep_of_listIdle hl, State.grantChain_of_candidate he ht hp hc] at hs'
      split_ifs at hs'
      obtain rfl := Option.some.inj hs'
      rw [State.startTransaction_eq]
      exact State.settleStep_of_engine hl rfl
  rw [State.settleN_succ_of_rest hrest, State.settle_sleepRequest hl ht hp hs hw]
  split_ifs with hbusy
  · refine ⟨s.chain, rfl, rfl, fun _ => rfl, fun he hq => ?_⟩
    simp [he, hq, Chain.quiet] at hbusy
  · refine ⟨_, rfl, rfl, fun he => ?_, fun _ _ => rfl⟩
    simp [he] at hbusy

end Sys2Proof.Machine

namespace Sys2Proof.Machine

open Sys2Proof

/-! ## An event that changes nothing shown of the Sleep Controller (R145) -/

/-- The power state and the last wake reason are the Status Block's only fields of the Sleep Controller. -/
theorem State.statusFields_withSleep (s : State) {x : Sleep} (hpower : x.power = s.sleep.power)
    (hreason : x.lastReason = s.sleep.lastReason) : ({ s with sleep := x } : State).statusFields = s.statusFields := by
  simp only [State.statusFields, hpower, hreason]
  rfl

/-- An event ends as it is where the Sleep Controller keeps its power state, phase and reason, and no other field of the
Status Block changes. -/
theorem State.publish_of_sleepShown {s old : State} (hpower : s.sleep.power = old.sleep.power)
    (hreason : s.sleep.lastReason = old.sleep.lastReason) (hphase : s.sleep.phase = old.sleep.phase)
    (h : ({ s with sleep := old.sleep } : State).sameShown old) : s.publish old = s := by
  have hreport : ({ s with sleep := old.sleep } : State).report old = { s with sleep := old.sleep } :=
    State.report_of_sameReported h.sameReported
  have hcount := congrArg (fun t => t.pool.updateCount) (State.publish_of_sameShown h)
  have hfields : s.statusFields = old.statusFields := by
    rw [← State.statusFields_withSleep s hpower.symm hreason.symm]
    by_contra hne
    simp only [State.publish, hreport, State.countUpdate_updateCount, if_neg (not_and_of_not_left _ hne)] at hcount
    exact absurd hcount (by simp)
  have hbegan : s.patrolBegan old = false := by
    simp only [State.patrolBegan, hpower, hphase]
    cases old.sleep.phase <;> simp
  have hsame : s.sameReported old := h.sameReported
  rw [State.publish, State.report_of_sameReported hsame, State.countUpdate, if_pos ⟨hfields, hbegan⟩]

/-! ## Sets of nodes and flags as bits (R156) -/

/-- The sum of the powers of two of a set's members below `k`. -/
def bitSum (b : Nat → Bool) (k : Nat) : Nat := ((List.range' 1 k).map fun n => if b n then 2 ^ (n - 1) else 0).sum

theorem bitSum_succ (b : Nat → Bool) (k : Nat) : bitSum b (k + 1) = bitSum b k + if b (k + 1) then 2 ^ k else 0 := by
  rw [bitSum, List.range'_concat, List.map_append, List.sum_append, bitSum]
  simp [Nat.add_comm 1 k]

theorem bitSum_lt (b : Nat → Bool) (k : Nat) : bitSum b k < 2 ^ k := by
  induction k with
  | zero => simp [bitSum]
  | succ k ih =>
    rw [bitSum_succ, Nat.pow_succ]
    split <;> omega

theorem bitSum_testBit (b : Nat → Bool) {k i : Nat} (h : i < k) : (bitSum b k).testBit i = b (i + 1) := by
  induction k with
  | zero => omega
  | succ k ih =>
    have hlt := bitSum_lt b k
    rw [bitSum_succ]
    rcases Nat.lt_succ_iff_lt_or_eq.mp h with hi | rfl
    · rw [← ih hi]
      split
      · rw [Nat.add_comm]
        exact Nat.testBit_two_pow_add_gt hi _
      · rfl
    · cases hb : b (i + 1) with
      | false => simpa using Nat.testBit_lt_two_pow hlt
      | true =>
        rw [if_pos rfl, Nat.add_comm, Nat.testBit_two_pow_add_eq, Nat.testBit_lt_two_pow hlt]
        rfl

/-- Bit n - 1 of the failed set is node n's mark (R156). -/
theorem Chain.failedSet_getLsbD (c : Chain) {m : Nat} (h : 1 ≤ m ∧ m ≤ 20) :
    c.failedSet.getLsbD (m - 1) = (c.node m).failedMark := by
  have hm : m - 1 < 20 := by omega
  have hsum : ((allNodes.map fun n => if (c.node n).failedMark then 2 ^ (n - 1) else 0).sum) =
      bitSum (fun n => (c.node n).failedMark) 20 := rfl
  rw [Chain.failedSet, hsum, BitVec.getLsbD_ofNat, bitSum_testBit _ hm, show m - 1 + 1 = m by omega]
  simp [hm]

theorem exists_failed_iff (x : BitVec 20) : x ≠ 0#20 ↔ ∃ m, 1 ≤ m ∧ m ≤ 20 ∧ x.getLsbD (m - 1) = true := by
  constructor
  · intro h
    by_contra hnone
    refine h (BitVec.eq_of_getLsbD_eq fun i hi => ?_)
    by_contra hbit
    exact hnone ⟨i + 1, by omega, by omega, by simpa using hbit⟩
  · rintro ⟨m, -, -, hm⟩ rfl
    simp at hm

/-- The flags of a list of bits, lowest first. -/
theorem foldr_bits_testBit (l : List Bool) (i : Nat) :
    (l.foldr (fun b acc => boolCode b + 2 * acc) 0).testBit i = l.getD i false := by
  induction l generalizing i with
  | nil => simp
  | cons b l ih =>
    rw [List.foldr_cons]
    cases i with
    | zero => cases b <;> simp [boolCode, Nat.testBit_zero]
    | succ i =>
      rw [Nat.testBit_succ, List.getD_cons_succ, ← ih i]
      congr 1
      cases b
      · simp [boolCode]
      · simp [boolCode]
        omega

/-! ## The judgement of a patrol (R155, R156) -/

/-- The summary and the count of a judged patrol are written. -/
def State.judged (s : State) (t : Patrol) (failed : BitVec 20) : State := s.onSleep fun x => { x with
  failedSet := failed
  page := { (x.page.addSummary (t.summary s.profile.drain failed s.sleep.failedSet)) with
    patrolCount := x.page.patrolCount + 1
    failed := failed
    trap := if t.trap.isSome then t.trap else x.page.trap } }

theorem State.judged_form (s : State) (t : Patrol) (failed : BitVec 20) : ∃ page, s.judged t failed =
    { s with sleep := { s.sleep with failedSet := failed, page := page } } := ⟨_, rfl⟩

theorem State.judgePatrol_wakes {s : State} {t : Patrol} {failed : BitVec 20} {w : WakeReason}
    (h : s.sleep.patrol = some t) (hw : t.wakeReason s.profile.drain failed s.sleep.failedSet = some w)
    (hp : s.sleep.power = .patrol) : s.judgePatrol failed = (s.judged t failed).beginWaking w (s.sleep.maxCount / 1000) := by
  have hslept : (s.judged t failed).sleptFor = s.sleep.maxCount / 1000 := by
    rw [State.sleptFor, if_neg]
    · rfl
    · rw [show (s.judged t failed).sleep.power = .patrol from hp]
      exact nofun
  rw [State.judgePatrol, h]
  dsimp only
  rw [hw, ← hslept]
  rfl

theorem State.judgePatrol_sleeps {s : State} {t : Patrol} {failed : BitVec 20} (h : s.sleep.patrol = some t)
    (hw : t.wakeReason s.profile.drain failed s.sleep.failedSet = none) : s.judgePatrol failed =
      ((s.judged t failed).onSleep fun x => { x with phase := .patrolSleep }).onChain fun c =>
        { c with sleepRequest := some .sleep } := by
  rw [State.judgePatrol, h]
  dsimp only
  rw [hw]
  rfl

/-- The conditions of R155 in their order. -/
theorem Patrol.wakeReason_eq_some {t : Patrol} {limit : Nat} {failed last : BitVec 20} {w : WakeReason} :
    t.wakeReason limit failed last = some w ↔
      (t.breaches.any = true ∨ t.drain limit = true ∨ t.supervision failed last = true) ∧
      w = (if t.breaches.any then .patrolBreach else if t.drain limit then .drain else .supervision) := by
  rw [Patrol.wakeReason]
  cases t.breaches.any <;> cases t.drain limit <;> cases t.supervision failed last <;> simp [eq_comm]

/-- SUPERVISION holds for a node failed in two patrols running, a trap, or no record (R155). -/
theorem Patrol.supervision_iff {t : Patrol} {failed last : BitVec 20} : t.supervision failed last = true ↔
    (∃ m, (1 ≤ m ∧ m ≤ 20 ∧ failed.getLsbD (m - 1) = true) ∧ last.getLsbD (m - 1) = true) ∨ t.trap ≠ none ∨
      t.record = none := by
  have hboth : (failed &&& last != 0#20) = true ↔
      ∃ m, (1 ≤ m ∧ m ≤ 20 ∧ failed.getLsbD (m - 1) = true) ∧ last.getLsbD (m - 1) = true := by
    rw [bne_iff_ne, exists_failed_iff]
    simp only [BitVec.getLsbD_and, Bool.and_eq_true, and_assoc]
  rw [Patrol.supervision, Bool.or_eq_true, Bool.or_eq_true, hboth, Option.isNone_iff_eq_none, Option.isSome_iff_ne_none,
    or_assoc]

/-- The bits of a summary's flags. -/
def Patrol.flagBits (t : Patrol) (limit : Nat) (failed last : BitVec 20) : List Bool :=
  [t.breaches.vcHigh, t.breaches.vcLow, t.breaches.tempHigh, t.breaches.imbalance, t.drain limit, t.burstSat,
    failed != 0#20, t.supervision failed last, t.trap.isSome, t.record.isNone, (t.record.bind (·.cells)).isNone,
    (t.record.bind (·.temps)).isNone, t.late]

theorem Patrol.summary_flags (t : Patrol) (limit : Nat) (failed last : BitVec 20) {i : Nat} (h : i < 13) :
    (t.summary limit failed last).flags.getLsbD i = (t.flagBits limit failed last).getD i false := by
  have hflags : (t.summary limit failed last).flags =
      BitVec.ofNat 13 ((t.flagBits limit failed last).foldr (fun b acc => boolCode b + 2 * acc) 0) := rfl
  rw [hflags, BitVec.getLsbD_ofNat, foldr_bits_testBit]
  simp [h]

/-- A summary joins the ring at its place, which becomes the newest (R156). -/
theorem SleepPage.addSummary_ring (p : SleepPage) (e : SummaryEntry) :
    (let place := if p.ringCount = 0 then 0 else (p.newest + 1) % 8
     (p.addSummary e).ringCount = min 8 (p.ringCount + 1) ∧ (p.addSummary e).newest = place ∧
     (∀ i, i ≠ place → (p.addSummary e).ring[i]? = p.ring[i]?) ∧ (p.addSummary e).ring[place]? = some e) := by
  intro place
  have hplace : place < 8 := by
    simp only [place]
    split <;> omega
  refine ⟨rfl, rfl, fun i hi => ?_, ?_⟩
  · exact Vector.getElem?_setIfInBounds_ne (Ne.symm hi)
  · exact Vector.getElem?_setIfInBounds_self_of_lt hplace

/-! ## The end of a patrol frame (R37, R154) -/

theorem Chain.node_clearMarks_all (c : Chain) (m : Nat) :
    c.clearMarks.node m = { c.node m with failedMark := false } := by
  by_cases hm : 1 ≤ m ∧ m ≤ 20
  · exact Chain.node_clearMarks c hm
  · by_cases h0 : m = 0
    · subst h0
      rfl
    · have hout (d : Chain) : d.nodes[m - 1]? = none := Vector.getElem?_eq_none (by omega)
      rw [Chain.node, Chain.node, if_neg h0, if_neg h0, hout, hout]
      rfl

/-- The chain behind a frame's end: the marks cleared, and a break location that is due begun (R12). -/
def Chain.frameEnded (c : Chain) : Chain := if c.clearMarks.breakDue then c.clearMarks.beginLocation else c.clearMarks

/-- The state in which a patrol is judged: its frame has ended behind a WAIT, with the trap it may have met. -/
def State.patrolOver (s : State) (p : Patrol) (r : Nat) (trap : Option Trap) : State := { s.elapse r with
  seq := { (s.elapse r).seq with elementTimer := none, frame := none }
  chain := (s.elapse r).chain.frameEnded
  sleep := { s.sleep with patrol := some { p with trap := trap } } }

section
variable {s : State} {f : Frame} {p : Patrol} {r : Nat} {trap : Option Trap}

/-- The list of a patrol frame ends at the index after a WAIT: it has run out, or its next element is illegal. -/
def State.listEndsWith (s : State) (f : Frame) (p : Patrol) (trap : Option Trap) : Prop :=
  f.index = f.last ∧ trap = p.trap ∨
    f.index < f.last ∧ (s.element f.slot (f.index + 1)).trapReason ≠ 0 ∧ trap = some ⟨f.index + 1,
      (s.element f.slot (f.index + 1)).kind, (s.element f.slot (f.index + 1)).trapReason⟩

/-- The list of the patrol frame has ended, before the frame's end. -/
theorem State.runElement_patrolEnds (hk : f.kind = .patrol) (hp : s.sleep.patrol = some p)
    (hend : s.listEndsWith f p trap) : ∃ g : Frame, g.kind = .patrol ∧ g.phase = .ended ∧ g.result = f.result ∧
      (s.waitOver f r).runElement { f with index := f.index + 1, phase := .start } = { s.waitOver f r with
        seq := { (s.waitOver f r).seq with frame := some g }
        sleep := { s.sleep with patrol := some { p with trap := trap } } } := by
  have hsleep : (s.waitOver f r).sleep = s.sleep := State.elapse_sleep s r
  rcases hend with ⟨hlast, rfl⟩ | ⟨hlast, hreason, rfl⟩
  · refine ⟨{ f with index := f.index + 1, phase := .ended }, hk, rfl, rfl, ?_⟩
    rw [State.runElement, if_pos (by simp [hlast]), ← hp, ← hsleep]
    rfl
  · have hel : (s.waitOver f r).elementBytes f.slot (f.index + 1) = s.elementBytes f.slot (f.index + 1) :=
      State.elementBytes_of_pool (State.elapse_pool s r) _ _
    refine ⟨{ f with index := f.index + 1, phase := .ended, trapped := true, trapIndex := f.index + 1 }, hk, rfl, rfl, ?_⟩
    rw [State.runElement, if_neg (by simpa using hlast)]
    dsimp only
    rw [hel, if_pos hreason, State.trapList, if_pos hk]
    simp only [State.onSleep, State.onFrame, State.onSeq, hsleep, hp, Option.map_some]
    rfl

/-- The expiry up to the judgement. -/
theorem exec_waitExpiry_patrolEnds (h : s.waits f r) (hk : f.kind = .patrol) (hres : f.result = .notAsked)
    (hp : s.sleep.patrol = some p) (hend : s.listEndsWith f p trap) : exec .waitExpiry s =
      .next (((((s.patrolOver p r trap).judgePatrol s.chain.failedSet).settleN 4094)).publish s) := by
  obtain ⟨g, hgk, hgp, hgr, hrun⟩ := State.runElement_patrolEnds (r := r) hk hp hend
  obtain ⟨z, hz⟩ : ∃ z : State, z = { s.waitOver f r with
    seq := { (s.waitOver f r).seq with frame := some g }
    sleep := { s.sleep with patrol := some { p with trap := trap } } } := ⟨_, rfl⟩
  have hfirst : (s.waitOver f r).settleStep = some z := (State.waitOver_settleStep h).trans (by rw [hrun, hz])
  have hfailed : z.chain.failedSet = s.chain.failedSet := by
    have hnode (n : Nat) : z.chain.node n = s.chain.node n := by
      rw [hz]
      exact State.elapse_node s r n
    simp only [Chain.failedSet, hnode]
  have hover : ((z.onSeq fun q => { q with frame := none }).onChain Chain.clearMarks).beginDueLocation =
      s.patrolOver p r trap := by
    rw [hz, State.waitOver, State.patrolOver]
    generalize s.elapse r = u
    rfl
  have hsecond : z.settleStep = some ((s.patrolOver p r trap).judgePatrol s.chain.failedSet) := by
    rw [State.settleStep, show z.seq.frame = some g by rw [hz]]
    dsimp only
    rw [if_neg (by simp [hgp]), if_pos ⟨hgp, by simp [hgr, hres]⟩, State.endFrame, if_pos hgk]
    dsimp only
    rw [hover, hfailed]
  rw [exec_waitExpiry h, State.settle, State.settleN_of_some 4095 hfirst, State.settleN_of_some 4094 hsecond]

end

/-- What the judgement writes, whether the part then sleeps or wakes. -/
theorem State.judgePatrol_shows {v : State} {p : Patrol} {failed : BitVec 20} (h : v.sleep.patrol = some p)
    (hp : v.sleep.power = .patrol) :
    (let y := v.judgePatrol failed
     y.seq.frame = v.seq.frame ∧ y.sleep.failedSet = failed ∧
     (∃ reason duration time, y.sleep.page = { (v.judged p failed).sleep.page with
       lastReason := reason, duration := duration, wakeTime := time }) ∧
     y.sleep.power ≠ .asleep ∧ y.inputs = v.inputs ∧
     (∃ trips, y.transit.alerts = v.transit.alerts ++ trips ∧ ∀ x ∈ trips, x.1 = .trip) ∧
     (y.chain = v.chain ∨ ∃ f, y.chain = { v.chain with sleepRequest := some f })) := by
  cases hw : p.wakeReason v.profile.drain failed v.sleep.failedSet with
  | none =>
    rw [State.judgePatrol_sleeps h hw]
    refine ⟨rfl, rfl, ⟨_, _, _, rfl⟩, ?_, rfl, ⟨[], (List.append_nil _).symm, by simp⟩, .inr ⟨_, rfl⟩⟩
    rw [show (((v.judged p failed).onSleep fun x => { x with phase := .patrolSleep }).onChain fun c =>
      { c with sleepRequest := some .sleep }).sleep.power = .patrol from hp]
    exact nofun
  | some w =>
    rw [State.judgePatrol_wakes h hw hp]
    obtain ⟨-, -, -, hpage, hfailed, hpower, hframe, -, hinputs, htrips, hchain⟩ :=
      (v.judged p failed).beginWaking_shows w (v.sleep.maxCount / 1000)
    refine ⟨hframe, hfailed, ⟨_, _, _, hpage⟩, hpower, hinputs, htrips, ?_⟩
    rw [hchain]
    split
    · exact .inr ⟨_, rfl⟩
    · exact .inl rfl

/-- Behind the judgement the arbiter alone can act, on the Sleep Controller's request. -/
theorem State.settleN_judged {v y : State} (hv : v.chain.engine.isSome = true ∨ v.chain.noRequest)
    (hf : y.seq.frame = none) (ht : y.taking) (hp : y.sleep.power ≠ .asleep)
    (hc : y.chain = v.chain ∨ ∃ f, y.chain = { v.chain with sleepRequest := some f }) (k : Nat) :
    ∃ c : Chain, y.settleN (k + 1) = { y with chain := c } ∧ c.nodes = v.chain.nodes := by
  have hidle : y.listIdle := by simp [State.listIdle, hf]
  rcases hc with hc | ⟨f, hc⟩
  · refine ⟨y.chain, ?_, by rw [hc]⟩
    exact State.settleN_of_none _ (State.settleStep_of_workIdle ⟨hidle, by rw [hc]; exact hv⟩)
  · obtain ⟨c, hsettle, hnodes, -⟩ := State.settleN_asks hidle ht hp (f := f) (by rw [hc])
      (by rw [hc]; exact hv.imp_right fun hn => ⟨hn.1, hn.2.1⟩) k
    exact ⟨c, hsettle, hnodes.trans (by rw [hc])⟩

/-- Behind a WAIT the frame's end leaves the engine, and no request where none waited. -/
theorem Chain.frameEnded_idle {c : Chain} (h : c.engine.isSome = true ∨ c.noRequest ∧ c.breakDue = false) :
    c.frameEnded.engine = c.engine ∧ c.frameEnded.quietA = c.quietA ∧
      (c.frameEnded.engine.isSome = true ∨ c.frameEnded.noRequest) := by
  have hkept : c.frameEnded.engine = c.engine ∧ c.frameEnded.quietA = c.quietA := by
    unfold Chain.frameEnded
    split <;> exact ⟨rfl, rfl⟩
  refine ⟨hkept.1, hkept.2, ?_⟩
  rcases h with he | ⟨hn, hdue⟩
  · exact .inl (by rw [hkept.1]; exact he)
  · refine .inr ?_
    have hdue : c.clearMarks.breakDue = false := hdue
    rw [Chain.frameEnded, if_neg (by simp [hdue])]
    exact hn

theorem Chain.frameEnded_nodes (c : Chain) : c.frameEnded.nodes = c.clearMarks.nodes := by
  unfold Chain.frameEnded
  split <;> rfl

section
variable {s t : State} {f : Frame} {p : Patrol} {r : Nat} {trap : Option Trap}

/-- The state `t` in which the expiry of a WAIT leaves a patrol whose list it ends. -/
def State.patrolFrameEnds (s t : State) (f : Frame) (p : Patrol) (r : Nat) (trap : Option Trap) : Prop :=
  s.waits f r ∧ s.sleep.power = .patrol ∧ s.sleep.patrol = some p ∧
  t = (((s.patrolOver p r trap).judgePatrol s.chain.failedSet).settleN 4094).publish s

theorem State.patrolFrameEnds.chainIdle (h : s.patrolFrameEnds t f p r trap) :
    (s.patrolOver p r trap).chain.engine = s.chain.engine ∧
    (s.chain.quietA = none → (s.patrolOver p r trap).chain.quietA = none) ∧
    ((s.patrolOver p r trap).chain.engine.isSome = true ∨ (s.patrolOver p r trap).chain.noRequest) := by
  obtain ⟨⟨-, -, -, -, -, hchain⟩, -⟩ := h
  obtain ⟨hengine, hquiet, hidle⟩ := Chain.frameEnded_idle (c := (s.elapse r).chain)
    (by simpa [Chain.noRequest] using hchain)
  exact ⟨hengine.trans (State.elapse_engine s r),
    fun hq => hquiet.trans ((State.elapse_quietA_none s r).mpr hq), hidle⟩

/-- Whatever follows, the frame has ended, the marks are cleared, and the patrol's figures are written (R154, R156). -/
theorem State.patrolFrameEnds.shows (h : s.patrolFrameEnds t f p r trap) :
    t.seq.frame = none ∧ (∀ m, t.chain.node m = { s.chain.node m with failedMark := false }) ∧
    t.sleep.failedSet = s.chain.failedSet ∧
    (∃ reason duration time, t.sleep.page =
      { ((s.patrolOver p r trap).judged { p with trap := trap } s.chain.failedSet).sleep.page with
        lastReason := reason, duration := duration, wakeTime := time }) ∧
    (∀ x ∈ t.transit.alerts, x ∈ s.transit.alerts ∨ x.1 = .trip) := by
  obtain ⟨-, -, hidle⟩ := h.chainIdle
  obtain ⟨⟨ht, -⟩, hpower, -, rfl⟩ := h
  obtain ⟨hframe, hfailed, hpage, hawake, hinputs, ⟨trips, halerts, htrips⟩, hchain⟩ :=
    State.judgePatrol_shows (v := s.patrolOver p r trap) (failed := s.chain.failedSet) (p := { p with trap := trap }) rfl
      hpower
  have htaking : ((s.patrolOver p r trap).judgePatrol s.chain.failedSet).taking := by
    rw [State.taking, hinputs]
    exact (congrArg Inputs.inReset (State.elapse_inputs s r)).trans ht
  obtain ⟨c, hsettle, hnodes⟩ := State.settleN_judged hidle hframe htaking hawake hchain 4093
  rw [hsettle]
  simp only [State.publish_seq, State.publish_chain, State.publish_sleep, State.publish_transitAlerts]
  refine ⟨hframe, fun m => ?_, hfailed, hpage, fun x hx => ?_⟩
  · have hnode : c.node m = (s.elapse r).chain.clearMarks.node m := by
      simp only [Chain.node, hnodes, State.patrolOver, Chain.frameEnded_nodes]
    rw [hnode, Chain.node_clearMarks_all, State.elapse_node]
  · rw [halerts] at hx
    rcases List.mem_append.mp hx with hx | hx
    · rw [State.patrolOver, State.elapse_transit] at hx
      exact .inl hx
    · exact .inr (htrips x hx)

/-- With no condition for a wake, SLEEP is asked for (R154, R155). -/
theorem State.patrolFrameEnds.sleeps (h : s.patrolFrameEnds t f p r trap)
    (hw : ({ p with trap := trap } : Patrol).wakeReason s.profile.drain s.chain.failedSet s.sleep.failedSet = none) :
    t.sleep.power = .patrol ∧ t.sleep.phase = .patrolSleep ∧ t.sleep.lastReason = s.sleep.lastReason ∧
    t.prot = (s.elapse r).prot ∧ t.seq.sampler = s.seq.sampler ∧
    (s.chain.engine.isSome = true → t.chain.sleepRequest = some .sleep) ∧
    (s.chain.engine = none → s.chain.quietA = none →
      t.chain.engine.map (fun e => (e.requester, e.frame, e.port)) = some (.sleepController, .sleep, .a)) := by
  obtain ⟨hengine, hquiet, hidle⟩ := h.chainIdle
  obtain ⟨⟨ht, -⟩, hpower, -, rfl⟩ := h
  obtain ⟨v, hv⟩ : ∃ v, v = s.patrolOver p r trap := ⟨_, rfl⟩
  have hprofile : v.profile = s.profile := by
    rw [hv]
    exact State.elapse_profile s r
  have hlast : v.sleep.failedSet = s.sleep.failedSet := by rw [hv]; rfl
  obtain ⟨page, hpage⟩ := v.judged_form { p with trap := trap } s.chain.failedSet
  obtain ⟨y, hy⟩ : ∃ y : State, y = { v with
    sleep := { v.sleep with failedSet := s.chain.failedSet, page := page, phase := .patrolSleep }
    chain := { v.chain with sleepRequest := some .sleep } } := ⟨_, rfl⟩
  have hjudged : v.judgePatrol s.chain.failedSet = y := by
    have hnone := hw
    rw [← hprofile, ← hlast] at hnone
    rw [State.judgePatrol_sleeps (by rw [hv]; rfl) hnone, hpage, hy]
    simp only [State.onChain, State.onSleep]
  have hypower : y.sleep.power = .patrol := by
    rw [hy, hv]
    exact hpower
  obtain ⟨c, hsettle, -, hbusy, hfree⟩ := State.settleN_asks (s := y) (f := .sleep)
    (by rw [hy, hv]; simp [State.listIdle, State.patrolOver])
    (by rw [hy, hv]; exact (congrArg Inputs.inReset (State.elapse_inputs s r)).trans ht)
    (by rw [hypower]; exact nofun) (by rw [hy])
    (by rw [hy, hv]; exact hidle.imp_right fun hn => ⟨hn.1, hn.2.1⟩) 4093
  rw [← hv, hjudged, hsettle]
  simp only [State.publish_seq, State.publish_chain, State.publish_sleep, State.publish_prot]
  refine ⟨hypower, by rw [hy], ?_, ?_, ?_, fun he => ?_, fun he hq => ?_⟩
  · rw [hy, hv]
    rfl
  · rw [hy, hv]
    rfl
  · rw [hy, hv]
    exact State.elapse_sampler s r
  · rw [hbusy (by rw [hy, hv]; exact (congrArg Option.isSome hengine).trans he), hy]
  · rw [hfree (by rw [hy, hv]; exact hengine.trans he) (by rw [hy, hv]; exact hquiet hq)]
    rfl

/-- With the nodes awake, a condition for a wake completes it at once (R155, R157, R158). -/
theorem State.patrolFrameEnds.wakes (h : s.patrolFrameEnds t f p r trap) {w : WakeReason}
    (hw : ({ p with trap := trap } : Patrol).wakeReason s.profile.drain s.chain.failedSet s.sleep.failedSet = some w)
    (hn : s.sleep.nodesAsleep = false) :
    (s.elapse r).awake t ∧ t.sleep.wakeOut = true ∧ t.sleep.lastReason = w ∧ t.sleep.page.lastReason = w ∧
      t.sleep.duration = s.sleep.maxCount / 1000 := by
  obtain ⟨-, -, hidle⟩ := h.chainIdle
  obtain ⟨-, hpower, -, rfl⟩ := h
  obtain ⟨v, hv⟩ : ∃ v, v = s.patrolOver p r trap := ⟨_, rfl⟩
  obtain ⟨page, hjpage⟩ := v.judged_form { p with trap := trap } s.chain.failedSet
  obtain ⟨j, hj⟩ : ∃ j : State, j = { v with sleep := { v.sleep with failedSet := s.chain.failedSet, page := page } } :=
    ⟨_, rfl⟩
  have hprofile : v.profile = s.profile := by
    rw [hv]
    exact State.elapse_profile s r
  have hlast : v.sleep.failedSet = s.sleep.failedSet := by rw [hv]; rfl
  have hjudged : v.judgePatrol s.chain.failedSet = j.beginWaking w (s.sleep.maxCount / 1000) := by
    have hslept : v.sleep.maxCount = s.sleep.maxCount := by rw [hv]; rfl
    rw [← hprofile, ← hlast] at hw
    rw [State.judgePatrol_wakes (by rw [hv]; rfl) hw (by rw [hv]; exact hpower), hjpage, hj, ← hslept]
  have hjn : j.sleep.nodesAsleep = false := by
    rw [hj, hv]
    exact hn
  obtain ⟨hout, hreason, hduration, hpage, -, -, hframe, -, -, -, hchain⟩ :=
    j.beginWaking_shows w (s.sleep.maxCount / 1000)
  rw [if_neg (by simp [hjn])] at hchain
  have hawake : (s.elapse r).awake (j.beginWaking w (s.sleep.maxCount / 1000)) := by
    rw [State.beginWaking_eq, if_neg (by simp [hjn])]
    refine State.awake_completeWake (State.wakesAs_wakeStarted _ _ ?_ ?_ hjn ?_ ?_ ?_ ?_ ?_) <;> rw [hj, hv]
    · exact ⟨rfl, rfl⟩
    · rfl
    · rw [State.elapse_sleep]
      rfl
    · exact ⟨rfl, rfl, rfl⟩
    · exact ⟨rfl, rfl⟩
    · exact ⟨rfl, rfl⟩
    · exact ⟨rfl, rfl, rfl⟩
  have hwork : (j.beginWaking w (s.sleep.maxCount / 1000)).workIdle := by
    refine ⟨?_, ?_⟩
    · have hnone : (j.beginWaking w (s.sleep.maxCount / 1000)).seq.frame = none := by
        rw [hframe, hj, hv]
        rfl
      simp [State.listIdle, hnone]
    · rw [hchain, hj, hv]
      exact hidle
  rw [← hv, hjudged, State.settleN_of_none _ (State.settleStep_of_workIdle hwork)]
  simp only [State.publish_sleep]
  exact ⟨State.awake_publish hawake s, hout, hreason, by rw [hpage], hduration⟩

end

/-! ## A patrol's ALIGN (R61, R155) -/

section
variable {s : State} {f : Frame} {p : Patrol} {r : Nat}

/-- The breaches of a patrol with those that a record adds. -/
def Breaches.joined (b : Breaches) (limits : Profile) (a : Aggregate) : Breaches where
  vcHigh := b.vcHigh || a.cells.any fun c => decide ((limits.sleepMaxVc : Int) < c.maxVc.value)
  vcLow := b.vcLow || a.cells.any fun c => decide (c.minVc.value < (limits.sleepMinVc : Int))
  tempHigh := b.tempHigh || a.temps.any fun x => decide (limits.sleepTemp < x.maxTemp.value)
  imbalance := b.imbalance || a.cells.any fun c => decide (limits.sleepImbalance < c.imbalance)

theorem State.judgePatrolRecord_eq {v : State} (h : v.sleep.patrol = some p) (a : Aggregate) :
    v.judgePatrolRecord a = { v with sleep := { v.sleep with patrol := some { p with
      record := some a, breaches := p.breaches.joined v.profile a } } } := by
  have hany {α : Type} (o : Option α) (g : α → Bool) : (o.map g).getD false = o.any g := by cases o <;> rfl
  simp only [State.judgePatrolRecord, State.onSleep, h, Option.map_some, hany, Breaches.joined]

theorem State.runElement_align {v : State} {g : Frame} (hl : g.index ≤ g.last)
    (hkind : (v.element g.slot g.index).kind = 6) (htrap : (v.element g.slot g.index).trapReason = 0) :
    v.runElement g = v.runAlign g := by
  rw [State.runElement, if_neg (by omega)]
  dsimp only
  rw [if_neg (by simpa using htrap), hkind]
  rfl

theorem State.runElement_wait {v : State} {g : Frame} (hl : g.index ≤ g.last)
    (hkind : (v.element g.slot g.index).kind = 4) (htrap : (v.element g.slot g.index).trapReason = 0)
    (harg : (v.element g.slot g.index).argument ≠ 0) (hg : v.seq.frame = some g) : v.runElement g = { v with
      seq := { v.seq with
        elementTimer := some (v.element g.slot g.index).argument, frame := some { g with phase := .waiting } } } := by
  rw [State.runElement, if_neg (by omega)]
  dsimp only
  rw [if_neg (by simpa using htrap), hkind]
  refine (if_neg harg).trans ?_
  simp only [State.onFrame, State.onSeq, hg, Option.map_some]

/-- The patrol's record, judged: the list goes on to its next element. -/
theorem State.runAlign_patrol {v : State} {g : Frame} (hk : g.kind = .patrol) (hg : v.seq.frame = some g)
    (hp : v.sleep.patrol = some p) : v.runAlign g = { v with
      table := { (v.evaluate true).1 with align := .idle }
      sleep := { v.sleep with patrol := some { p with
        record := some (v.evaluate true).2, breaches := p.breaches.joined v.profile (v.evaluate true).2 } }
      seq := { v.seq with frame := some { g with index := g.index + 1, phase := .start } } } := by
  have hpatrol : (g.kind == .patrol) = true := by rw [hk]; rfl
  rw [State.runAlign, hpatrol]
  dsimp only
  rw [if_pos rfl, State.judgePatrolRecord_eq (by exact hp)]
  simp only [State.alignReported, State.nextElement, State.onFrame, State.onSeq, State.onTable, hg, Option.map_some]
  rfl

/-- ALIGN behind a WAIT judges the evaluation's record, and the list goes on to the WAIT after it. -/
theorem exec_waitExpiry_patrolAlign (h : s.waits f r) (hk : f.kind = .patrol) (hp : s.sleep.patrol = some p)
    (hl : f.index + 1 < f.last) (hkind : (s.element f.slot (f.index + 1)).kind = 6)
    (htrap : (s.element f.slot (f.index + 1)).trapReason = 0) (hkind' : (s.element f.slot (f.index + 2)).kind = 4)
    (htrap' : (s.element f.slot (f.index + 2)).trapReason = 0) (harg : (s.element f.slot (f.index + 2)).argument ≠ 0) :
    exec .waitExpiry s = .next { s.elapse r with
      table := { ((s.elapse r).evaluate true).1 with align := .idle }
      sleep := { s.sleep with patrol := some { p with
        record := some ((s.elapse r).evaluate true).2
        breaches := p.breaches.joined s.profile ((s.elapse r).evaluate true).2 } }
      seq := { (s.elapse r).seq with
        elementTimer := some (s.element f.slot (f.index + 2)).argument, frame := some { f with index := f.index + 2 } } } := by
  obtain ⟨u, hu⟩ : ∃ u, u = s.elapse r := ⟨_, rfl⟩
  have hsleep : u.sleep = s.sleep := by rw [hu, State.elapse_sleep]
  have hprofile : u.profile = s.profile := by rw [hu, State.elapse_profile]
  have hel (v : State) (hv : v.pool = u.pool) (i : Nat) : v.element f.slot i = s.element f.slot i :=
    congrArg elementOf (State.elementBytes_of_pool (hv.trans (by rw [hu, State.elapse_pool])) f.slot i)
  obtain ⟨x, hx⟩ : ∃ x : State, x = { u with
    table := { (u.evaluate true).1 with align := .idle }
    sleep := { s.sleep with patrol := some { p with
      record := some (u.evaluate true).2, breaches := p.breaches.joined s.profile (u.evaluate true).2 } }
    seq := { u.seq with
      elementTimer := none, frame := some { f with index := f.index + 2, phase := .start } } } := ⟨_, rfl⟩
  obtain ⟨v, hv⟩ : ∃ v : State, v = { u with seq := { u.seq with
      elementTimer := none, frame := some { f with index := f.index + 1, phase := .start } } } := ⟨_, rfl⟩
  have hfirst : (s.waitOver f r).settleStep = some x := by
    have hover : s.waitOver f r = v := by rw [hv, hu]; rfl
    have helement := hel v (by rw [hv]) (f.index + 1)
    rw [State.waitOver_settleStep h, hover, State.runElement_align (g := { f with index := f.index + 1, phase := .start })
      (Nat.le_of_lt hl) ((congrArg Element.kind helement).trans hkind)
      ((congrArg Element.trapReason helement).trans htrap),
      State.runAlign_patrol (g := { f with index := f.index + 1, phase := .start }) (p := p) hk (by rw [hv])
        (by rw [hv, ← hp, ← hsleep]), hx, hv, ← hsleep, ← hprofile]
    rfl
  obtain ⟨y, hy⟩ : ∃ y : State, y = { u with
    table := { (u.evaluate true).1 with align := .idle }
    sleep := { s.sleep with patrol := some { p with
      record := some (u.evaluate true).2, breaches := p.breaches.joined s.profile (u.evaluate true).2 } }
    seq := { u.seq with
      elementTimer := some (s.element f.slot (f.index + 2)).argument
      frame := some { f with index := f.index + 2, phase := .waiting } } } := ⟨_, rfl⟩
  have hsecond : x.settleStep = some y := by
    have hframe : x.seq.frame = some { f with index := f.index + 2, phase := .start } := by rw [hx]
    have helement := hel x (by rw [hx]) (f.index + 2)
    have hargument : (x.element f.slot (f.index + 2)).argument ≠ 0 := by
      rw [helement]
      exact harg
    rw [State.settleStep, hframe]
    refine (if_pos ⟨rfl, by rw [hx]⟩).trans ?_
    rw [State.runElement_wait (g := { f with index := f.index + 2, phase := .start }) hl
      ((congrArg Element.kind helement).trans hkind') ((congrArg Element.trapReason helement).trans htrap')
      hargument hframe, helement, hx, hy]
  have hnext : { f with index := f.index + 2, phase := .waiting } = { f with index := f.index + 2 } := by
    obtain ⟨-, -, hphase, -⟩ := h
    rw [← hphase]
  have hidle : y.workIdle := by
    have hengine := State.waitOver_engine h
    rw [hy, hu]
    exact ⟨by simp [State.listIdle], hengine⟩
  have hshown : y.publish s = y := by
    obtain ⟨hlink, -, hrest⟩ := State.elapse_sameShown s r
    refine State.publish_of_sleepShown ?_ ?_ ?_ ?_ <;> rw [hy]
    rw [hu]
    exact ⟨hlink, rfl, hrest⟩
  rw [exec_waitExpiry h, State.settle_of_two hfirst hsecond (State.settleStep_of_workIdle hidle), hshown, hy, hu, hnext]

end

/-! ## The eighth sample of a burst (R54, R154) -/

/-- The newest entry is the one just taken. -/
theorem pushEntry_getLast? {l : List HistoryEntry} (e : HistoryEntry) (h : l.length ≤ 128) :
    (pushEntry l e).getLast? = some e := by
  rw [pushEntry, List.getLast?_drop, if_neg (by rw [List.length_append, List.length_singleton]; omega),
    List.getLast?_concat]

theorem boundVoltage_fst (mv : Int) : (boundVoltage mv).1 = (min 1000000 mv).toNat := by
  unfold boundVoltage
  split
  · rename_i h
    rw [min_eq_left h.le]
    rfl
  · rename_i h
    rw [min_eq_right (not_lt.mp h)]

theorem State.elapse_burst (s : State) (d : Nat) : (s.elapse d).sensing.burstCount = s.sensing.burstCount ∧
    (s.elapse d).sensing.burstSum = s.sensing.burstSum ∧ (s.elapse d).sensing.burstSat = s.sensing.burstSat := by
  unfold State.elapse
  split
  · exact ⟨rfl, rfl, rfl⟩
  · exact ⟨rfl, rfl, rfl⟩

section
variable {x : RawSample} {p : Patrol} {r : Nat} {s : State}

/-- The patrol with the figures of its burst. -/
def State.burstPatrol (s : State) (x : RawSample) (p : Patrol) : Patrol :=
  let current := calibrateCurrent x.current s.profile.shuntGain s.profile.shuntOffset
  { p with
    mean := roundAway (s.sensing.burstSum + current.1) 8, burstSat := s.sensing.burstSat || current.2
    packMv := (min 1000000 x.pack).toNat, linkMv := (min 1000000 x.link).toNat }

/-- The state behind the eighth sample, before the patrol goes on. -/
def State.burstDone (s : State) (x : RawSample) (p : Patrol) (r : Nat) : State := { s.elapse r with
  inputs := { s.inputs with sense := x }
  sensing := { (s.elapse r).sensing with
    history := pushEntry s.sensing.history ((s.elapse r).entryOf x)
    burstCount := 8, burstTimer := none
    burstSum := s.sensing.burstSum + (calibrateCurrent x.current s.profile.shuntGain s.profile.shuntOffset).1
    burstSat := s.sensing.burstSat || (calibrateCurrent x.current s.profile.shuntGain s.profile.shuntOffset).2 }
  sleep := { s.sleep with patrol := some (s.burstPatrol x p) } }

theorem exec_burstSample_eighth (ht : s.taking) (hb : s.historyBounded) (hpower : s.sleep.power = .patrol)
    (hphase : s.sleep.phase = .patrolBurst) (hp : s.sleep.patrol = some p) (htimer : s.sensing.burstTimer = some r)
    (hcount : s.sensing.burstCount = 7) : exec (.burstSample x) s = .next (((
      if s.chain.enumStatus = .matched then
        ((s.burstDone x p r).onSleep fun y => { y with phase := .patrolFrame }).patrolFrameStart
          s.sleep.page.settings.slot s.sleep.page.settings.first s.sleep.page.settings.last
      else (s.burstDone x p r).judgePatrol 0 : State).settle).publish s) := by
  obtain ⟨u, hu⟩ : ∃ u, u = s.elapse r := ⟨_, rfl⟩
  obtain ⟨hcount', hsum, hsat⟩ := State.elapse_burst s r
  have husleep : u.sleep = s.sleep := by rw [hu, State.elapse_sleep]
  have hcurrent : ((u.entryOf x).current, (u.entryOf x).iSat) =
      calibrateCurrent x.current s.profile.shuntGain s.profile.shuntOffset := by
    rw [← State.elapse_profile s r, ← hu]
    rfl
  obtain ⟨w, hw⟩ : ∃ w : State, w = { s.burstDone x p r with sleep := s.sleep } := ⟨_, rfl⟩
  have hsample : u.sampleBurst x = w := by
    rw [hw, State.burstDone, ← hcurrent, ← husleep, ← hsum, ← hsat, ← State.elapse_history s r, ← State.elapse_inputs s r,
      ← hu]
    rw [← hu] at hcount'
    simp only [State.sampleBurst, State.takeSample, State.onSensing, State.onInputs, hcount', hcount]
    rfl
  have hreport : w.reportBurst = State.settle (if s.chain.enumStatus = .matched then
        ((s.burstDone x p r).onSleep fun y => { y with phase := .patrolFrame }).patrolFrameStart
          s.sleep.page.settings.slot s.sleep.page.settings.first s.sleep.page.settings.last
      else (s.burstDone x p r).judgePatrol 0) := by
    have hlast : w.sensing.history.getLast? = some (u.entryOf x) := by
      rw [hw, State.burstDone, hu]
      dsimp only
      rw [pushEntry_getLast? _ hb]
    have hdone : (w.onSleep fun y => { y with patrol := y.patrol.map fun t => { t with
        mean := roundAway w.sensing.burstSum 8, burstSat := w.sensing.burstSat, packMv := (u.entryOf x).packMv
        linkMv := (u.entryOf x).linkMv } }) = s.burstDone x p r := by
      have hpack : (u.entryOf x).packMv = (min 1000000 x.pack).toNat := by
        rw [← boundVoltage_fst, State.entryOf]
      have hlink : (u.entryOf x).linkMv = (min 1000000 x.link).toNat := by
        rw [← boundVoltage_fst, State.entryOf]
      rw [hpack, hlink, hw]
      simp only [State.onSleep, State.burstDone, hp, Option.map_some]
      rfl
    have hwphase : w.sleep.phase = .patrolBurst := by
      rw [hw]
      exact hphase
    rw [State.reportBurst, hlast]
    dsimp only
    rw [State.burstReported, if_neg (by simp [hwphase])]
    dsimp only
    rw [hdone, show (s.burstDone x p r).chain.enumStatus = s.chain.enumStatus from State.elapse_enumStatus s r]
    rfl
  rw [show exec (.burstSample x) s = execBurstSample x s from rfl, execBurstSample, State.event_taking _ ht, htimer,
    State.onExpiry_some, ← hu, if_pos (by rw [husleep]; exact hpower), State.nextBurstSample, hsample,
    if_pos (by rw [hw]; rfl), hreport]

/-- With a matched enumeration the patrol frame begins, and its list stands at its first element (R44, R154). -/
theorem exec_burstSample_matched (ht : s.taking) (hb : s.historyBounded) (hpower : s.sleep.power = .patrol)
    (hphase : s.sleep.phase = .patrolBurst) (hp : s.sleep.patrol = some p) (htimer : s.sensing.burstTimer = some r)
    (hcount : s.sensing.burstCount = 7) {g : Group} (hmatched : s.chain.enumStatus = .matched)
    (he : s.chain.engine.isSome = true) (hl : s.sleep.page.settings.first ≤ s.sleep.page.settings.last)
    (hkind : (s.element s.sleep.page.settings.slot s.sleep.page.settings.first).kind = 1)
    (htrap : (s.element s.sleep.page.settings.slot s.sleep.page.settings.first).trapReason = 0)
    (hg : groupOf (s.element s.sleep.page.settings.slot s.sleep.page.settings.first).group = some g) :
    ∃ t, exec (.burstSample x) s = .next t ∧
      t.sleep = { s.sleep with phase := .patrolFrame, patrol := some (s.burstPatrol x p) } ∧
      t.sensing.burstTimer = none ∧ t.sensing.burstCount = 8 ∧ t.seq.frameNumber = s.seq.frameNumber + 1 ∧
      t.seq.frameStart = (s.elapse r).clock.packTime ∧ t.seq.sampler = s.seq.sampler ∧
      t.seq.frame.map (fun f => (f.kind, f.slot, f.first, f.last, f.index, f.phase, f.result)) =
        some (.patrol, s.sleep.page.settings.slot, s.sleep.page.settings.first, s.sleep.page.settings.last,
          s.sleep.page.settings.first, .converting, .notAsked) ∧
      t.chain.seqRequest = some (.convert ((s.seq.frameNumber + 1).setWidth 8) g) ∧
      (∀ m, (t.chain.node m).failedMark = false) ∧ t.table = FrameTable.reset ∧ SamePoolButCount s t ∧
      SameExcept [.inputs, .pool, .chain, .seq, .sensing, .table, .sleep] (s.elapse r) t := by
  obtain ⟨u, hu⟩ : ∃ u, u = s.elapse r := ⟨_, rfl⟩
  obtain ⟨settings, hset⟩ : ∃ settings, settings = s.sleep.page.settings := ⟨_, rfl⟩
  rw [← hset] at hl hkind htrap hg
  obtain ⟨f, hf⟩ : ∃ f : Frame, f = .start .patrol settings.slot settings.first settings.last false 0 [] := ⟨_, rfl⟩
  obtain ⟨y, hy⟩ : ∃ y : State, y = { s.burstDone x p r with
    sleep := { s.sleep with phase := .patrolFrame, patrol := some (s.burstPatrol x p) }
    chain := u.chain.clearMarks
    table := .reset
    seq := { u.seq with
      frameNumber := s.seq.frameNumber + 1, tag := (s.seq.frameNumber + 1).setWidth 8, frameStart := u.clock.packTime
      elementTimer := none, repollTimer := none, frame := some f } } := ⟨_, rfl⟩
  have hstart : ((s.burstDone x p r).onSleep fun y => { y with phase := .patrolFrame }).patrolFrameStart
      settings.slot settings.first settings.last = y := by
    rw [hy, hf, ← State.elapse_frameNumber s r, hu]
    rfl
  have hpool : y.pool = s.pool := by
    rw [hy]
    exact State.elapse_pool s r
  have helement : y.element settings.slot settings.first = s.element settings.slot settings.first :=
    congrArg elementOf (State.elementBytes_of_pool hpool settings.slot settings.first)
  have hsettle : y.settle = y.converts f g := by
    refine State.settle_converts (by rw [hy]) (by rw [hf]; rfl) (by rw [hy]; rfl) ?_ (by rw [hf]; exact hl) ?_ ?_ ?_
    · rw [hy, hu]
      exact (congrArg Option.isSome (State.elapse_engine s r)).trans he
    · rw [hf]
      exact (congrArg Element.kind helement).trans hkind
    · rw [hf]
      exact (congrArg Element.trapReason helement).trans htrap
    · rw [hf]
      exact (congrArg (fun el => groupOf el.group) helement).trans hg
  refine ⟨_, by rw [exec_burstSample_eighth ht hb hpower hphase hp htimer hcount, if_pos hmatched, ← hset, hstart,
    hsettle], ?_⟩
  simp only [State.publish_sleep, State.publish_sensing, State.publish_seq, State.publish_chain, State.publish_table]
  refine ⟨by rw [hy]; rfl, by rw [hy]; rfl, by rw [hy]; rfl, by rw [hy]; rfl, by rw [hy, hu]; rfl, ?_, ?_, ?_, ?_,
    by rw [hy]; rfl, ?_, ?_⟩
  · rw [hy, hu]
    exact State.elapse_sampler s r
  · rw [hy, hf, ← hset]
    rfl
  · rw [hy]
    rfl
  · intro m
    rw [hy]
    exact Chain.clearMarks_failedMark u.chain m
  · have hcount := State.publish_pool (y.converts f g) s
    rw [show (y.converts f g).pool = s.pool from hpool] at hcount
    exact hcount
  · refine SameExcept.publish ?_ ?_ (by simp)
    · rw [hy, State.burstDone]
      simp [sameExcept_iff, State.converts]
    · rw [hy, State.burstDone]
      simp [State.sameReported, State.converts, hu]

/-- With no matched enumeration the patrol ends with no record, and the nodes being awake the part wakes (R154, R155). -/
theorem exec_burstSample_unmatched (ht : s.taking) (hb : s.historyBounded) (hpower : s.sleep.power = .patrol)
    (hphase : s.sleep.phase = .patrolBurst) (hp : s.sleep.patrol = some p) (htimer : s.sensing.burstTimer = some r)
    (hcount : s.sensing.burstCount = 7) (hmatched : s.chain.enumStatus ≠ .matched) (hw : s.workIdle)
    (hn : s.sleep.nodesAsleep = false) (hbreach : p.breaches = .clear) (hrecord : p.record = none) :
    ∃ t, exec (.burstSample x) s = .next t ∧ (s.elapse r).awake t ∧ t.sleep.wakeOut = true ∧
      t.sleep.lastReason = (if s.profile.drain < (s.burstPatrol x p).mean.natAbs ∨ (s.burstPatrol x p).burstSat = true
        then .drain else .supervision) ∧
      t.sleep.duration = s.sleep.maxCount / 1000 ∧ t.sleep.failedSet = 0 ∧
      t.sleep.page.patrolCount = s.sleep.page.patrolCount + 1 := by
  obtain ⟨q, hq⟩ : ∃ q, q = s.burstPatrol x p := ⟨_, rfl⟩
  obtain ⟨w, hwr⟩ : ∃ w, w = if s.profile.drain < q.mean.natAbs ∨ q.burstSat = true then WakeReason.drain
    else .supervision := ⟨_, rfl⟩
  obtain ⟨v, hv⟩ : ∃ v, v = s.burstDone x p r := ⟨_, rfl⟩
  have hvpatrol : v.sleep.patrol = some q := by rw [hv, hq]; rfl
  have hvpower : v.sleep.power = .patrol := by rw [hv]; exact hpower
  have hvcount : v.sleep.maxCount = s.sleep.maxCount := by rw [hv]; rfl
  have hreason : q.wakeReason v.profile.drain 0 v.sleep.failedSet = some w := by
    have hprofile : v.profile = s.profile := by rw [hv]; exact State.elapse_profile s r
    have hany : q.breaches.any = false := by rw [hq, State.burstPatrol, hbreach]; rfl
    have hnone : q.record = none := by rw [hq]; exact hrecord
    rw [hprofile, Patrol.wakeReason_eq_some]
    refine ⟨.inr (.inr (Patrol.supervision_iff.mpr (.inr (.inr hnone)))), ?_⟩
    have hdrain : q.drain s.profile.drain = true ↔ s.profile.drain < q.mean.natAbs ∨ q.burstSat = true := by
      rw [Patrol.drain, Bool.or_eq_true]
      exact or_congr decide_eq_true_iff Iff.rfl
    simp only [hwr, hany, hdrain, Bool.false_eq_true, if_false]
  obtain ⟨y, hy⟩ : ∃ y, y = (v.judged q 0).beginWaking w (v.sleep.maxCount / 1000) := ⟨_, rfl⟩
  have hjudged : v.judgePatrol 0 = y := by rw [hy, State.judgePatrol_wakes hvpatrol hreason hvpower]
  obtain ⟨hout, hlast, hduration, hpage, hfailed, -, hframe, -, -, -, hchain⟩ :=
    (v.judged q 0).beginWaking_shows w (v.sleep.maxCount / 1000)
  rw [← hy] at hout hlast hduration hpage hfailed hframe hchain
  have hnodes : (v.judged q 0).sleep.nodesAsleep = false := by
    obtain ⟨page, hform⟩ := v.judged_form q 0
    rw [hform, hv]
    exact hn
  have hidle : y.workIdle := by
    rw [hnodes] at hchain
    obtain ⟨hlist, hengine⟩ := (State.elapse_workIdle s r).mpr hw
    have hyframe : y.seq.frame = (s.elapse r).seq.frame := by rw [hframe, hv]; rfl
    have hychain : y.chain = (s.elapse r).chain := by rw [hchain, hv]; rfl
    refine ⟨?_, by rw [hychain]; exact hengine⟩
    rw [State.listIdle, hyframe]
    exact hlist
  have hawake : (s.elapse r).awake y := by
    obtain ⟨page, hform⟩ := v.judged_form q 0
    rw [hy, State.beginWaking_eq, hnodes, if_neg (by decide)]
    refine State.awake_completeWake (State.wakesAs_wakeStarted _ _ ?_ ?_ hnodes ?_ ?_ ?_ ?_ ?_) <;> rw [hform, hv]
    · rw [State.elapse_inputs]
      exact ⟨rfl, rfl⟩
    · rfl
    · rw [State.elapse_sleep]
      rfl
    · exact ⟨rfl, rfl, rfl⟩
    · exact ⟨rfl, rfl⟩
    · exact ⟨rfl, rfl⟩
    · exact ⟨rfl, rfl, rfl⟩
  refine ⟨_, by rw [exec_burstSample_eighth ht hb hpower hphase hp htimer hcount, if_neg hmatched, ← hv, hjudged,
    State.settle_of_workIdle hidle], State.awake_publish hawake s, ?_⟩
  simp only [State.publish_sleep]
  refine ⟨hout, hlast.trans (by rw [hwr, hq]), hduration.trans (by rw [hvcount]), hfailed, ?_⟩
  rw [hpage, hv]
  rfl

end

/-! ## The patrol judged (R155, R156) -/

/-- The members of the failed set are the nodes with a mark. -/
theorem Chain.mem_failedSet (c : Chain) (m : Nat) : (1 ≤ m ∧ m ≤ 20 ∧ c.failedSet.getLsbD (m - 1) = true) ↔
    1 ≤ m ∧ m ≤ 20 ∧ (c.node m).failedMark = true := by
  refine and_congr_right fun h1 => and_congr_right fun h20 => ?_
  rw [Chain.failedSet_getLsbD c ⟨h1, h20⟩]

/-- SUPERVISION with the failed nodes of a chain. -/
theorem Patrol.supervision_failedSet {q : Patrol} {c : Chain} {last : BitVec 20} :
    q.supervision c.failedSet last = true ↔
      (∃ m, (1 ≤ m ∧ m ≤ 20 ∧ (c.node m).failedMark = true) ∧ last.getLsbD (m - 1) = true) ∨ q.trap ≠ none ∨
        q.record = none := by
  simp only [Patrol.supervision_iff, Chain.mem_failedSet]

theorem figureOr0_toNat {α : Type} (o : Option α) (g : α → Extreme) :
    (figureOr0 (o.map g)).toNat = (o.map fun c => (g c).value.toNat).getD 0 := by cases o <;> rfl

theorem figureOr0_map {α : Type} (o : Option α) (g : α → Extreme) :
    figureOr0 (o.map g) = (o.map fun c => (g c).value).getD 0 := by cases o <;> rfl

/-- The figures of a summary, and its flags in the order of R156's list. -/
theorem Patrol.summary_shows (q : Patrol) (limit : Nat) (failed last : BitVec 20) :
    (let e := q.summary limit failed last
     e.time = q.start ∧ e.mean = q.mean ∧
     e.minVc = ((q.record.bind (·.cells)).map fun c => c.minVc.value.toNat).getD 0 ∧
     e.maxVc = ((q.record.bind (·.cells)).map fun c => c.maxVc.value.toNat).getD 0 ∧
     e.maxTemp = ((q.record.bind (·.temps)).map fun x => x.maxTemp.value).getD 0 ∧
     e.flags.getLsbD 0 = q.breaches.vcHigh ∧ e.flags.getLsbD 1 = q.breaches.vcLow ∧
     e.flags.getLsbD 2 = q.breaches.tempHigh ∧ e.flags.getLsbD 3 = q.breaches.imbalance ∧
     e.flags.getLsbD 4 = q.drain limit ∧ e.flags.getLsbD 5 = q.burstSat ∧
     (e.flags.getLsbD 6 = true ↔ ∃ m, 1 ≤ m ∧ m ≤ 20 ∧ failed.getLsbD (m - 1) = true) ∧
     e.flags.getLsbD 7 = q.supervision failed last ∧ e.flags.getLsbD 8 = q.trap.isSome ∧
     e.flags.getLsbD 9 = q.record.isNone ∧ e.flags.getLsbD 10 = (q.record.bind (·.cells)).isNone ∧
     e.flags.getLsbD 11 = (q.record.bind (·.temps)).isNone ∧ e.flags.getLsbD 12 = q.late) := by
  have hflag (i : Nat) (hi : i < 13) := q.summary_flags limit failed last hi
  refine ⟨rfl, rfl, figureOr0_toNat _ _, figureOr0_toNat _ _, figureOr0_map _ _, hflag 0 (by decide), hflag 1 (by decide),
    hflag 2 (by decide), hflag 3 (by decide), hflag 4 (by decide), hflag 5 (by decide), ?_, hflag 7 (by decide),
    hflag 8 (by decide), hflag 9 (by decide), hflag 10 (by decide), hflag 11 (by decide), hflag 12 (by decide)⟩
  rw [hflag 6 (by decide)]
  exact bne_iff_ne.trans (exists_failed_iff failed)

/-- The page of a judged patrol. -/
theorem State.patrolOver_page (s : State) (p q : Patrol) (r : Nat) (trap : Option Trap) (failed : BitVec 20) :
    ((s.patrolOver p r trap).judged q failed).sleep.page =
      { (s.sleep.page.addSummary (q.summary s.profile.drain failed s.sleep.failedSet)) with
        patrolCount := s.sleep.page.patrolCount + 1, failed := failed
        trap := if q.trap.isSome then q.trap else s.sleep.page.trap } := by
  rw [← State.elapse_profile s r]
  rfl

/-- Settles O58: a wake or the request of SLEEP follows the same judgement, whose page and failed set the wake keeps; the
flags are read bit by bit from the list that the summary packs. -/
theorem patrolsAreJudged : Obligations.PatrolsAreJudged := by
  refine ⟨fun x p r s ht hb hpower hphase hp htimer hcount => ⟨fun g hmatched he hl hkind htrap hg => ?_,
    fun hmatched hw hn hbreach hrecord => ?_⟩, fun f p r s hw hk hres hpower hp =>
    ⟨fun hl hkind htrap hkind' htrap' harg => ?_, fun trap hend => ?_⟩⟩
  · exact exec_burstSample_matched ht hb hpower hphase hp htimer hcount hmatched he hl hkind htrap hg
  · exact exec_burstSample_unmatched ht hb hpower hphase hp htimer hcount hmatched hw hn hbreach hrecord
  · exact ⟨_, exec_waitExpiry_patrolAlign hw hk hp hl hkind htrap hkind' htrap' harg, rfl, rfl, rfl,
      by simp [sameExcept_iff]⟩
  · intro b breach drain failed supervision place cells temps
    obtain ⟨t, ht⟩ : ∃ t, t = (((s.patrolOver p r trap).judgePatrol s.chain.failedSet).settleN 4094).publish s := ⟨_, rfl⟩
    have hends : s.patrolFrameEnds t f p r trap := ⟨hw, hpower, hp, ht⟩
    obtain ⟨hframe, hnodes, hset, ⟨reason, duration, time, hpage⟩, halerts⟩ := hends.shows
    obtain ⟨q, hq⟩ : ∃ q : Patrol, q = { p with trap := trap } := ⟨_, rfl⟩
    have hsupervision : q.supervision s.chain.failedSet s.sleep.failedSet = true ↔ supervision := by
      rw [Patrol.supervision_failedSet, hq]
    obtain ⟨hcount, hnewest, hothers, hplace⟩ := s.sleep.page.addSummary_ring
      (q.summary s.profile.drain s.chain.failedSet s.sleep.failedSet)
    rw [State.patrolOver_page, ← hq] at hpage
    refine ⟨t, by rw [exec_waitExpiry_patrolEnds hw hk hres hp hend, ht], hframe, hnodes, fun m h1 h20 => ?_, ?_, ?_, ?_,
      halerts, ?_, ?_, ?_, ⟨q.summary s.profile.drain s.chain.failedSet s.sleep.failedSet, ?_, ?_⟩,
      fun hbreach hdrain hsup => ?_, fun w hwr hcond hn => ?_⟩
    · rw [hset, Chain.failedSet_getLsbD s.chain ⟨h1, h20⟩]
      exact ⟨fun h => ⟨h1, h20, h⟩, fun ⟨_, _, h⟩ => h⟩
    · rw [hpage, hset]
    · rw [hpage]
    · rw [hpage, hq]
      cases trap <;> rfl
    · rw [hpage]
      exact hcount
    · rw [hpage]
      exact hnewest
    · rw [hpage]
      exact hothers
    · rw [hpage]
      exact hplace
    · obtain ⟨htime, hmean, hmin, hmax, htemp, h0, h1, h2, h3, h4, h5, h6, h7, h8, h9, h10, h11, h12⟩ :=
        q.summary_shows s.profile.drain s.chain.failedSet s.sleep.failedSet
      rw [← h7] at hsupervision
      rw [hq] at *
      exact ⟨htime, hmean, hmin, hmax, htemp, h0, h1, h2, h3, h4, h5, h6.trans (exists_congr s.chain.mem_failedSet),
        hsupervision, h8, h9, h10, h11, h12⟩
    · have hnone : q.wakeReason s.profile.drain s.chain.failedSet s.sleep.failedSet = none := by
        by_contra hsome
        obtain ⟨w, hw⟩ := Option.ne_none_iff_exists'.mp hsome
        obtain ⟨hcond, -⟩ := Patrol.wakeReason_eq_some.mp hw
        rw [hsupervision, hq] at hcond
        rcases hcond with h | h | h
        · exact Bool.false_ne_true (hbreach.symm.trans h)
        · exact Bool.false_ne_true (hdrain.symm.trans h)
        · exact hsup h
      rw [hq] at hnone
      exact hends.sleeps hnone
    · have hsome : q.wakeReason s.profile.drain s.chain.failedSet s.sleep.failedSet = some w := by
        refine Patrol.wakeReason_eq_some.mpr ⟨?_, ?_⟩
        · rw [hsupervision, hq]
          exact hcond
        · rw [hq]
          exact hwr
      rw [hq] at hsome
      exact hends.wakes hsome hn

end Sys2Proof.Machine

namespace Sys2Proof.Machine

open Sys2Proof

/-! ## The taking of a tamper latch (R153, R172) -/

/-- The alert of the lock, where the session is not LOCKED. -/
def State.lockAlerts (s : State) : List (AlertKind × List Byte) :=
  if s.store.session = .locked then [] else [(.updateLocked, [1])]

/-- An invalidated target leaves the floor, the profile in use and the slot. -/
theorem ProfileStore.invalidate_keeps (p : ProfileStore) : p.invalidate.floor = p.floor ∧ p.invalidate.inUse = p.inUse ∧
    p.invalidate.slot = p.slot := by
  unfold ProfileStore.invalidate
  rw [ProfileStore.setTarget_eq]
  exact ⟨rfl, rfl, rfl⟩

/-- The store locks in the state `q`: the order in its slot ends, and its alert is on its way. -/
def State.storeLocked (s : State) (q : ProfileStore) : State :=
  (((({ s with store := q } : State).onStore fun p => { p with session := .locked, waitTimer := none }).completeStoreOrder
    .aborted (packDetail [(1, 1)])).raise .updateLocked (lockedPayload 1))

theorem State.storeLocked_form (s : State) (q : ProfileStore) : ∃ pool store, s.storeLocked q = { s with
      pool := pool, store := store
      transit := { s.transit with alerts := s.transit.alerts ++ [(.updateLocked, [1])] } } ∧
    store.session = .locked ∧ store.floor = q.floor ∧ store.inUse = q.inUse ∧ (q.slot = none → pool = s.pool) := by
  cases hs : q.slot with
  | none =>
    refine ⟨s.pool, { q with session := .locked, waitTimer := none }, ?_, rfl, rfl, rfl, fun _ => rfl⟩
    rw [State.storeLocked, State.completeStoreOrder]
    simp only [State.onStore, hs, lockedPayload_one, State.raise, State.onTransit]
  | some o =>
    refine ⟨(s.complete o.buffer .aborted (packDetail [(1, 1)])).pool,
      { q with session := .locked, waitTimer := none, slot := none }, ?_, rfl, rfl, rfl, nofun⟩
    rw [State.storeLocked, State.completeStoreOrder_onStore (o := o) (by exact hs), lockedPayload_one]
    rfl

/-- What a tamper event leaves of the Profile Store (R172). -/
theorem State.tamperAtStore_form (s : State) : ∃ pool store, s.tamperAtStore = { s with
      pool := pool, store := store
      transit := { s.transit with alerts := s.transit.alerts ++ s.lockAlerts } } ∧
    store.session = .locked ∧ store.floor = s.store.floor ∧ store.inUse = s.store.inUse ∧
    (s.store.slot = none → pool = s.pool) := by
  obtain ⟨hfloor, huse, hslot⟩ := s.store.invalidate_keeps
  have hinvalid (h : s.store.session ≠ .locked)
      (ht : s.tamperAtStore = s.storeLocked s.store.invalidate) : ∃ pool store, s.tamperAtStore = { s with
        pool := pool, store := store
        transit := { s.transit with alerts := s.transit.alerts ++ s.lockAlerts } } ∧
      store.session = .locked ∧ store.floor = s.store.floor ∧ store.inUse = s.store.inUse ∧
      (s.store.slot = none → pool = s.pool) := by
    obtain ⟨pool, store, hform, hlocked, hfloor', huse', hpool⟩ := s.storeLocked_form s.store.invalidate
    exact ⟨pool, store, by rw [ht, hform, State.lockAlerts, if_neg h], hlocked, hfloor'.trans hfloor, huse'.trans huse,
      fun hn => hpool (hslot.trans hn)⟩
  cases hsession : s.store.session with
  | locked =>
    refine ⟨s.pool, s.store, ?_, hsession, rfl, rfl, fun _ => rfl⟩
    rw [State.tamperAtStore, hsession, State.lockAlerts, if_pos hsession, List.append_nil]
  | idle =>
    cases hs : s.store.slot with
    | none =>
      obtain ⟨pool, store, hform, hlocked, hfloor', huse', hpool⟩ := s.storeLocked_form s.store
      refine ⟨pool, store, ?_, hlocked, hfloor', huse', fun _ => hpool hs⟩
      have ht : s.tamperAtStore = s.storeLocked s.store := by
        rw [State.tamperAtStore, hsession, hs]
        rfl
      rw [ht, hform, State.lockAlerts, if_neg (by simp [hsession])]
    | some o =>
      have h := hinvalid (by simp [hsession]) (by rw [State.tamperAtStore, hsession, hs]; rfl)
      rwa [hs] at h
  | receiving => exact hinvalid (by simp [hsession]) (by rw [State.tamperAtStore, hsession]; rfl)
  | verifying => exact hinvalid (by simp [hsession]) (by rw [State.tamperAtStore, hsession]; rfl)
  | verified => exact hinvalid (by simp [hsession]) (by rw [State.tamperAtStore, hsession]; rfl)
  | activationPending => exact hinvalid (by simp [hsession]) (by rw [State.tamperAtStore, hsession]; rfl)

/-- The TAMPER payload (R153). -/
theorem State.tamperPayload_eq (s : State) {v : Word} (h : s.sleep.tamperLatch = some v) : s.tamperPayload =
    [BitVec.ofNat 8 (powerCode s.sleep.power), 0, 0, 0] ++ leBytes 4 v.toNat ++
      [BitVec.ofNat 8 s.sleep.tamperEdges, if s.inputs.pins.tamperIn then 1 else 0] := by
  have hlevel (b : Bool) : BitVec.ofNat 8 (boolCode b) = if b then 1 else 0 := by cases b <;> rfl
  rw [State.tamperPayload, h]
  simp [packFields, leSigned_nat, hlevel, leBytes]

/-- The state in which the latch has been taken outside ACTIVE, before the wake reason arrives. -/
theorem State.takeTamper_form {s : State} {v : Word} (h : s.sleep.tamperLatch = some v)
    (hp : s.sleep.power ≠ .active) : ∃ pool store y, s.takeTamper = y.wakeReason .tamper ∧ y = { s with
      pool := pool, store := store, prot := { s.prot with tamperHeld := true }
      sleep := { s.sleep with tamperLatch := none, tamperEdges := 0 }
      transit := { s.transit with
        alerts := s.transit.alerts ++ s.tamperAlerts v s.sleep.tamperEdges s.inputs.pins.tamperIn } } ∧
    store.session = .locked ∧ store.floor = s.store.floor ∧ store.inUse = s.store.inUse ∧
    (s.store.slot = none → pool = s.pool) := by
  obtain ⟨pool, store, hform, hlocked, hfloor, huse, hpool⟩ := s.tamperAtStore_form
  refine ⟨pool, store, _, ?_, rfl, hlocked, hfloor, huse, hpool⟩
  have hactive : ({ s with
      pool := pool, store := store
      transit := { s.transit with alerts := s.transit.alerts ++ s.lockAlerts } } : State).sleep.power ≠ .active := hp
  rw [State.takeTamper, hform, if_neg hactive, State.tamperPayload_eq s h, State.tamperAlerts, if_neg hp,
    List.append_nil, ← List.append_assoc]
  rfl

/-! ## The release step of sleep entry (R131, R149) -/

theorem Pool.beginRelease_form (p : Pool) (n : Nat) :
    ∃ table, p.beginRelease n = { p with table := table, releaseList := p.releaseList ++ [n] } := by
  rw [Pool.beginRelease, Pool.setEntry_table]
  exact ⟨_, rfl⟩

/-- Releases begun one after another. -/
theorem Pool.beginReleases (l : List Nat) (h : ∀ n ∈ l, 1 ≤ n ∧ n ≤ 40) (p : Pool) :
    (∃ table, l.foldl Pool.beginRelease p = { p with table := table, releaseList := p.releaseList ++ l }) ∧
    ∀ m, (l.foldl Pool.beginRelease p).entry m =
      if m ∈ l then { p.entry m with state := .held, marked := true } else p.entry m := by
  induction l generalizing p with
  | nil => exact ⟨⟨p.table, by simp⟩, fun m => by simp⟩
  | cons n l ih =>
    obtain ⟨⟨table, hform⟩, hentry⟩ := ih (fun m hm => h m (List.mem_cons_of_mem n hm)) (p.beginRelease n)
    obtain ⟨table', hone⟩ := p.beginRelease_form n
    obtain ⟨hself, -, hother, -⟩ := p.beginRelease_spec (h n List.mem_cons_self)
    refine ⟨⟨table, ?_⟩, fun m => ?_⟩
    · rw [List.foldl_cons, hform, hone]
      simp
    · rw [List.foldl_cons, hentry]
      by_cases hm : m = n
      · subst hm
        rw [hself, if_pos List.mem_cons_self]
        split <;> rfl
      · rw [hother m hm]
        simp [hm]

theorem State.releaseNumbers_range (s : State) : ∀ n ∈ s.releaseNumbers, 1 ≤ n ∧ n ≤ 40 := by
  intro n hn
  have := List.mem_range'_1.mp (List.mem_of_mem_filter hn)
  omega

/-- The state in which the release step has begun. -/
def State.releasing (s : State) : State := { s with
  pool := { s.releaseNumbers.foldl Pool.beginRelease s.pool with
    resultQueue := []
    discarded := satAdd 65535 (s.releaseNumbers.foldl Pool.beginRelease s.pool).discarded s.releaseNumbers.length }
  sleep := { s.sleep with
    phase := .entryRelease
    wakeOut := if s.releaseNumbers.contains s.sleep.wakeCompletion then false else s.sleep.wakeOut
    wakeCompletion := if s.releaseNumbers.contains s.sleep.wakeCompletion then 0 else s.sleep.wakeCompletion } }

theorem State.beginReleaseStep_eq (s : State) : s.beginReleaseStep =
    if s.releasing.pool.releaseList = [] then s.releasing.endReleaseStep else s.releasing := by
  have hsleep : (if s.releaseNumbers.contains s.sleep.wakeCompletion then
      { s.sleep with phase := .entryRelease, wakeOut := false, wakeCompletion := 0 }
      else { s.sleep with phase := .entryRelease }) = s.releasing.sleep := by
    rw [State.releasing]
    cases s.releaseNumbers.contains s.sleep.wakeCompletion <;> rfl
  rw [State.releasing, show { s.sleep with
    phase := .entryRelease
    wakeOut := if s.releaseNumbers.contains s.sleep.wakeCompletion then false else s.sleep.wakeOut
    wakeCompletion := if s.releaseNumbers.contains s.sleep.wakeCompletion then 0 else s.sleep.wakeCompletion } =
    s.releasing.sleep from rfl, ← hsleep]
  rfl

theorem State.releasing_pool (s : State) : ∃ table, s.releasing.pool = { s.pool with
    table := table, releaseList := s.pool.releaseList ++ s.releaseNumbers, resultQueue := []
    discarded := min 65535 (s.pool.discarded + s.releaseNumbers.length) } := by
  obtain ⟨⟨table, hform⟩, -⟩ := Pool.beginReleases s.releaseNumbers s.releaseNumbers_range s.pool
  refine ⟨table, ?_⟩
  rw [State.releasing, hform]
  rfl

theorem State.releasing_begun (s : State) : s.releaseBegun s.releasing := by
  obtain ⟨table, hpool⟩ := s.releasing_pool
  obtain ⟨-, hentry⟩ := Pool.beginReleases s.releaseNumbers s.releaseNumbers_range s.pool
  refine ⟨rfl, rfl, rfl, ?_, ?_, ?_, fun n _ _ => hentry n, ?_, ?_⟩ <;> rw [hpool]

/-! ## A wake that begins with the nodes asleep (R157) -/

/-- WAKING, with the tone on its way or waiting for port A. -/
theorem State.settle_beginWaking_asleep {v : State} (r : WakeReason) (duration : Nat) (hn : v.sleep.nodesAsleep = true)
    (hl : v.listIdle) (ht : v.taking)
    (hw : v.chain.engine.isSome = true ∨ v.chain.location = none ∧ v.chain.seqRequest = none) :
    ∃ (ahead : ReadAhead) (chain : Chain), (v.beginWaking r duration).settle = { v with
      link := { Link.reset v.link.resetCause with
        alertLost := decide (0 < v.alerts.lostCount), sdo := v.link.sdo, readAhead := ahead }
      pool := { v.pool with memory := memZero v.pool.memory v.clearedPages, retained := none }
      sensing := { v.sensing with burstTimer := if v.sleep.power = .patrol then none else v.sensing.burstTimer }
      sleep := { v.sleep with
        power := .waking, phase := .wakeTone, wakeOut := true, timersRunning := false, lastReason := r
        duration := duration, pendingReason := none, patrolDue := false, patrol := none
        page := { v.sleep.page with lastReason := r, duration := duration, wakeTime := v.now } }
      transit := { v.transit with burst := if v.sleep.power = .patrol then false else v.transit.burst }
      chain := chain } := by
  obtain ⟨ahead, hform⟩ := v.wakeStarted_form r duration
  obtain ⟨y, hy⟩ : ∃ y, y = v.beginWaking r duration := ⟨_, rfl⟩
  have hyform := hy
  rw [State.beginWaking_eq, hn, if_pos rfl, hform] at hyform
  obtain ⟨c, hsettle, -⟩ := State.settleN_asks (s := y) (by rw [hyform]; exact hl) (by rw [hyform]; exact ht)
    (by rw [hyform]; exact nofun) (f := .wakeTone) (by rw [hyform]; rfl) (by rw [hyform]; exact hw) 4095
  refine ⟨ahead, c, ?_⟩
  rw [← hy, State.settle, hsettle, hyform]
  rfl

/-! ## The low-power tick (R26, R151, R152) -/

/-- Time has passed up to the tick, at which the lines are sampled. -/
def State.ticked (s : State) (w d : Bool) : State :=
  s.passTick.onInputs fun i => { i with pins := { i.pins with wakeIn := w, tamperIn := d } }

theorem exec_lowPowerTick {s : State} (ht : s.taking) (w d : Bool) :
    exec (.lowPowerTick w d) s = .next (((s.ticked w d).tickWork.settle).publish s) := by
  rw [show exec (.lowPowerTick w d) s = execLowPowerTick w d s from rfl, execLowPowerTick, State.event_taking _ ht]
  rfl

theorem State.ticked_asleep {s : State} (h : s.sleep.power = .asleep) (w d : Bool) : s.ticked w d = { s with
    clock := ⟨s.clock.packTime + 1000, 1000⟩
    prot := { s.prot with stalenessTimer := s.prot.stalenessTimer.run 1000 }
    inputs := { s.inputs with pins := { s.inputs.pins with wakeIn := w, tamperIn := d } } } := by
  simp only [State.ticked, State.passTick, if_pos h, State.onClock, State.onProt, State.onInputs]

theorem State.ticked_awake {s : State} (h : s.sleep.power ≠ .asleep) (w d : Bool) : s.ticked w d =
    { s.elapse s.clock.tick with
      clock := ⟨s.clock.packTime + BitVec.ofNat 32 s.clock.tick, 1000⟩
      inputs := { s.inputs with pins := { s.inputs.pins with wakeIn := w, tamperIn := d } } } := by
  have hnow : (s.elapse s.clock.tick).clock.packTime = s.clock.packTime + BitVec.ofNat 32 s.clock.tick := by
    rw [State.elapse_awake _ h]
  rw [State.ticked, State.passTick, if_neg h, ← State.elapse_inputs s s.clock.tick, ← hnow]
  rfl

/-- With no latch to take, a tick samples WAKE_IN and counts. -/
theorem State.tickWork_of_noLatch {s : State} (h : ¬ (s.sleep.power = .asleep ∧ s.sleep.tamperLatch.isSome = true)) :
    s.tickWork = s.sampleWakeIn.countMaxSleep.countWake := by
  rw [State.tickWork, if_neg h]

/-- Outside ASLEEP and PATROL the sleep timers do not count. -/
theorem State.counts_idle {s : State} (h : s.sleep.power ≠ .asleep ∧ s.sleep.power ≠ .patrol) :
    s.countMaxSleep.countWake = s := by
  have hrun : s.sleepTimersRun = false := by simp [State.sleepTimersRun, h.1, h.2]
  have hmax : s.countMaxSleep = s := by rw [State.countMaxSleep, hrun]; rfl
  rw [hmax, State.countWake, hrun]
  rfl

section
variable {s : State}

/-- A tick of ASLEEP that finds nothing to do (R151). -/
theorem exec_lowPowerTick_quiet (ht : s.taking) (hw : s.workIdle) (d : Bool) (hp : s.sleep.power = .asleep)
    (hrun : s.sleep.timersRunning = true) (hlatch : s.sleep.tamperLatch = none)
    (hmax : s.sleep.maxCount + 1 < 1000 * s.sleep.settings.maxSleep)
    (hwake : s.sleep.wakeCount + 1 < 1000 * s.sleep.settings.interval) :
    ∃ t, exec (.lowPowerTick false d) s = .next t ∧ t.clock = ⟨s.clock.packTime + 1000, 1000⟩ ∧
      t.sleep = { s.sleep with maxCount := s.sleep.maxCount + 1, wakeCount := s.sleep.wakeCount + 1 } ∧
      t.inputs.pins = { s.inputs.pins with wakeIn := false, tamperIn := d } ∧
      SameExcept [.clock, .inputs, .prot, .sleep] s t := by
  obtain ⟨y, hy⟩ : ∃ y : State, y = { s with
    clock := ⟨s.clock.packTime + 1000, 1000⟩
    prot := { s.prot with stalenessTimer := s.prot.stalenessTimer.run 1000 }
    inputs := { s.inputs with pins := { s.inputs.pins with wakeIn := false, tamperIn := d } }
    sleep := { s.sleep with maxCount := s.sleep.maxCount + 1, wakeCount := s.sleep.wakeCount + 1 } } := ⟨_, rfl⟩
  have hwork : (s.ticked false d).tickWork = y := by
    have hmax : ¬ 1000 * s.sleep.settings.maxSleep ≤ s.sleep.maxCount + 1 := by omega
    have hwake : ¬ 1000 * s.sleep.settings.interval ≤ s.sleep.wakeCount + 1 := by omega
    rw [State.ticked_asleep hp, hy]
    simp [State.tickWork, State.sampleWakeIn, State.countMaxSleep, State.countWake, State.sleepTimersRun, State.onSleep,
      hp, hrun, hlatch, hmax, hwake]
  have hidle : y.settle = y := State.settle_of_workIdle (by rw [hy]; exact hw)
  have hshown : y.publish s = y := by
    refine State.publish_of_sleepShown ?_ ?_ ?_ ?_ <;> rw [hy]
    simp [State.sameShown]
  refine ⟨y, by rw [exec_lowPowerTick ht, hwork, hidle, hshown], ?_, ?_, ?_, ?_⟩ <;> rw [hy]
  simp [sameExcept_iff]

/-- In ACTIVE a tick passes its time alone (R151). -/
theorem exec_lowPowerTick_active (ht : s.taking) (hw : s.workIdle) (w d : Bool) (hp : s.sleep.power = .active) :
    ∃ t, exec (.lowPowerTick w d) s = .next t ∧ t.clock.tick = 1000 ∧
      t.clock.packTime = s.clock.packTime + BitVec.ofNat 32 s.clock.tick ∧
      t.inputs.pins = { s.inputs.pins with wakeIn := w, tamperIn := d } ∧
      SameExcept [.clock, .inputs] (s.elapse s.clock.tick) t := by
  obtain ⟨y, hy⟩ : ∃ y, y = s.ticked w d := ⟨_, rfl⟩
  have hform := hy
  rw [State.ticked_awake (by rw [hp]; exact nofun)] at hform
  have hypower : y.sleep.power = .active := by
    rw [hform]
    simp [hp]
  have hwork : y.tickWork = y := by
    rw [State.tickWork_of_noLatch (by simp [hypower]), State.sampleWakeIn, hypower]
    exact State.counts_idle (by simp [hypower])
  have hidle : y.settle = y := State.settle_of_workIdle (by
    rw [hform]
    exact (State.elapse_workIdle s s.clock.tick).mpr hw)
  have hshown : y.publish s = y := by
    refine State.publish_of_sameShown ?_
    rw [hform]
    simp [State.sameShown]
  refine ⟨y, by rw [exec_lowPowerTick ht, ← hy, hwork, hidle, hshown], ?_, ?_, ?_, ?_⟩ <;> rw [hform]
  simp [sameExcept_iff]

/-! ## Wakes from ASLEEP (R151, R152, R157) -/

theorem State.wakeReason_asleep {v : State} (r : WakeReason) (h : v.sleep.power = .asleep) :
    v.wakeReason r = v.beginWaking r (v.sleep.maxCount / 1000) := by
  have hslept : v.sleptFor = v.sleep.maxCount / 1000 := by
    rw [State.sleptFor, h]
    rfl
  rw [State.wakeReason, h, ← hslept]

theorem State.beginWaking_power {v : State} (r : WakeReason) (duration : Nat) (hn : v.sleep.nodesAsleep = true) :
    (v.beginWaking r duration).sleep.power = .waking := by
  obtain ⟨ahead, hform⟩ := v.wakeStarted_form r duration
  rw [State.beginWaking_eq, hn, if_pos rfl, hform]
  rfl

/-- In WAKING the rest of a tick's work finds nothing to do. -/
theorem State.tickRest_waking {v : State} (h : v.sleep.power = .waking) :
    v.sampleWakeIn.countMaxSleep.countWake = v := by
  rw [State.sampleWakeIn, h]
  exact State.counts_idle (by simp [h])

/-- The event that begins a wake with the nodes asleep shows it begun, and keeps what a wake's beginning does not write. -/
theorem State.wakeBegun_publish {v old : State} (r : WakeReason) (duration : Nat) (hn : v.sleep.nodesAsleep = true)
    (hl : v.listIdle) (ht : v.taking)
    (hw : v.chain.engine.isSome = true ∨ v.chain.location = none ∧ v.chain.seqRequest = none) :
    (let t := (v.beginWaking r duration).settle.publish old
     t.wakeBegun r duration ∧ t.clock = v.clock ∧ t.sleep.tamperLatch = v.sleep.tamperLatch ∧
     t.sleep.tamperEdges = v.sleep.tamperEdges ∧ t.prot = v.prot ∧ t.store = v.store ∧
     t.transit.alerts = v.transit.alerts ∧ t.seq = v.seq ∧
     t.transit.burst = if v.sleep.power = .patrol then false else v.transit.burst) := by
  obtain ⟨ahead, chain, hform⟩ := State.settle_beginWaking_asleep r duration hn hl ht hw
  rw [hform]
  simp only [State.publish_sleep, State.publish_clock, State.publish_link, State.publish_prot, State.publish_store,
    State.publish_transitAlerts, State.publish_seq, State.wakeBegun, true_and]
  refine ⟨⟨rfl, rfl, rfl, rfl⟩, ?_⟩
  rw [State.publish_eq]
  rfl

/-- WAKE_IN wakes a part that sleeps. -/
theorem exec_lowPowerTick_wakeIn (ht : s.taking) (hw : s.workIdle) (d : Bool) (hp : s.sleep.power = .asleep)
    (hn : s.sleep.nodesAsleep = true) (hlatch : s.sleep.tamperLatch = none) :
    ∃ t, exec (.lowPowerTick true d) s = .next t ∧ t.wakeBegun .wakeLine (s.sleep.maxCount / 1000) ∧
      t.clock.packTime = s.clock.packTime + 1000 := by
  obtain ⟨y, hy⟩ : ∃ y, y = s.ticked true d := ⟨_, rfl⟩
  have hform := hy
  rw [State.ticked_asleep hp] at hform
  have hypower : y.sleep.power = .asleep := by rw [hform]; exact hp
  have hynodes : y.sleep.nodesAsleep = true := by rw [hform]; exact hn
  have hwork : y.tickWork = y.beginWaking .wakeLine (s.sleep.maxCount / 1000) := by
    have hsample : y.sampleWakeIn = y.beginWaking .wakeLine (s.sleep.maxCount / 1000) := by
      rw [State.sampleWakeIn, hypower]
      refine (if_pos (by rw [hform])).trans ?_
      rw [State.wakeReason_asleep _ hypower, hform]
    rw [State.tickWork_of_noLatch (by rw [hform]; simp [hlatch]), hsample]
    exact State.counts_idle (by simp [State.beginWaking_power _ _ hynodes])
  obtain ⟨hlist, hengine⟩ := hw
  obtain ⟨hbegun, hclock, -⟩ := State.wakeBegun_publish (v := y) (old := s) .wakeLine (s.sleep.maxCount / 1000) hynodes
    (by rw [hform]; exact hlist) (by rw [hform]; exact ht)
    (by rw [hform]; exact hengine.imp_right fun ⟨hlocation, hseq, _⟩ => ⟨hlocation, hseq⟩)
  exact ⟨_, by rw [exec_lowPowerTick ht, ← hy, hwork], hbegun, by rw [hclock, hform]⟩

/-! ## The sleep timers (R151) -/

/-- A tick that changes the power state is the last. -/
theorem State.runTicks_last {v : State} (k : Nat) (h : v.passTick.tickWork.sleep.power ≠ v.sleep.power) :
    v.runTicks (k + 1) = v.passTick.tickWork := by
  rw [State.runTicks]
  exact if_neg h

/-- Either expiry lets ticks pass up to one of the two compare values. -/
theorem exec_sleepTimer {c : Instr} (hc : c = .maxSleepExpiry ∨ c = .wakeTimerExpiry) (ht : s.taking)
    (hp : s.sleep.power = .asleep) (hrun : s.sleep.timersRunning = true) :
    ∃ n, (n = 1000 * s.sleep.settings.maxSleep - s.sleep.maxCount ∨
        n = 1000 * s.sleep.settings.interval - s.sleep.wakeCount) ∧
      exec c s = .next (((s.runTicks (max 1 n)).settle).publish s) := by
  have hruns : s.sleepTimersRun = true := by simp [State.sleepTimersRun, hp, hrun]
  rcases hc with rfl | rfl
  · refine ⟨_, .inl rfl, ?_⟩
    rw [show exec .maxSleepExpiry s = execMaxSleepExpiry s from rfl, execMaxSleepExpiry, State.event_taking _ ht,
      if_pos hruns, State.passTicks]
  · refine ⟨_, .inr rfl, ?_⟩
    rw [show exec .wakeTimerExpiry s = execWakeTimerExpiry s from rfl, execWakeTimerExpiry, State.event_taking _ ht,
      if_pos hruns, State.passTicks]

theorem State.quietTicks_packTime (v : State) (k : Nat) :
    (v.quietTicks k).clock.packTime = v.clock.packTime + BitVec.ofNat 32 (1000 * k) := by
  rw [State.quietTicks]
  by_cases hk : k = 0
  · simp [hk]
  · simp [hk]

/-- The pack time at the tick after `k` quiet ones. -/
theorem State.quietTicks_nextTick (v : State) (k : Nat) :
    (v.quietTicks k).clock.packTime + 1000 = v.clock.packTime + BitVec.ofNat 32 (1000 * (k + 1)) := by
  rw [State.quietTicks_packTime, Nat.mul_add, BitVec.ofNat_add, BitVec.add_assoc]
  rfl

/-- The tick at which the max-sleep timer reaches its compare value wakes the part. -/
theorem State.tickWork_maxSleep {v : State} (hp : v.sleep.power = .asleep) (hrun : v.sleep.timersRunning = true)
    (hlatch : v.sleep.tamperLatch = none) (hin : v.inputs.pins.wakeIn = false) (hn : v.sleep.nodesAsleep = true)
    (hmax : v.sleep.maxCount + 1 = 1000 * v.sleep.settings.maxSleep) : ∃ y, v.passTick.tickWork =
      y.beginWaking .maxSleep v.sleep.settings.maxSleep ∧ y = { v with
        clock := ⟨v.clock.packTime + 1000, 1000⟩
        prot := { v.prot with stalenessTimer := v.prot.stalenessTimer.run 1000 }
        sleep := { v.sleep with maxCount := v.sleep.maxCount + 1 } } := by
  obtain ⟨y, hy⟩ : ∃ y : State, y = { v with
    clock := ⟨v.clock.packTime + 1000, 1000⟩
    prot := { v.prot with stalenessTimer := v.prot.stalenessTimer.run 1000 }
    sleep := { v.sleep with maxCount := v.sleep.maxCount + 1 } } := ⟨_, rfl⟩
  refine ⟨y, ?_, hy⟩
  have hypower : y.sleep.power = .asleep := by rw [hy]; exact hp
  have hwakes : y.wakeReason .maxSleep = y.beginWaking .maxSleep v.sleep.settings.maxSleep := by
    have hcount : y.sleep.maxCount / 1000 = v.sleep.settings.maxSleep := by
      rw [hy]
      exact (congrArg (· / 1000) hmax).trans (Nat.mul_div_cancel_left _ (by decide))
    rw [State.wakeReason_asleep _ hypower, hcount]
  obtain ⟨x, hx⟩ : ∃ x, x = v.passTick := ⟨_, rfl⟩
  have hxform : x = { v with
      clock := ⟨v.clock.packTime + 1000, 1000⟩
      prot := { v.prot with stalenessTimer := v.prot.stalenessTimer.run 1000 } } := by
    rw [hx]
    simp only [State.passTick, if_pos hp, State.onClock, State.onProt]
  have hsample : x.sampleWakeIn = x := by
    rw [hxform, State.sampleWakeIn]
    simp [hp, hin]
  have hcounts : x.countMaxSleep = y.wakeReason .maxSleep := by
    have hruns : x.sleepTimersRun = true := by
      rw [hxform]
      simp [State.sleepTimersRun, hp, hrun]
    have hnext : (x.onSleep fun z => { z with maxCount := z.maxCount + 1 }) = y := by
      rw [hxform, hy]
      rfl
    rw [State.countMaxSleep, if_pos hruns, hnext]
    refine if_pos ?_
    rw [hy]
    exact hmax.ge
  rw [← hx, State.tickWork_of_noLatch (by rw [hxform]; simp [hlatch]), hsample, hcounts, hwakes, State.countWake]
  exact if_neg (by
    simp [State.sleepTimersRun, State.beginWaking_power .maxSleep v.sleep.settings.maxSleep (v := y) (by rw [hy]; exact hn)])

/-- The tick at which the wake timer alone reaches its compare value begins a patrol. -/
theorem State.tickWork_patrol {v : State} (hp : v.sleep.power = .asleep) (hrun : v.sleep.timersRunning = true)
    (hlatch : v.sleep.tamperLatch = none) (hin : v.inputs.pins.wakeIn = false)
    (hmax : v.sleep.maxCount + 1 < 1000 * v.sleep.settings.maxSleep)
    (hwake : v.sleep.wakeCount + 1 = 1000 * v.sleep.settings.interval) : v.passTick.tickWork = { v with
      clock := ⟨v.clock.packTime + 1000, 1000⟩
      prot := { v.prot with stalenessTimer := v.prot.stalenessTimer.run 1000 }
      sleep := { v.sleep with
        maxCount := v.sleep.maxCount + 1, wakeCount := 0, power := .patrol, phase := .patrolTone, patrolDue := false
        patrol := some ⟨v.clock.packTime + 1000, false, 0, false, 0, 0, none, .clear, none⟩ }
      chain := { v.chain with sleepRequest := some .wakeTone } } := by
  have hmax : ¬ 1000 * v.sleep.settings.maxSleep ≤ v.sleep.maxCount + 1 := by omega
  have hwake : 1000 * v.sleep.settings.interval ≤ v.sleep.wakeCount + 1 := by omega
  simp [State.passTick, State.tickWork, State.sampleWakeIn, State.countMaxSleep, State.countWake, State.sleepTimersRun,
    State.patrolFallsDue, State.beginPatrol, State.onClock, State.onProt, State.onSleep, State.onChain, hp, hrun, hlatch,
    hin, hmax, hwake, State.now]

/-- Either expiry brings the max-sleep timer's reason where that timer is not behind the other. -/
theorem exec_sleepTimer_maxSleep {c : Instr} (hc : c = .maxSleepExpiry ∨ c = .wakeTimerExpiry) (ht : s.taking)
    (hw : s.workIdle) (hp : s.sleep.power = .asleep) (hrun : s.sleep.timersRunning = true)
    (hmax : s.sleep.maxCount < 1000 * s.sleep.settings.maxSleep)
    (hwake : s.sleep.wakeCount < 1000 * s.sleep.settings.interval) (hlatch : s.sleep.tamperLatch = none)
    (hin : s.inputs.pins.wakeIn = false) (hn : s.sleep.nodesAsleep = true)
    (hle : 1000 * s.sleep.settings.maxSleep - s.sleep.maxCount ≤
      1000 * s.sleep.settings.interval - s.sleep.wakeCount) :
    ∃ t, exec c s = .next t ∧ t.wakeBegun .maxSleep s.sleep.settings.maxSleep ∧ t.clock.packTime =
      s.clock.packTime + BitVec.ofNat 32 (1000 * (1000 * s.sleep.settings.maxSleep - s.sleep.maxCount)) := by
  obtain ⟨n, hticks, hexec⟩ := exec_sleepTimer hc ht hp hrun
  obtain ⟨k, hk⟩ : ∃ k, 1000 * s.sleep.settings.maxSleep - s.sleep.maxCount = k + 1 :=
    Nat.exists_eq_add_one_of_ne_zero (by omega)
  obtain ⟨j, hj⟩ : ∃ j, max 1 n = k + (j + 1) := ⟨max 1 n - k - 1, by omega⟩
  obtain ⟨v, hv⟩ : ∃ v, v = s.quietTicks k := ⟨_, rfl⟩
  obtain ⟨y, hlast, hy⟩ := State.tickWork_maxSleep (v := v) (by rw [hv]; exact hp) (by rw [hv]; exact hrun)
    (by rw [hv]; exact hlatch) (by rw [hv]; exact hin) (by rw [hv]; exact hn)
    (by rw [hv]; simp only [State.quietTicks]; omega)
  have hynodes : y.sleep.nodesAsleep = true := by
    rw [hy, hv]
    exact hn
  have hruns : s.runTicks (max 1 n) = y.beginWaking .maxSleep s.sleep.settings.maxSleep := by
    have hsettings : v.sleep.settings = s.sleep.settings := by rw [hv]; rfl
    rw [hj, State.runTicks_quiet k (j + 1) ⟨hp, hrun, hlatch, hin, by omega, by omega⟩, ← hv, ← hsettings, ← hlast]
    refine State.runTicks_last j ?_
    rw [hlast, State.beginWaking_power _ _ hynodes, hv]
    simp [State.quietTicks, hp]
  obtain ⟨hlist, hengine⟩ := hw
  obtain ⟨hbegun, hclock, -⟩ := State.wakeBegun_publish (v := y) (old := s) .maxSleep s.sleep.settings.maxSleep hynodes
    (by rw [hy, hv]; exact hlist) (by rw [hy, hv]; exact ht)
    (by rw [hy, hv]; exact hengine.imp_right fun ⟨hlocation, hseq, _⟩ => ⟨hlocation, hseq⟩)
  refine ⟨_, by rw [hexec, hruns], hbegun, ?_⟩
  rw [hclock, hy, hv, hk]
  exact State.quietTicks_nextTick s k

/-- Either expiry begins a patrol where the wake timer is first. -/
theorem exec_sleepTimer_patrol {c : Instr} (hc : c = .maxSleepExpiry ∨ c = .wakeTimerExpiry) (ht : s.taking)
    (hw : s.workIdle) (hp : s.sleep.power = .asleep) (hrun : s.sleep.timersRunning = true)
    (hmax : s.sleep.maxCount < 1000 * s.sleep.settings.maxSleep)
    (hwake : s.sleep.wakeCount < 1000 * s.sleep.settings.interval) (hlatch : s.sleep.tamperLatch = none)
    (hin : s.inputs.pins.wakeIn = false)
    (hlt : 1000 * s.sleep.settings.interval - s.sleep.wakeCount <
      1000 * s.sleep.settings.maxSleep - s.sleep.maxCount) :
    ∃ t, exec c s = .next t ∧ t.sleep.power = .patrol ∧ t.sleep.phase = .patrolTone ∧
      t.sleep.wakeCount = 0 ∧ t.sleep.patrolDue = false ∧ t.sleep.page = s.sleep.page ∧
      t.sleep.maxCount = s.sleep.maxCount + (1000 * s.sleep.settings.interval - s.sleep.wakeCount) ∧
      t.clock.packTime =
        s.clock.packTime + BitVec.ofNat 32 (1000 * (1000 * s.sleep.settings.interval - s.sleep.wakeCount)) := by
  obtain ⟨n, hticks, hexec⟩ := exec_sleepTimer hc ht hp hrun
  obtain ⟨k, hk⟩ : ∃ k, 1000 * s.sleep.settings.interval - s.sleep.wakeCount = k + 1 :=
    Nat.exists_eq_add_one_of_ne_zero (by omega)
  obtain ⟨j, hj⟩ : ∃ j, max 1 n = k + (j + 1) := ⟨max 1 n - k - 1, by omega⟩
  obtain ⟨v, hv⟩ : ∃ v, v = s.quietTicks k := ⟨_, rfl⟩
  have hlast := State.tickWork_patrol (v := v) (by rw [hv]; exact hp) (by rw [hv]; exact hrun)
    (by rw [hv]; exact hlatch) (by rw [hv]; exact hin) (by rw [hv]; simp only [State.quietTicks]; omega)
    (by rw [hv]; simp only [State.quietTicks]; omega)
  obtain ⟨y, hy⟩ : ∃ y, y = v.passTick.tickWork := ⟨_, rfl⟩
  rw [← hy] at hlast
  have hruns : s.runTicks (max 1 n) = y := by
    rw [hj, State.runTicks_quiet k (j + 1) ⟨hp, hrun, hlatch, hin, by omega, by omega⟩, ← hv, hy]
    refine State.runTicks_last j ?_
    rw [← hy, hlast, hv]
    simp [State.quietTicks, hp]
  obtain ⟨hlist, hengine⟩ := hw
  obtain ⟨chain, hsettle, -⟩ := State.settleN_asks (s := y) (f := .wakeTone) (by rw [hlast, hv]; exact hlist)
    (by rw [hlast, hv]; exact ht) (by rw [hlast]; exact nofun) (by rw [hlast])
    (by rw [hlast, hv]; exact hengine.imp_right fun ⟨hlocation, hseq, _⟩ => ⟨hlocation, hseq⟩) 4095
  refine ⟨_, by rw [hexec, hruns, State.settle, hsettle], ?_⟩
  simp only [State.publish_sleep, State.publish_clock]
  rw [hlast, hv, hk]
  exact ⟨rfl, rfl, rfl, rfl, rfl, rfl, State.quietTicks_nextTick s k⟩

/-! ## The tamper edge (R153, R172) -/

/-- In ASLEEP an edge is latched and waits for the tick. -/
theorem exec_tamperInEdge_asleep (ht : s.taking) (hw : s.workIdle) (hp : s.sleep.power = .asleep) :
    ∃ t, exec .tamperInEdge s = .next t ∧ t.inputs.pins = { s.inputs.pins with tamperIn := true } ∧
      t.sleep = { s.sleep with
        tamperLatch := some (s.sleep.tamperLatch.getD s.clock.packTime), tamperEdges := min 255 (s.sleep.tamperEdges + 1) } ∧
      SameExcept [.inputs, .sleep] s t := by
  obtain ⟨y, hy⟩ : ∃ y : State, y = { s with
    inputs := { s.inputs with pins := { s.inputs.pins with tamperIn := true } }
    sleep := { s.sleep with
      tamperLatch := some (s.sleep.tamperLatch.getD s.clock.packTime)
      tamperEdges := min 255 (s.sleep.tamperEdges + 1) } } := ⟨_, rfl⟩
  have hedge : (s.onInputs fun i => { i with pins := { i.pins with tamperIn := true } }).tamperEdge = y := by
    rw [State.tamperEdge, hy]
    exact if_pos hp
  have hidle : y.settle = y := State.settle_of_workIdle (by rw [hy]; exact hw)
  have hshown : y.publish s = y := by
    refine State.publish_of_sleepShown ?_ ?_ ?_ ?_ <;> rw [hy]
    simp [State.sameShown]
  refine ⟨y, ?_, ?_, ?_, ?_⟩
  · rw [show exec .tamperInEdge s = execTamperInEdge s from rfl, execTamperInEdge, State.event_taking _ ht, hedge, hidle,
      hshown]
  all_goals rw [hy]
  simp [sameExcept_iff]

/-- The alerts of a taken latch are read of the session, the power state and, in ACTIVE, the trip. -/
theorem State.tamperAlerts_congr {z v : State} (hstore : z.store = v.store) (hpower : z.sleep.power = v.sleep.power)
    (hprot : z.prot.latches = v.prot.latches) (time : Word) (edges : Nat) (level : Bool) :
    z.tamperAlerts time edges level = v.tamperAlerts time edges level := by
  have htrip : z.tamperTrip = v.tamperTrip := by
    have hlatch : z.prot.latch .tamper = v.prot.latch .tamper := by simp only [Protection.latch, hprot]
    rw [State.tamperTrip, State.tamperTrip, hlatch, State.profile, State.profile, hstore]
  rw [State.tamperAlerts, State.tamperAlerts, hstore, hpower, htrip]

/-- At a tick of ASLEEP the set latch is taken, and wakes the part. -/
theorem State.tickWork_tamper {z : State} {v : Word} (hp : z.sleep.power = .asleep) (hlatch : z.sleep.tamperLatch = some v)
    (hn : z.sleep.nodesAsleep = true) : ∃ pool store y, z.tickWork =
      y.beginWaking .tamper (z.sleep.maxCount / 1000) ∧ y = { z with
        pool := pool, store := store, prot := { z.prot with tamperHeld := true }
        sleep := { z.sleep with tamperLatch := none, tamperEdges := 0 }
        transit := { z.transit with
          alerts := z.transit.alerts ++ z.tamperAlerts v z.sleep.tamperEdges z.inputs.pins.tamperIn } } ∧
      store.session = .locked := by
  obtain ⟨pool, store, y, htake, hy, hlocked, -⟩ := State.takeTamper_form hlatch (by rw [hp]; exact nofun)
  refine ⟨pool, store, y, ?_, hy, hlocked⟩
  have hwakes : y.wakeReason .tamper = y.beginWaking .tamper (z.sleep.maxCount / 1000) := by
    have hypower : y.sleep.power = .asleep := by rw [hy]; exact hp
    rw [State.wakeReason_asleep _ hypower, hy]
  have hpower : (y.beginWaking .tamper (z.sleep.maxCount / 1000)).sleep.power = .waking :=
    State.beginWaking_power _ _ (by rw [hy]; exact hn)
  rw [State.tickWork, if_pos ⟨hp, by rw [hlatch]; rfl⟩, htake, hwakes]
  exact State.tickRest_waking hpower

/-- The next tick takes the latch, whichever row brings it. -/
theorem exec_tick_tamper {c : Instr} {v : Word} {level : Bool} (ht : s.taking) (hw : s.workIdle)
    (hp : s.sleep.power = .asleep) (hrun : s.sleep.timersRunning = true) (hlatch : s.sleep.tamperLatch = some v)
    (hn : s.sleep.nodesAsleep = true)
    (hc : (c = .maxSleepExpiry ∨ c = .wakeTimerExpiry) ∧ level = s.inputs.pins.tamperIn ∨ ∃ w, c = .lowPowerTick w level) :
    ∃ t, exec c s = .next t ∧ t.wakeBegun .tamper (s.sleep.maxCount / 1000) ∧ t.sleep.tamperLatch = none ∧
      t.sleep.tamperEdges = 0 ∧ t.prot.tamperHeld = true ∧ t.store.session = .locked ∧
      t.transit.alerts = s.transit.alerts ++ s.tamperAlerts v s.sleep.tamperEdges level ∧
      t.clock.packTime = s.clock.packTime + 1000 := by
  obtain ⟨z, pins, hz, hlevel, hexec⟩ : ∃ (z : State) (pins : PinLevels), z = { s with
      clock := ⟨s.clock.packTime + 1000, 1000⟩
      prot := { s.prot with stalenessTimer := s.prot.stalenessTimer.run 1000 }
      inputs := { s.inputs with pins := pins } } ∧ pins.tamperIn = level ∧
      (z.tickWork.sleep.power = .waking → exec c s = .next ((z.tickWork.settle).publish s)) := by
    rcases hc with ⟨hc, rfl⟩ | ⟨w, rfl⟩
    · refine ⟨s.passTick, s.inputs.pins, ?_, rfl, fun hpower => ?_⟩
      · simp only [State.passTick, if_pos hp, State.onClock, State.onProt]
      · obtain ⟨n, -, hexec⟩ := exec_sleepTimer hc ht hp hrun
        obtain ⟨j, hj⟩ : ∃ j, max 1 n = j + 1 := ⟨max 1 n - 1, by omega⟩
        rw [hexec, hj, State.runTicks_last j (by rw [hpower, hp]; exact nofun)]
    · exact ⟨s.ticked w level, _, State.ticked_asleep hp w level, rfl, fun _ => exec_lowPowerTick ht w level⟩
  obtain ⟨pool, store, y, hwork, hy, hlocked⟩ := State.tickWork_tamper (z := z) (v := v) (by rw [hz]; exact hp)
    (by rw [hz]; exact hlatch) (by rw [hz]; exact hn)
  have hcount : z.sleep.maxCount = s.sleep.maxCount := by rw [hz]
  have hynodes : y.sleep.nodesAsleep = true := by
    rw [hy, hz]
    exact hn
  rw [hcount] at hwork
  obtain ⟨hlist, hengine⟩ := hw
  obtain ⟨hbegun, hclock, hnolatch, hedges, hprot, hstore, halerts, -⟩ := State.wakeBegun_publish (v := y) (old := s) .tamper
    (s.sleep.maxCount / 1000) hynodes (by rw [hy, hz]; exact hlist) (by rw [hy, hz]; exact ht)
    (by rw [hy, hz]; exact hengine.imp_right fun ⟨hlocation, hseq, _⟩ => ⟨hlocation, hseq⟩)
  refine ⟨_, by rw [hexec (by rw [hwork]; exact State.beginWaking_power _ _ hynodes), hwork], hbegun, ?_, ?_, ?_, ?_, ?_, ?_⟩
  · rw [hnolatch, hy]
  · rw [hedges, hy]
  · rw [hprot, hy]
  · rw [hstore, hy]
    exact hlocked
  · have hsame := State.tamperAlerts_congr (z := z) (v := s) (by rw [hz]) (by rw [hz]) (by rw [hz]) v s.sleep.tamperEdges level
    rw [halerts, hy, ← hsame, hz, ← hlevel]
  · rw [hclock, hy, hz]

/-! ## A patrol abandoned (R55, R157) -/

/-- The chain behind a dropped patrol frame. -/
def Chain.patrolDropped (c : Chain) : Chain :=
  let d := { c with sleepRequest := none, seqRequest := none, engine := c.engine.map (Engine.discardFor .sequencer) }
  if d.breakDue then d.beginLocation else d

/-- The state in which a patrol has been abandoned, before WAKING begins. -/
def State.patrolDropped (v : State) : State := { v with
  seq := { v.seq with frame := none, elementTimer := none, repollTimer := none }
  table := { v.table with align := .idle }
  chain := v.chain.patrolDropped }

theorem State.wakeReason_patrol {v : State} (r : WakeReason) (hp : v.sleep.power = .patrol)
    (h : ¬ (v.sleep.phase = .patrolSleep ∧ v.chain.sleepRequest.isNone = true)) :
    v.wakeReason r = v.patrolDropped.beginWaking r (v.sleep.maxCount / 1000) := by
  have hslept : (v.onChain fun c => { c with sleepRequest := none }).dropPatrolFrame = v.patrolDropped := rfl
  have hcount : v.sleptFor = v.sleep.maxCount / 1000 := by
    rw [State.sleptFor, hp]
    rfl
  rw [State.wakeReason, hp]
  refine (if_neg h).trans ?_
  rw [State.abandonPatrol, hslept, hcount]

theorem Chain.patrolDropped_keeps (c : Chain) : c.patrolDropped.sleepRequest = none ∧ c.patrolDropped.seqRequest = none ∧
    c.patrolDropped.slot = c.slot ∧ c.patrolDropped.engine.isSome = c.engine.isSome := by
  unfold Chain.patrolDropped
  dsimp only
  split <;> exact ⟨rfl, rfl, rfl, Option.isSome_map⟩

theorem Chain.patrolDropped_of_noBreak {c : Chain} (h : c.breakDue = false) :
    c.patrolDropped.location = c.location := by
  unfold Chain.patrolDropped
  dsimp only
  rw [if_neg (by simp [h])]

/-! ## The arbiter with break location alone (R8, R12) -/

/-- No list runs and, besides break location, no request waits that the engine could serve. -/
def State.onlyLocates (v : State) : Prop :=
  v.seq.frame = none ∧ v.chain.seqRequest = none ∧ v.chain.sleepRequest = none ∧
  (v.chain.engine.isSome = true ∨ v.chain.slot = none)

/-- A step of break location changes the chain, and may raise an alert. -/
theorem State.locationStep_form (v : State) (l : Location) : ∃ (c : Chain) (alerts : List (AlertKind × List Byte)),
    v.locationStep l = { v with chain := c, transit := { v.transit with alerts := alerts } } ∧
    c.seqRequest = v.chain.seqRequest ∧ c.sleepRequest = v.chain.sleepRequest ∧ c.slot = v.chain.slot := by
  unfold State.locationStep
  dsimp only
  cases l.onB with
  | true =>
    rw [if_pos rfl]
    cases v.chain.probeDown l.addr l.k with
    | none => exact ⟨_, _, rfl, rfl, rfl, rfl⟩
    | some n => exact ⟨_, v.transit.alerts, rfl, rfl, rfl, rfl⟩
  | false =>
    rw [if_neg (by decide)]
    cases v.chain.probeUp l.addr with
    | some n => exact ⟨_, v.transit.alerts, rfl, rfl, rfl, rfl⟩
    | none =>
      dsimp only
      split
      · exact ⟨_, v.transit.alerts, rfl, rfl, rfl, rfl⟩
      · exact ⟨_, v.transit.alerts, rfl, rfl, rfl, rfl⟩

theorem State.settleStep_onlyLocates {v v' : State} (h : v.onlyLocates) (hs : v.settleStep = some v') :
    ∃ (c : Chain) (alerts : List (AlertKind × List Byte)),
      v' = { v with chain := c, transit := { v.transit with alerts := alerts } } ∧ v'.onlyLocates := by
  obtain ⟨hf, hseq, hsleep, hslot⟩ := h
  rw [State.settleStep_of_listIdle (by simp [State.listIdle, hf]), State.grantChain] at hs
  cases he : v.chain.engine with
  | some e => simp [he] at hs
  | none =>
    have hnoslot : v.chain.slot = none := hslot.resolve_left (by simp [he])
    cases hl : v.chain.location with
    | none => simp [State.candidate, hl, hseq, hsleep, hnoslot] at hs
    | some l =>
      obtain ⟨c, alerts, hform, hcseq, hcsleep, hcslot⟩ := v.locationStep_form l
      rw [State.candidate, hl] at hs
      have hgranted : v' = v.locationStep l := by
        split at hs
        · cases hs
        · dsimp only at hs
          split at hs
          · cases hs
          · exact (Option.some.inj hs).symm
      rw [hform] at hgranted
      refine ⟨c, alerts, hgranted, ?_⟩
      rw [hgranted]
      exact ⟨hf, hcseq.trans hseq, hcsleep.trans hsleep, .inr (hcslot.trans hnoslot)⟩

theorem State.settleN_onlyLocates {v : State} (h : v.onlyLocates) (k : Nat) :
    ∃ (c : Chain) (alerts : List (AlertKind × List Byte)),
      v.settleN k = { v with chain := c, transit := { v.transit with alerts := alerts } } ∧ c.sleepRequest = none := by
  induction k generalizing v with
  | zero =>
    obtain ⟨-, -, hsleep, -⟩ := h
    exact ⟨v.chain, v.transit.alerts, rfl, hsleep⟩
  | succ k ih =>
    cases hs : v.settleStep with
    | none =>
      obtain ⟨-, -, hsleep, -⟩ := h
      exact ⟨v.chain, v.transit.alerts, by rw [State.settleN_of_none _ hs], hsleep⟩
    | some v' =>
      obtain ⟨c, alerts, hform, hnext⟩ := State.settleStep_onlyLocates h hs
      obtain ⟨c', alerts', hrest, hsleep⟩ := ih hnext
      refine ⟨c', alerts', ?_, hsleep⟩
      rw [State.settleN_of_some k hs, hrest, hform]

/-! ## WAKE_IN in a patrol, and a patrol that falls due (R55, R151) -/

theorem State.beginWaking_burst (v : State) (r : WakeReason) (duration : Nat) : (v.beginWaking r duration).transit.burst =
    if v.sleep.power = .patrol then false else v.transit.burst := by
  obtain ⟨ahead, hform⟩ := v.wakeStarted_form r duration
  obtain ⟨logs, watches, latches, demands, hwoken, -⟩ := (v.wakeStarted r duration).completeWake_form
  rw [State.beginWaking_eq]
  cases v.sleep.nodesAsleep with
  | false =>
    rw [if_neg (by decide), hwoken]
    dsimp only
    rw [hform]
  | true =>
    rw [if_pos rfl, hform]
    rfl

end

end Sys2Proof.Machine

namespace Sys2Proof.Machine

open Sys2Proof

section
variable {s : State}

/-- WAKE_IN ends a burst without a report, and wakes the part. -/
theorem exec_lowPowerTick_burst (ht : s.taking) (hw : s.workIdle) (d : Bool) (hp : s.sleep.power = .patrol)
    (hphase : s.sleep.phase = .patrolBurst) (hn : s.sleep.nodesAsleep = false) :
    ∃ t, exec (.lowPowerTick true d) s = .next t ∧ (s.elapse s.clock.tick).awake t ∧ t.sleep.wakeOut = true ∧
      t.sleep.lastReason = .wakeLine ∧ t.sleep.duration = s.sleep.maxCount / 1000 ∧ t.transit.burst = false ∧
      t.seq.frame = none ∧ t.chain.sleepRequest = none := by
  obtain ⟨u, hu⟩ : ∃ u, u = s.elapse s.clock.tick := ⟨_, rfl⟩
  have husleep : u.sleep = s.sleep := by rw [hu, State.elapse_sleep]
  have huinputs : u.inputs = s.inputs := by rw [hu, State.elapse_inputs]
  obtain ⟨z, hz⟩ : ∃ z, z = s.ticked true d := ⟨_, rfl⟩
  have hform := hz
  rw [State.ticked_awake (by rw [hp]; exact nofun), ← hu] at hform
  have hzsleep : z.sleep = s.sleep := by
    rw [hform]
    exact husleep
  have hzchain : z.chain = u.chain := by rw [hform]
  obtain ⟨y, hy⟩ : ∃ y, y = z.patrolDropped.beginWaking .wakeLine (s.sleep.maxCount / 1000) := ⟨_, rfl⟩
  obtain ⟨hout, hreason, hduration, -, -, -, hframe, -, -, -, hchain⟩ :=
    z.patrolDropped.beginWaking_shows .wakeLine (s.sleep.maxCount / 1000)
  have hznodes : z.patrolDropped.sleep.nodesAsleep = false := (congrArg Sleep.nodesAsleep hzsleep).trans hn
  rw [hznodes, ← hy] at hchain
  rw [← hy] at hout hreason hduration hframe
  have hawake : u.awake y := by
    rw [hy, State.beginWaking_eq, hznodes, if_neg (by decide)]
    refine State.awake_completeWake (State.wakesAs_wakeStarted _ _ ?_ ?_ hznodes ?_ ?_ ?_ ?_ ?_) <;> rw [hform]
    · rw [huinputs]
      exact ⟨rfl, rfl⟩
    · rfl
    · rfl
    · exact ⟨rfl, rfl, rfl⟩
    · exact ⟨rfl, rfl⟩
    · exact ⟨rfl, rfl⟩
    · exact ⟨rfl, rfl, rfl⟩
  have hwork : z.tickWork = y := by
    have hzpower : z.sleep.power = .patrol := by rw [hzsleep, hp]
    have hsample : z.sampleWakeIn = y := by
      rw [State.sampleWakeIn, hzpower]
      refine (if_pos (by rw [hform])).trans ?_
      rw [State.wakeReason_patrol _ hzpower (by simp [hzsleep, hphase]), hzsleep, hy]
    obtain ⟨hypower, -⟩ := hawake
    rw [State.tickWork_of_noLatch (by simp [hzpower]), hsample]
    exact State.counts_idle (by simp [hypower])
  have hlocates : y.onlyLocates := by
    obtain ⟨hsleep, hseq, hslot, hengine⟩ := z.chain.patrolDropped_keeps
    obtain ⟨-, hidle⟩ := (State.elapse_workIdle s s.clock.tick).mpr hw
    rw [← hu, ← hzchain] at hidle
    refine ⟨hframe, ?_, ?_, ?_⟩ <;> rw [hchain]
    · exact hseq
    · exact hsleep
    · refine hidle.imp (fun he => hengine.trans he) fun hnone => ?_
      obtain ⟨-, -, -, hnoslot⟩ := hnone
      exact hslot.trans hnoslot
  obtain ⟨c, alerts, hsettle, hsleepRequest⟩ := State.settleN_onlyLocates hlocates 4096
  refine ⟨_, by rw [exec_lowPowerTick ht, ← hz, hwork, State.settle, hsettle], ?_, ?_⟩
  · rw [← hu]
    have hsettled : u.awake { y with chain := c, transit := { y.transit with alerts := alerts } } :=
      State.awake_congr hawake rfl rfl rfl rfl rfl rfl rfl rfl ⟨rfl, rfl, rfl, rfl⟩
    exact State.awake_publish hsettled s
  · simp only [State.publish_sleep, State.publish_seq, State.publish_chain]
    refine ⟨hout, hreason, hduration, ?_, hframe, hsleepRequest⟩
    have hburst := z.patrolDropped.beginWaking_burst .wakeLine (s.sleep.maxCount / 1000)
    rw [show z.patrolDropped.sleep.power = .patrol from (congrArg Sleep.power hzsleep).trans hp, if_pos rfl, ← hy] at hburst
    rw [State.publish_eq]
    exact hburst

/-- In a patrol the wake timer's compare value makes the next one due. -/
theorem exec_lowPowerTick_patrolDue (ht : s.taking) (hw : s.workIdle) (d : Bool) (hp : s.sleep.power = .patrol)
    (hrun : s.sleep.timersRunning = true) (hmax : s.sleep.maxCount + 1 < 1000 * s.sleep.settings.maxSleep)
    (hwake : 1000 * s.sleep.settings.interval ≤ s.sleep.wakeCount + 1) :
    ∃ t, exec (.lowPowerTick false d) s = .next t ∧ t.sleep =
      { s.sleep with maxCount := s.sleep.maxCount + 1, wakeCount := 0, patrolDue := true } := by
  obtain ⟨u, hu⟩ : ∃ u, u = s.elapse s.clock.tick := ⟨_, rfl⟩
  have husleep : u.sleep = s.sleep := by rw [hu, State.elapse_sleep]
  obtain ⟨y, hy⟩ : ∃ y : State, y = { s.ticked false d with
    sleep := { s.sleep with maxCount := s.sleep.maxCount + 1, wakeCount := 0, patrolDue := true } } := ⟨_, rfl⟩
  have hform := State.ticked_awake (s := s) (by rw [hp]; exact nofun) false d
  have hwork : (s.ticked false d).tickWork = y := by
    have hmax : ¬ 1000 * s.sleep.settings.maxSleep ≤ s.sleep.maxCount + 1 := by omega
    rw [hy, hform, ← hu]
    simp [State.tickWork, State.sampleWakeIn, State.countMaxSleep, State.countWake, State.sleepTimersRun,
      State.patrolFallsDue, State.onSleep, husleep, hp, hrun, hmax, hwake]
  have hidle : y.settle = y := State.settle_of_workIdle (by
    rw [hy, hform]
    exact (State.elapse_workIdle s s.clock.tick).mpr hw)
  exact ⟨_, by rw [exec_lowPowerTick ht, hwork, hidle], by rw [State.publish_sleep, hy]⟩

end

/-! ## The tamper edge outside ASLEEP (R153, R172) -/

/-- The latch set by an edge. -/
def State.edged (s : State) : State := { s with
  inputs := { s.inputs with pins := { s.inputs.pins with tamperIn := true } }
  sleep := { s.sleep with
    tamperLatch := some (s.sleep.tamperLatch.getD s.clock.packTime), tamperEdges := min 255 (s.sleep.tamperEdges + 1) } }

/-- The alerts of an edge taken at once. -/
def State.edgeAlerts (s : State) : List (AlertKind × List Byte) :=
  s.tamperAlerts (s.sleep.tamperLatch.getD s.clock.packTime) (min 255 (s.sleep.tamperEdges + 1)) true

theorem State.edged_alerts (s : State) : s.edged.tamperAlerts (s.sleep.tamperLatch.getD s.clock.packTime)
    (min 255 (s.sleep.tamperEdges + 1)) true = s.edgeAlerts :=
  State.tamperAlerts_congr rfl rfl rfl _ _ _

theorem exec_tamperInEdge {s : State} (ht : s.taking) (hp : s.sleep.power ≠ .asleep) :
    exec .tamperInEdge s = .next (s.edged.takeTamper.settle.publish s) := by
  have hedge : (s.onInputs fun i => { i with pins := { i.pins with tamperIn := true } }).tamperEdge = s.edged.takeTamper := by
    rw [State.tamperEdge]
    exact if_neg hp
  rw [show exec .tamperInEdge s = execTamperInEdge s from rfl, execTamperInEdge, State.event_taking _ ht, hedge]

/-- In ACTIVE the taking of the latch trips. -/
theorem State.takeTamper_active {s : State} {v : Word} (h : s.sleep.tamperLatch = some v) (hp : s.sleep.power = .active) :
    ∃ pool store latches demands, s.takeTamper = { s with
      pool := pool, store := store, prot := { s.prot with latches := latches }
      sleep := { s.sleep with tamperLatch := none, tamperEdges := 0 }
      transit := { s.transit with
        alerts := s.transit.alerts ++ s.tamperAlerts v s.sleep.tamperEdges s.inputs.pins.tamperIn
        demands := demands } } ∧
    store.session = .locked ∧ store.floor = s.store.floor ∧
    ∀ k, Protection.latch { s.prot with latches := latches } k =
      if k = .tamper then some ((s.prot.latch .tamper).getD (s.profile.actionOf .tamper)) else s.prot.latch k := by
  obtain ⟨pool, store, hform, hlocked, hfloor, huse, -⟩ := s.tamperAtStore_form
  obtain ⟨z, hz⟩ : ∃ z, z = s.tamperAtStore := ⟨_, rfl⟩
  have hzform := hz
  rw [hform] at hzform
  have hzactive : z.sleep.power = .active := by
    rw [hzform]
    exact hp
  have hprofile : z.profile = s.profile := by
    rw [hzform]
    exact huse
  have hprot : z.prot = s.prot := by rw [hzform]
  have htrip := z.trip_eq .tamper .plain
  refine ⟨pool, store, (z.trip .tamper .plain).prot.latches, (z.trip .tamper .plain).transit.demands, ?_, hlocked, hfloor,
    fun k => ?_⟩
  · have hwake (y : State) (hy : y.sleep.power = .active) : y.wakeReason .tamper = y := by rw [State.wakeReason, hy]
    have hypower : (((z.trip .tamper .plain).raise .tamper s.tamperPayload).onSleep fun x =>
        { x with tamperLatch := none, tamperEdges := 0 }).sleep.power = .active := by
      rw [htrip]
      exact hzactive
    have hdemands : (z.trip .tamper .plain).transit = { z.transit with
        alerts := z.transit.alerts ++ s.tamperTrip, demands := (z.trip .tamper .plain).transit.demands } := by
      rw [htrip, State.tamperTrip, hprofile, hprot]
    rw [State.takeTamper, ← hz, if_pos hzactive, State.tripTamper]
    refine (hwake _ hypower).trans ?_
    rw [State.tamperPayload_eq s h, State.tamperAlerts, if_pos hp]
    simp only [State.raise, State.onTransit, State.onSleep]
    rw [hdemands, htrip, hzform]
    simp only [State.lockAlerts, List.append_assoc]
  · have hlatch := z.trip_latch .tamper .plain k
    rw [hprofile, hprot] at hlatch
    rw [← hlatch, htrip, hprot]

section
variable {s : State}

/-- In ACTIVE an edge trips. -/
theorem exec_tamperInEdge_active (ht : s.taking) (hw : s.workIdle) (hp : s.sleep.power = .active) :
    ∃ t, exec .tamperInEdge s = .next t ∧ t.sleep.tamperLatch = none ∧ t.sleep.tamperEdges = 0 ∧
      t.store.session = .locked ∧ t.store.floor = s.store.floor ∧
      t.prot.latch .tamper = some ((s.prot.latch .tamper).getD (s.profile.actionOf .tamper)) ∧
      (∀ k, k ≠ .tamper → t.prot.latch k = s.prot.latch k) ∧ t.transit.alerts = s.transit.alerts ++ s.edgeAlerts ∧
      SameExcept [.inputs, .pool, .prot, .sleep, .store, .transit] s t := by
  obtain ⟨pool, store, latches, demands, hform, hlocked, hfloor, hlatch⟩ :=
    State.takeTamper_active (s := s.edged) (v := s.sleep.tamperLatch.getD s.clock.packTime) rfl hp
  have halerts := s.edged_alerts
  obtain ⟨y, hy⟩ : ∃ y, y = s.edged.takeTamper := ⟨_, rfl⟩
  rw [← hy] at hform
  have hidle : y.settle = y := State.settle_of_workIdle (by rw [hform]; exact hw)
  have hsame : SameExcept [.inputs, .pool, .prot, .sleep, .store, .transit] s y := by
    rw [hform, sameExcept_iff]
    simp [State.edged]
  refine ⟨y.publish s, by rw [exec_tamperInEdge ht (by rw [hp]; exact nofun), ← hy, hidle], ?_, ?_, ?_, ?_, ?_,
    fun k hk => ?_, ?_, hsame.publish_transit (by decide) (by decide)⟩
  · rw [State.publish_sleep, hform]
  · rw [State.publish_sleep, hform]
  · rw [State.publish_store, hform]
    exact hlocked
  · rw [State.publish_store, hform]
    exact hfloor
  · rw [State.publish_prot, hform]
    exact (hlatch .tamper).trans (if_pos rfl)
  · rw [State.publish_prot, hform]
    exact (hlatch k).trans (if_neg hk)
  · rw [State.publish_transitAlerts, hform, ← halerts]
    rfl

/-- Outside ACTIVE and ASLEEP an edge is held, and its reason arrives. -/
theorem exec_tamperInEdge_held (ht : s.taking) (ha : s.sleep.power ≠ .asleep) (hp : s.sleep.power ≠ .active) :
    ∃ pool store y, exec .tamperInEdge s = .next ((y.wakeReason .tamper).settle.publish s) ∧ y = { s with
      inputs := { s.inputs with pins := { s.inputs.pins with tamperIn := true } }
      pool := pool, store := store, prot := { s.prot with tamperHeld := true }
      sleep := { s.sleep with tamperLatch := none, tamperEdges := 0 }
      transit := { s.transit with alerts := s.transit.alerts ++ s.edgeAlerts } } ∧
    store.session = .locked ∧ store.inUse = s.store.inUse ∧ (s.store.slot = none → pool = s.pool) := by
  obtain ⟨pool, store, y, htake, hy, hlocked, -, huse, hpool⟩ :=
    State.takeTamper_form (s := s.edged) (v := s.sleep.tamperLatch.getD s.clock.packTime) rfl hp
  refine ⟨pool, store, y, by rw [exec_tamperInEdge ht ha, htake], ?_, hlocked, huse, hpool⟩
  rw [hy, ← s.edged_alerts]
  rfl

/-! ## A reason that arrives where the part does not sleep (R150, R157) -/

/-- In ENTERING the first reason becomes the pending one. -/
theorem State.wakeReason_entering {v : State} (r : WakeReason) (hp : v.sleep.power = .entering)
    (h : v.sleep.phase = .entrySleep → v.sleep.pendingReason = none → v.chain.sleepRequest = none) :
    v.wakeReason r =
      { v with sleep := { v.sleep with pendingReason := some (v.sleep.pendingReason.getD r) } } := by
  rw [State.wakeReason, hp]
  cases hr : v.sleep.pendingReason with
  | some r' =>
    have hsleep : { v.sleep with pendingReason := some r' } = v.sleep := by rw [← hr]
    exact (congrArg (fun x => ({ v with sleep := x } : State)) hsleep).symm
  | none =>
    refine if_neg fun hboth => ?_
    obtain ⟨hphase, hasked⟩ := hboth
    have hnone : v.chain.sleepRequest = none := h hphase hr
    have hsome : v.chain.sleepRequest.isSome = true := hasked
    simp [hnone] at hsome

/-- A SLEEP not yet granted is withdrawn, and the release step is made at once. -/
theorem State.wakeReason_withdraws {v : State} (r : WakeReason) (hp : v.sleep.power = .entering)
    (hphase : v.sleep.phase = .entrySleep) (hr : v.sleep.pendingReason = none) (hq : v.chain.sleepRequest ≠ none) :
    v.wakeReason r = ({ v with
      sleep := { v.sleep with pendingReason := some r }
      chain := { v.chain with sleepRequest := none } } : State).beginReleaseStep := by
  rw [State.wakeReason, hp, hr]
  exact if_pos ⟨hphase, Option.isSome_iff_ne_none.mpr hq⟩

/-- During a patrol's own SLEEP the first reason waits, with the duration at its arrival (R157; log entry 26). -/
theorem State.wakeReason_patrolSleep {v : State} (r : WakeReason) (hp : v.sleep.power = .patrol)
    (hphase : v.sleep.phase = .patrolSleep) (hq : v.chain.sleepRequest = none) :
    v.wakeReason r = { v with sleep := { v.sleep with
      pendingReason := some (v.sleep.pendingReason.getD r)
      duration := if v.sleep.pendingReason = none then v.sleep.maxCount / 1000 else v.sleep.duration } } := by
  rw [State.wakeReason, hp]
  refine (if_pos ⟨hphase, by rw [hq]; rfl⟩).trans ?_
  cases hr : v.sleep.pendingReason with
  | some r' =>
    have hsleep : { v.sleep with pendingReason := some r', duration := v.sleep.duration } = v.sleep := by rw [← hr]
    exact (congrArg (fun x => ({ v with sleep := x } : State)) hsleep).symm
  | none => rfl

/-- An edge in ENTERING, WAKING or a patrol's own SLEEP. -/
theorem exec_tamperInEdge_noted (ht : s.taking) (hw : s.workIdle)
    (hp : s.sleep.power = .entering ∨ s.sleep.power = .waking ∨
      s.sleep.power = .patrol ∧ s.sleep.phase = .patrolSleep ∧ s.chain.sleepRequest = none)
    (h : s.sleep.power = .entering → s.sleep.phase = .entrySleep → s.sleep.pendingReason = none →
      s.chain.sleepRequest = none) :
    ∃ t, exec .tamperInEdge s = .next t ∧ t.inputs.pins = { s.inputs.pins with tamperIn := true } ∧
      t.sleep = { s.sleep with
        tamperLatch := none, tamperEdges := 0
        pendingReason := if s.sleep.power = .waking then s.sleep.pendingReason
          else some (s.sleep.pendingReason.getD .tamper)
        duration := if s.sleep.power = .patrol ∧ s.sleep.pendingReason = none then s.sleep.maxCount / 1000
          else s.sleep.duration } ∧
      t.prot = { s.prot with tamperHeld := true } ∧ t.store.session = .locked ∧
      t.transit.alerts = s.transit.alerts ++ s.edgeAlerts ∧
      SameExcept [.inputs, .pool, .prot, .sleep, .store, .transit] s t := by
  have hawake : s.sleep.power ≠ .asleep ∧ s.sleep.power ≠ .active := by
    rcases hp with hp | hp | ⟨hp, -⟩ <;> rw [hp] <;> exact ⟨nofun, nofun⟩
  obtain ⟨ha, hnot⟩ := hawake
  obtain ⟨pool, store, y, hexec, hy, hlocked, -⟩ := exec_tamperInEdge_held ht ha hnot
  have hypower : y.sleep.power = s.sleep.power := by rw [hy]
  have hnoted : y.wakeReason .tamper = { y with sleep := { s.sleep with
      tamperLatch := none, tamperEdges := 0
      pendingReason := if s.sleep.power = .waking then s.sleep.pendingReason
        else some (s.sleep.pendingReason.getD .tamper)
      duration := if s.sleep.power = .patrol ∧ s.sleep.pendingReason = none then s.sleep.maxCount / 1000
        else s.sleep.duration } } := by
    rcases hp with hp | hp | ⟨hp, hphase, hq⟩
    · rw [State.wakeReason_entering _ (hypower.trans hp) (by rw [hy]; exact h hp), hp, hy]
      rfl
    · rw [State.wakeReason, hypower.trans hp, hp, hy]
      rfl
    · rw [State.wakeReason_patrolSleep _ (hypower.trans hp) (by rw [hy]; exact hphase) (by rw [hy]; exact hq), hp, hy]
      simp
  obtain ⟨z, hz⟩ : ∃ z, z = y.wakeReason .tamper := ⟨_, rfl⟩
  rw [← hz] at hnoted hexec
  rw [hy] at hnoted
  have hidle : z.settle = z := State.settle_of_workIdle (by rw [hnoted]; exact hw)
  have hsame : SameExcept [.inputs, .pool, .prot, .sleep, .store, .transit] s z := by
    rw [hnoted, sameExcept_iff]
    simp
  refine ⟨z.publish s, by rw [hexec, hidle], ?_, ?_, ?_, ?_, ?_, hsame.publish_transit (by decide) (by decide)⟩
  · rw [State.publish_inputs, hnoted]
  · rw [State.publish_sleep, hnoted]
  · rw [State.publish_prot, hnoted]
  · rw [State.publish_store, hnoted]
    exact hlocked
  · rw [State.publish_transitAlerts, hnoted]

/-! ## A tamper edge in a patrol (R157, R158) -/

/-- The completion of a wake with the nodes awake: the TRIP alerts of SAFE_OPEN and of a held tamper event. -/
theorem State.beginWaking_trips (v : State) (r : WakeReason) (duration : Nat) (hn : v.sleep.nodesAsleep = false) :
    (let t := v.beginWaking r duration
     t.sleep.power = .active ∧ t.prot.tamperHeld = false ∧ t.store = v.store ∧
     t.transit.alerts = v.transit.alerts ++ v.wakeTrips) := by
  obtain ⟨x, hx⟩ : ∃ x, x = v.wakeStarted r duration := ⟨_, rfl⟩
  obtain ⟨ahead, hform⟩ := v.wakeStarted_form r duration
  obtain ⟨logs, watches, latches, demands, hwoken, -⟩ := x.completeWake_form
  have htrips : x.wakeTrips = v.wakeTrips := by
    rw [hx, hform]
    rfl
  rw [State.beginWaking_eq, if_neg (by simp [hn]), ← hx, hwoken, htrips, hx, hform]
  exact ⟨rfl, rfl, rfl, rfl⟩

/-- An edge in a patrol that does not yet end abandons it and wakes the part. -/
theorem exec_tamperInEdge_patrol (ht : s.taking) (hw : s.workIdle) (hp : s.sleep.power = .patrol)
    (h : s.sleep.phase ≠ .patrolSleep ∨ s.chain.sleepRequest ≠ none) (hbreak : s.chain.breakDue = false) :
    ∃ t, exec .tamperInEdge s = .next t ∧ t.store.session = .locked ∧ t.seq.frame = none ∧ t.transit.burst = false ∧
      (s.sleep.nodesAsleep = true → t.wakeBegun .tamper (s.sleep.maxCount / 1000) ∧ t.prot.tamperHeld = true ∧
        t.transit.alerts = s.transit.alerts ++ s.edgeAlerts) ∧
      (s.sleep.nodesAsleep = false → t.sleep.power = .active ∧ t.sleep.lastReason = .tamper ∧
        t.sleep.duration = s.sleep.maxCount / 1000 ∧ t.sleep.wakeOut = true ∧ t.prot.tamperHeld = false ∧
        t.transit.alerts = s.transit.alerts ++ s.edgeAlerts ++
          (if s.inputs.pins.safeOpen = true ∧ s.prot.latch .safeLine = none then
            [(.trip, tripPayload .safeLine .immediateOpen .plain)] else []) ++ s.tamperTrip) := by
  obtain ⟨pool, store, y, hexec, hy, hlocked, huse, -⟩ :=
    exec_tamperInEdge_held ht (by rw [hp]; exact nofun) (by rw [hp]; exact nofun)
  have hypower : y.sleep.power = .patrol := by rw [hy]; exact hp
  have habandon : ¬ (y.sleep.phase = .patrolSleep ∧ y.chain.sleepRequest.isNone = true) := by
    rw [hy]
    rintro ⟨hphase, hasked⟩
    exact h.elim (· hphase) (· (Option.isNone_iff_eq_none.mp hasked))
  have hcount : y.sleep.maxCount = s.sleep.maxCount := by rw [hy]
  obtain ⟨v, hv⟩ : ∃ v, v = y.patrolDropped := ⟨_, rfl⟩
  rw [State.wakeReason_patrol _ hypower habandon, hcount, ← hv] at hexec
  have hvpower : v.sleep.power = .patrol := by rw [hv]; exact hypower
  have hvnodes : v.sleep.nodesAsleep = s.sleep.nodesAsleep := by rw [hv, hy]; rfl
  have hvframe : v.seq.frame = none := by rw [hv]; rfl
  have hvlocked : v.store.session = .locked := by rw [hv, hy]; exact hlocked
  have hvalerts : v.transit.alerts = s.transit.alerts ++ s.edgeAlerts := by rw [hv, hy]; rfl
  have hvchain : v.chain = s.chain.patrolDropped := by rw [hv, hy]; rfl
  have hidle : v.chain.engine.isSome = true ∨ v.chain.noRequest := by
    obtain ⟨hsleep, hseq, hslot, hengine⟩ := s.chain.patrolDropped_keeps
    obtain ⟨-, hrest⟩ := hw
    rw [hvchain]
    refine hrest.imp hengine.trans fun hnone => ?_
    obtain ⟨hlocation, -, -, hnoslot⟩ := hnone
    exact ⟨(Chain.patrolDropped_of_noBreak hbreak).trans hlocation, hseq, hsleep, hslot.trans hnoslot⟩
  cases hn : s.sleep.nodesAsleep with
  | true =>
    obtain ⟨hbegun, -, -, -, hprot, hstore, halerts, hseq, hburst⟩ := State.wakeBegun_publish (v := v) (old := s) .tamper
      (s.sleep.maxCount / 1000) (hvnodes.trans hn) (by simp [State.listIdle, hvframe]) (by rw [hv, hy]; exact ht)
      (hidle.imp_right fun ⟨hlocation, hseq, _⟩ => ⟨hlocation, hseq⟩)
    refine ⟨_, hexec, ?_, ?_, ?_, fun _ => ⟨hbegun, ?_, halerts.trans hvalerts⟩, nofun⟩
    · rw [hstore]
      exact hvlocked
    · rw [hseq]
      exact hvframe
    · rw [hburst, if_pos hvpower]
    · rw [hprot, hv, hy]
      rfl
  | false =>
    have hvn := hvnodes.trans hn
    obtain ⟨hout, hreason, hduration, -, -, -, hframe, -, -, -, hchain⟩ :=
      v.beginWaking_shows .tamper (s.sleep.maxCount / 1000)
    obtain ⟨hpower, hheld, hstore, halerts⟩ := v.beginWaking_trips .tamper (s.sleep.maxCount / 1000) hvn
    have hburst := v.beginWaking_burst .tamper (s.sleep.maxCount / 1000)
    have htrips : v.wakeTrips = (if s.inputs.pins.safeOpen = true ∧ s.prot.latch .safeLine = none then
        [(.trip, tripPayload .safeLine .immediateOpen .plain)] else []) ++ s.tamperTrip := by
      have htamper : v.tamperTrip = s.tamperTrip := by
        have hprofile : v.profile = s.profile := by rw [hv, hy]; exact huse
        have hlatch : v.prot.latch .tamper = s.prot.latch .tamper := by rw [hv, hy]; rfl
        rw [State.tamperTrip, State.tamperTrip, hprofile, hlatch]
      have hvheld : v.prot.tamperHeld = true := by rw [hv, hy]; rfl
      have hopen : v.inputs.pins.safeOpen = s.inputs.pins.safeOpen := by rw [hv, hy]; rfl
      have hlatch : v.prot.latch .safeLine = s.prot.latch .safeLine := by rw [hv, hy]; rfl
      rw [State.wakeTrips, hvheld, if_pos rfl, htamper, hopen, hlatch]
    rw [if_neg (by simp [hvn])] at hchain
    rw [if_pos hvpower] at hburst
    obtain ⟨z, hz⟩ : ∃ z, z = v.beginWaking .tamper (s.sleep.maxCount / 1000) := ⟨_, rfl⟩
    rw [← hz] at hout hreason hduration hframe hchain hpower hheld hstore halerts hburst hexec
    have hsettle : z.settle = z := State.settle_of_workIdle (by
      rw [State.workIdle, hchain]
      exact ⟨by simp [State.listIdle, hframe, hvframe], hidle⟩)
    rw [hsettle] at hexec
    refine ⟨_, hexec, ?_, ?_, ?_, nofun, fun _ => ?_⟩
    · rw [State.publish_store, hstore]
      exact hvlocked
    · rw [State.publish_seq, hframe]
      exact hvframe
    · rw [State.publish_eq]
      exact hburst
    · simp only [State.publish_sleep, State.publish_prot, State.publish_transitAlerts]
      refine ⟨hpower, hreason, hduration, hout, hheld, ?_⟩
      rw [halerts, htrips, hvalerts, ← List.append_assoc]

/-! ## ENTERING (R150) -/

/-- A tick in ENTERING that withdraws no SLEEP. -/
theorem exec_lowPowerTick_entering (ht : s.taking) (hw : s.workIdle) (hp : s.sleep.power = .entering) (w d : Bool)
    (h : w = true → s.sleep.pendingReason = none → s.sleep.phase = .entrySleep → s.chain.sleepRequest = none) :
    ∃ t, exec (.lowPowerTick w d) s = .next t ∧
      t.clock = ⟨s.clock.packTime + BitVec.ofNat 32 s.clock.tick, 1000⟩ ∧
      t.inputs.pins = { s.inputs.pins with wakeIn := w, tamperIn := d } ∧
      t.sleep = { s.sleep with
        pendingReason := if w then some (s.sleep.pendingReason.getD .wakeLine) else s.sleep.pendingReason } ∧
      SameExcept [.clock, .inputs, .sleep] (s.elapse s.clock.tick) t := by
  obtain ⟨z, hz⟩ : ∃ z, z = s.ticked w d := ⟨_, rfl⟩
  have hform := hz
  rw [State.ticked_awake (by rw [hp]; exact nofun)] at hform
  have hzsleep : z.sleep = s.sleep := by rw [hform]; exact State.elapse_sleep s _
  have hzpower : z.sleep.power = .entering := by rw [hzsleep, hp]
  have hzrequest : z.chain.sleepRequest = s.chain.sleepRequest := by rw [hform]; exact State.elapse_sleepRequest s _
  have hzwake : z.inputs.pins.wakeIn = w := by rw [hform]
  obtain ⟨y, hy⟩ : ∃ y : State, y = { z with sleep := { s.sleep with
    pendingReason := if w then some (s.sleep.pendingReason.getD .wakeLine) else s.sleep.pendingReason } } := ⟨_, rfl⟩
  have hsample : z.sampleWakeIn = y := by
    rw [State.sampleWakeIn, hzpower, hzwake, hy]
    cases w with
    | true =>
      refine (if_pos rfl).trans ?_
      rw [State.wakeReason_entering _ hzpower (by rw [hzsleep, hzrequest]; exact fun hphase hr => h rfl hr hphase), hzsleep]
      rfl
    | false =>
      refine (if_neg (by decide)).trans ?_
      rw [← hzsleep]
      rfl
  have hwork : z.tickWork = y := by
    rw [State.tickWork_of_noLatch (by simp [hzpower]), hsample]
    exact State.counts_idle (by simp [hy, hp])
  have hidle : y.settle = y := State.settle_of_workIdle (by
    rw [hy, hform]
    exact (State.elapse_workIdle s s.clock.tick).mpr hw)
  have hshown : y.publish s = y := by
    refine State.publish_of_sleepShown ?_ ?_ ?_ ?_ <;> rw [hy]
    rw [hform]
    simp [State.sameShown]
  refine ⟨y, by rw [exec_lowPowerTick ht, ← hz, hwork, hidle, hshown], ?_, ?_, ?_, ?_⟩ <;> rw [hy]
  · rw [hform]
  · rw [hform]
  · rw [hform]
    simp [sameExcept_iff]

/-- The release step is read of the pool, WAKE_OUT and the wake completion alone, and the update count is not of it. -/
theorem State.releaseBegun_publish {s x t : State} (h : x.releaseBegun t) (hpool : x.pool = s.pool)
    (hout : x.sleep.wakeOut = s.sleep.wakeOut) (hdone : x.sleep.wakeCompletion = s.sleep.wakeCompletion) (old : State) :
    s.releaseBegun (t.publish old) := by
  have hnumbers : x.releaseNumbers = s.releaseNumbers := by rw [State.releaseNumbers, State.releaseNumbers, hpool]
  simp only [State.releaseBegun, hnumbers, hpool, hout, hdone] at h
  have hmemory : (t.publish old).pool.memory = t.pool.memory := by rw [State.publish_eq]
  have hqueue : (t.publish old).pool.alertQueue = t.pool.alertQueue := by rw [State.publish_eq]
  have hdiscarded : (t.publish old).pool.discarded = t.pool.discarded := by rw [State.publish_eq]
  simp only [State.releaseBegun, State.publish_sleep, State.publish_resultQueue, State.publish_releaseList,
    State.publish_entry, hmemory, hqueue, hdiscarded]
  exact h

/-- Where something is to be released the step begins and waits for the completions. -/
theorem State.beginReleaseStep_of_release {x : State} (h : x.pool.releaseList ++ x.releaseNumbers ≠ []) :
    x.beginReleaseStep = x.releasing := by
  obtain ⟨table, hpool⟩ := x.releasing_pool
  rw [State.beginReleaseStep_eq, hpool]
  exact if_neg h

/-- With nothing to release the step ends in the same event. -/
theorem State.beginReleaseStep_of_empty {x : State} {r : WakeReason} (hl : x.pool.releaseList = [])
    (hn : x.releaseNumbers = []) (hr : x.sleep.pendingReason = some r) :
    x.beginReleaseStep = x.releasing.beginWaking r 0 := by
  obtain ⟨table, hpool⟩ := x.releasing_pool
  have hreason : x.releasing.sleep.pendingReason = some r := hr
  rw [State.beginReleaseStep_eq, State.endReleaseStep, hreason, hpool]
  exact if_pos (by rw [hl, hn]; rfl)

theorem State.releasing_pool_of_empty {x : State} (hn : x.releaseNumbers = []) :
    x.releasing.pool = { x.pool with resultQueue := [], discarded := satAdd 65535 x.pool.discarded 0 } := by
  rw [State.releasing, hn]
  rfl

/-- A tick that withdraws the SLEEP asked for: the state in which the release step begins. -/
def State.withdrawn (s : State) (d : Bool) : State := { s.ticked true d with
  sleep := { s.sleep with pendingReason := some .wakeLine }
  chain := { (s.elapse s.clock.tick).chain with sleepRequest := none } }

theorem State.withdrawn_form (hp : s.sleep.power = .entering) (d : Bool) : s.withdrawn d = { s.elapse s.clock.tick with
    clock := ⟨s.clock.packTime + BitVec.ofNat 32 s.clock.tick, 1000⟩
    inputs := { s.inputs with pins := { s.inputs.pins with wakeIn := true, tamperIn := d } }
    sleep := { s.sleep with pendingReason := some .wakeLine }
    chain := { (s.elapse s.clock.tick).chain with sleepRequest := none } } := by
  rw [State.withdrawn, State.ticked_awake (by rw [hp]; exact nofun)]

theorem State.sampleWakeIn_withdraws (hp : s.sleep.power = .entering) (hphase : s.sleep.phase = .entrySleep)
    (hr : s.sleep.pendingReason = none) (hq : s.chain.sleepRequest ≠ none) (d : Bool) :
    (s.ticked true d).sampleWakeIn = (s.withdrawn d).beginReleaseStep := by
  obtain ⟨z, hz⟩ : ∃ z, z = s.ticked true d := ⟨_, rfl⟩
  have hform := hz
  rw [State.ticked_awake (by rw [hp]; exact nofun)] at hform
  have hzsleep : z.sleep = s.sleep := by rw [hform]; exact State.elapse_sleep s _
  have hzchain : z.chain = (s.elapse s.clock.tick).chain := by rw [hform]
  have hzrequest : z.chain.sleepRequest = s.chain.sleepRequest := by rw [hform]; exact State.elapse_sleepRequest s _
  have hzpower : z.sleep.power = .entering := by rw [hzsleep, hp]
  rw [← hz, State.withdrawn, ← hz, State.sampleWakeIn, hzpower]
  refine (if_pos (by rw [hform])).trans ?_
  rw [State.wakeReason_withdraws _ hzpower (by rw [hzsleep, hphase]) (by rw [hzsleep, hr]) (by rw [hzrequest]; exact hq),
    hzsleep, hzchain]

/-- WAKE_IN withdraws the SLEEP, and the buffers are released. -/
theorem exec_lowPowerTick_releases (ht : s.taking) (hw : s.workIdle) (hp : s.sleep.power = .entering)
    (hphase : s.sleep.phase = .entrySleep) (hr : s.sleep.pendingReason = none) (hq : s.chain.sleepRequest ≠ none)
    (d : Bool) (h : s.pool.releaseList ++ s.releaseNumbers ≠ []) :
    ∃ t, exec (.lowPowerTick true d) s = .next t ∧ s.releaseBegun t ∧ t.sleep.power = .entering ∧
      t.sleep.pendingReason = some .wakeLine ∧ t.sleep.nodesAsleep = s.sleep.nodesAsleep ∧
      t.chain = { (s.elapse s.clock.tick).chain with sleepRequest := none } ∧
      SameExcept [.clock, .inputs, .pool, .chain, .sleep] (s.elapse s.clock.tick) t := by
  obtain ⟨x, hx⟩ : ∃ x, x = s.withdrawn d := ⟨_, rfl⟩
  have hxform := hx
  rw [State.withdrawn_form hp d] at hxform
  have hxpool : x.pool = s.pool := by rw [hxform]; exact State.elapse_pool s _
  have hxsleep : x.sleep = { s.sleep with pendingReason := some .wakeLine } := by rw [hxform]
  have hnumbers : x.releaseNumbers = s.releaseNumbers := by rw [State.releaseNumbers, State.releaseNumbers, hxpool]
  obtain ⟨y, hy⟩ : ∃ y, y = x.releasing := ⟨_, rfl⟩
  obtain ⟨pool, sleep, hyform, hpower, hreason, hnodes⟩ : ∃ pool sleep, y = { x with pool := pool, sleep := sleep } ∧
      sleep.power = .entering ∧ sleep.pendingReason = some .wakeLine ∧ sleep.nodesAsleep = s.sleep.nodesAsleep := by
    refine ⟨_, _, hy, ?_, ?_, ?_⟩ <;> rw [hxsleep]
    exact hp
  have hbegun := x.releasing_begun
  rw [← hy] at hbegun
  have hwork : (s.ticked true d).tickWork = y := by
    have hnone : (s.ticked true d).sleep.power ≠ .asleep := by
      rw [State.ticked_awake (by rw [hp]; exact nofun)]
      simp [hp]
    rw [State.tickWork_of_noLatch (by simp [hnone]), State.sampleWakeIn_withdraws hp hphase hr hq, ← hx,
      State.beginReleaseStep_of_release (by rw [hxpool, hnumbers]; exact h), ← hy]
    exact State.counts_idle (by rw [hyform]; simp [hpower])
  have hidle : y.settle = y := State.settle_of_workIdle (by
    obtain ⟨hlist, hengine⟩ := (State.elapse_workIdle s s.clock.tick).mpr hw
    have hbusy := hengine.resolve_right fun ⟨_, _, hnone, _⟩ => hq ((State.elapse_sleepRequest s _).symm.trans hnone)
    rw [hyform, hxform]
    exact ⟨hlist, .inl hbusy⟩)
  have hsame : SameExcept [.clock, .inputs, .pool, .chain, .sleep] (s.elapse s.clock.tick) y := by
    rw [hyform, hxform, sameExcept_iff]
    simp
  have hreported : y.sameReported s := by
    rw [hyform, hxform]
    simp [State.sameReported]
  refine ⟨y.publish s, by rw [exec_lowPowerTick ht, hwork, hidle],
    State.releaseBegun_publish hbegun hxpool (by rw [hxsleep]) (by rw [hxsleep]) s, ?_, ?_, ?_, ?_,
    hsame.publish hreported (by decide)⟩
  · rw [State.publish_sleep, hyform]
    exact hpower
  · rw [State.publish_sleep, hyform]
    exact hreason
  · rw [State.publish_sleep, hyform]
    exact hnodes
  · rw [State.publish_chain, hyform, hxform]

/-- WAKE_IN withdraws the SLEEP and, with nothing to release and the nodes awake, the wake completes. -/
theorem exec_lowPowerTick_withdrawnWake (ht : s.taking) (hw : s.workIdle) (hp : s.sleep.power = .entering)
    (hphase : s.sleep.phase = .entrySleep) (hr : s.sleep.pendingReason = none) (hq : s.chain.sleepRequest ≠ none)
    (d : Bool) (hlist : s.pool.releaseList = []) (hnone : s.releaseNumbers = []) (hresults : s.pool.resultQueue = [])
    (hn : s.sleep.nodesAsleep = false) :
    ∃ t, exec (.lowPowerTick true d) s = .next t ∧ (s.elapse s.clock.tick).awake t ∧ t.sleep.wakeOut = true ∧
      t.sleep.lastReason = .wakeLine ∧ t.sleep.duration = 0 ∧
      t.chain = { (s.elapse s.clock.tick).chain with sleepRequest := none } := by
  obtain ⟨u, hu⟩ : ∃ u, u = s.elapse s.clock.tick := ⟨_, rfl⟩
  have hupool : u.pool = s.pool := by rw [hu, State.elapse_pool]
  have huslot : u.sleep = s.sleep := by rw [hu, State.elapse_sleep]
  have huinputs : u.inputs = s.inputs := by rw [hu, State.elapse_inputs]
  obtain ⟨x, hx⟩ : ∃ x, x = s.withdrawn d := ⟨_, rfl⟩
  have hxform := hx
  rw [State.withdrawn_form hp d, ← hu] at hxform
  have hxpool : x.pool = s.pool := by rw [hxform]; exact hupool
  have hnumbers : x.releaseNumbers = [] := by rw [State.releaseNumbers, hxpool]; exact hnone
  obtain ⟨v, hv⟩ : ∃ v, v = x.releasing := ⟨_, rfl⟩
  have hvpool := State.releasing_pool_of_empty hnumbers
  rw [← hv, hxpool] at hvpool
  obtain ⟨sleep, hvform, hnodes, hslot⟩ : ∃ sleep, v = { x with pool := v.pool, sleep := sleep } ∧
      sleep.nodesAsleep = false ∧ sleep.slot = s.sleep.slot := by
    refine ⟨x.releasing.sleep, by rw [hv]; rfl, ?_, ?_⟩ <;> rw [State.releasing, hxform]
    exact hn
  have hvnodes : v.sleep.nodesAsleep = false := by rw [hvform]; exact hnodes
  obtain ⟨y, hy⟩ : ∃ y, y = v.beginWaking .wakeLine 0 := ⟨_, rfl⟩
  have hawake : u.awake y := by
    rw [hy, State.beginWaking_eq, hvnodes, if_neg (by decide)]
    refine State.awake_completeWake (State.wakesAs_wakeStarted _ _ ?_ ?_ hvnodes ?_ ?_ ?_ ?_ ?_) <;>
      rw [hvform, hxform]
    · rw [huinputs]
      exact ⟨rfl, rfl⟩
    · exact hslot.trans (by rw [huslot])
    · exact ⟨rfl, rfl, rfl⟩
    · exact ⟨rfl, rfl⟩
    · exact ⟨rfl, rfl⟩
    · rw [hvpool, hupool]
      exact ⟨rfl, rfl, hresults.symm⟩
  obtain ⟨hout, hreason, hduration, -, -, -, hframe, -, -, -, hchain⟩ := v.beginWaking_shows .wakeLine 0
  rw [← hy] at hout hreason hduration hframe hchain
  rw [if_neg (by simp [hvnodes]), hvform, hxform] at hchain
  have hwork : (s.ticked true d).tickWork = y := by
    obtain ⟨hpower, -⟩ := hawake
    have hasleep : (s.ticked true d).sleep.power ≠ .asleep := by
      rw [State.ticked_awake (by rw [hp]; exact nofun)]
      simp [hp]
    rw [State.tickWork_of_noLatch (by simp [hasleep]), State.sampleWakeIn_withdraws hp hphase hr hq, ← hx,
      State.beginReleaseStep_of_empty (by rw [hxpool]; exact hlist) hnumbers (by rw [hxform]), ← hv, ← hy]
    exact State.counts_idle (by simp [hpower])
  have hidle : y.settle = y := State.settle_of_workIdle (by
    obtain ⟨hrest, hengine⟩ := (State.elapse_workIdle s s.clock.tick).mpr hw
    have hbusy := hengine.resolve_right fun ⟨_, _, hnone, _⟩ => hq ((State.elapse_sleepRequest s _).symm.trans hnone)
    rw [← hu] at hrest hbusy
    rw [State.workIdle, hchain, State.listIdle, hframe, hvform, hxform]
    exact ⟨hrest, .inl hbusy⟩)
  refine ⟨y.publish s, by rw [exec_lowPowerTick ht, hwork, hidle], ?_⟩
  rw [← hu]
  simp only [State.publish_sleep, State.publish_chain]
  exact ⟨State.awake_publish hawake s, hout, hreason, hduration, hchain⟩

/-- A tamper edge withdraws the SLEEP, and the buffers are released. -/
theorem exec_tamperInEdge_releases (ht : s.taking) (hw : s.workIdle) (hp : s.sleep.power = .entering)
    (hphase : s.sleep.phase = .entrySleep) (hr : s.sleep.pendingReason = none) (hq : s.chain.sleepRequest ≠ none)
    (hslot : s.store.slot = none) (h : s.pool.releaseList ++ s.releaseNumbers ≠ []) :
    ∃ t, exec .tamperInEdge s = .next t ∧ t.chain = { s.chain with sleepRequest := none } ∧ s.releaseBegun t ∧
      t.sleep.power = .entering ∧ t.sleep.pendingReason = some .tamper ∧ t.prot.tamperHeld = true ∧
      t.store.session = .locked ∧ t.sleep.tamperLatch = none ∧ t.transit.alerts = s.transit.alerts ++ s.edgeAlerts := by
  obtain ⟨pool, store, y, hexec, hy, hlocked, -, hpool⟩ :=
    exec_tamperInEdge_held ht (by rw [hp]; exact nofun) (by rw [hp]; exact nofun)
  rw [hpool hslot] at hy
  rw [State.wakeReason_withdraws _ (by rw [hy]; exact hp) (by rw [hy]; exact hphase) (by rw [hy]; exact hr)
    (by rw [hy]; exact hq)] at hexec
  obtain ⟨x, hx⟩ : ∃ x : State, x = { y with
      sleep := { y.sleep with pendingReason := some .tamper }
      chain := { y.chain with sleepRequest := none } } := ⟨_, rfl⟩
  rw [← hx] at hexec
  rw [hy] at hx
  have hxpool : x.pool = s.pool := by rw [hx]
  have hnumbers : x.releaseNumbers = s.releaseNumbers := by rw [State.releaseNumbers, State.releaseNumbers, hxpool]
  have hbegun := x.releasing_begun
  obtain ⟨z, hz⟩ : ∃ z, z = x.releasing := ⟨_, rfl⟩
  obtain ⟨q, sleep, hzform, hpower, hreason, hlatch⟩ : ∃ q sleep, z = { x with pool := q, sleep := sleep } ∧
      sleep.power = .entering ∧ sleep.pendingReason = some .tamper ∧ sleep.tamperLatch = none := by
    refine ⟨_, _, hz, ?_, ?_, ?_⟩ <;> rw [hx]
    exact hp
  rw [State.beginReleaseStep_of_release (by rw [hxpool, hnumbers]; exact h), ← hz] at hexec
  rw [← hz] at hbegun
  have hidle : z.settle = z := State.settle_of_workIdle (by
    obtain ⟨hlist, hengine⟩ := hw
    have hbusy := hengine.resolve_right fun ⟨_, _, hnone, _⟩ => hq hnone
    rw [hzform, hx]
    exact ⟨hlist, .inl hbusy⟩)
  rw [hidle] at hexec
  have hzother : z.chain = { s.chain with sleepRequest := none } ∧ z.prot.tamperHeld = true ∧
      z.store.session = .locked ∧ z.transit.alerts = s.transit.alerts ++ s.edgeAlerts := by
    rw [hzform, hx]
    exact ⟨rfl, rfl, hlocked, rfl⟩
  obtain ⟨hchain, hheld, hstore, halerts⟩ := hzother
  refine ⟨_, hexec, ?_, State.releaseBegun_publish hbegun hxpool (by rw [hx]) (by rw [hx]) s, ?_⟩
  · rw [State.publish_chain, hchain]
  · simp only [State.publish_sleep, State.publish_prot, State.publish_store, State.publish_transitAlerts]
    refine ⟨?_, ?_, hheld, hstore, ?_, halerts⟩ <;> rw [hzform]
    · exact hpower
    · exact hreason
    · exact hlatch

end

/-- Settles O56: the ticks by power state, the two expiries by the compare value that comes first, and the tamper edge by
what its reason does where it arrives. -/
theorem lowPowerClockCountsAndWakes : Obligations.LowPowerClockCountsAndWakes := by
  intro s ht hw
  refine ⟨fun d hp hrun hlatch hmax hwake => exec_lowPowerTick_quiet ht hw d hp hrun hlatch hmax hwake,
    fun w d hp => exec_lowPowerTick_active ht hw w d hp,
    fun d hp hn hlatch => exec_lowPowerTick_wakeIn ht hw d hp hn hlatch,
    fun d hp hphase hn => exec_lowPowerTick_burst ht hw d hp hphase hn,
    fun d hp hrun hmax hwake => exec_lowPowerTick_patrolDue ht hw d hp hrun hmax hwake,
    fun hp hrun hmax hwake => ⟨fun hlatch hin => ⟨fun hle hn c hc => ?_, fun hlt c hc => ?_⟩,
      fun v c level hlatch hn hc => exec_tick_tamper ht hw hp hrun hlatch hn hc⟩,
    fun hp => exec_tamperInEdge_asleep ht hw hp,
    ⟨fun hp => exec_tamperInEdge_active ht hw hp, fun hp h => exec_tamperInEdge_noted ht hw hp h,
      fun hp h hbreak => exec_tamperInEdge_patrol ht hw hp h hbreak⟩,
    fun hp => ⟨fun w d h => exec_lowPowerTick_entering ht hw hp w d h, fun hphase hr hq => ⟨fun d => ?_, fun hslot h =>
      exec_tamperInEdge_releases ht hw hp hphase hr hq hslot h⟩⟩⟩
  · exact exec_sleepTimer_maxSleep hc ht hw hp hrun hmax hwake hlatch hin hn hle
  · exact exec_sleepTimer_patrol hc ht hw hp hrun hmax hwake hlatch hin hlt
  · by_cases h : s.pool.releaseList ++ s.releaseNumbers = []
    · obtain ⟨hlist, hnone⟩ := List.append_eq_nil_iff.mp h
      by_cases hboth : s.pool.resultQueue = [] ∧ s.sleep.nodesAsleep = false
      · obtain ⟨hresults, hn⟩ := hboth
        obtain ⟨t, hexec, hwoken⟩ := exec_lowPowerTick_withdrawnWake ht hw hp hphase hr hq d hlist hnone hresults hn
        exact ⟨t, hexec, fun hne => absurd h hne, fun _ _ _ _ => hwoken⟩
      · exact ⟨_, exec_lowPowerTick ht true d, fun hne => absurd h hne,
          fun _ _ hresults hn => absurd ⟨hresults, hn⟩ hboth⟩
    · obtain ⟨t, hexec, hbegun⟩ := exec_lowPowerTick_releases ht hw hp hphase hr hq d h
      exact ⟨t, hexec, fun _ => hbegun, fun hlist hnone => absurd (by rw [hlist, hnone]; rfl) h⟩

end Sys2Proof.Machine

namespace Sys2Proof.Machine

open Sys2Proof

/-! ## The calibration of a current (R48) -/

/-- The error of a rounding is at most half the divisor either way, and a tie goes away from zero. -/
theorem roundAway_nearest (n : Int) {d : Nat} (hd : 0 < d) :
    2 * (d * roundAway n d - n) ≤ d ∧ -d ≤ 2 * (d * roundAway n d - n) ∧
    (2 * (d * roundAway n d - n) = d → 0 < n) ∧ (2 * (d * roundAway n d - n) = -d → n < 0) := by
  obtain ⟨q, hq⟩ : ∃ q, q = (2 * n.natAbs + d) / (2 * d) := ⟨_, rfl⟩
  have hdiv : 2 * (d * q) + (2 * n.natAbs + d) % (2 * d) = 2 * n.natAbs + d := by
    rw [hq, ← mul_assoc, Nat.div_add_mod]
  have hmod : (2 * n.natAbs + d) % (2 * d) < 2 * d := Nat.mod_lt _ (by omega)
  have hround : (d : Int) * roundAway n d = if n < 0 then -((d * q : Nat) : Int) else ((d * q : Nat) : Int) := by
    rw [roundAway, ← hq, mul_ite, mul_neg, Nat.cast_mul]
  rw [hround]
  by_cases hn : n < 0
  · rw [if_pos hn]
    omega
  · rw [if_neg hn]
    refine ⟨by omega, by omega, fun htie => lt_of_le_of_ne (not_lt.mp hn) fun hzero => ?_, by omega⟩
    -- Of 0 there is no tie: it would make the divisor twice a multiple of itself.
    have hhalf : d * (2 * q) = d * 1 := by
      rw [← hzero] at htie
      rw [mul_left_comm]
      omega
    have := Nat.eq_of_mul_eq_mul_left hd hhalf
    omega

/-- A reading inside the converter's range is raw plus the rounded product plus the offset, bounded. -/
theorem calibrateCurrent_inRange {raw : Int} (hlow : -2200000 < raw) (hhigh : raw < 2200000) (gain offset : Int) :
    calibrateCurrent raw gain offset =
      if 2000000 < raw + roundAway (raw * gain) 1000000 + offset then (2000000, true)
      else if raw + roundAway (raw * gain) 1000000 + offset < -2000000 then (-2000000, true)
      else (raw + roundAway (raw * gain) 1000000 + offset, false) := by
  rw [calibrateCurrent, if_neg (not_le.mpr hhigh), if_neg (not_le.mpr hlow)]

/-- Settles O45: the range ends by the first two branches, a reading between them by the rounding law. -/
theorem currentIsCalibratedAndBounded : Obligations.CurrentIsCalibratedAndBounded := by
  refine ⟨fun raw gain offset _ _ => ⟨?_, ?_, fun hlow hhigh => ?_⟩, fun x s => rfl⟩
  · rintro rfl
    rfl
  · rintro rfl
    rfl
  · obtain ⟨habove, hbelow, htieUp, htieDown⟩ := roundAway_nearest (raw * gain) (d := 1000000) (by decide)
    exact ⟨_, habove, hbelow, htieUp, htieDown, calibrateCurrent_inRange hlow hhigh gain offset⟩

end Sys2Proof.Machine

namespace Sys2Proof.Machine

open Sys2Proof

/-! ## The entry of a sample (R49, R50) -/

theorem boundVoltage_snd (mv : Int) : (boundVoltage mv).2 = decide (1000000 < mv) := by
  unfold boundVoltage
  split
  · next h => exact (decide_eq_true h).symm
  · next h => exact (decide_eq_false h).symm

/-- An entry's tag is the pack time, its current the calibrated one, its voltages bounded with one mark for both. -/
theorem State.entryOf_eq (s : State) (x : RawSample) : s.entryOf x = ⟨s.clock.packTime,
    (calibrateCurrent x.current s.profile.shuntGain s.profile.shuntOffset).1, (min 1000000 x.pack).toNat,
    (min 1000000 x.link).toNat, (calibrateCurrent x.current s.profile.shuntGain s.profile.shuntOffset).2,
    decide (1000000 < x.pack ∨ 1000000 < x.link)⟩ := by
  rw [← boundVoltage_fst, ← boundVoltage_fst, Bool.decide_or, ← boundVoltage_snd, ← boundVoltage_snd]
  rfl

/-- The newest entry joins the history's end; a full history loses its oldest. -/
theorem pushEntry_eq {l : List HistoryEntry} (e : HistoryEntry) (h : l.length ≤ 128) :
    pushEntry l e = (if l.length = 128 then l.tail else l) ++ [e] := by
  rw [pushEntry, List.drop_append_of_le_length (by omega)]
  split
  · next hfull => rw [hfull, ← List.drop_one]
  · next hroom => rw [show l.length + 1 - 128 = 0 by omega, List.drop_zero]

theorem pushEntry_nil (e : HistoryEntry) : pushEntry [] e = [e] := pushEntry_eq e (Nat.zero_le 128)

/-! ## What a sample changes (R46, R52, R54) -/

section
variable {u old : State}

/-! The sense inputs, the Sensing Front End, what is on its way and the newest delivered entry are no fields of the Status
Block, so the event of a sample ends as it is (R145). -/

theorem State.sameShown.onSensing (h : u.sameShown old) (f : Sensing → Sensing) : (u.onSensing f).sameShown old := h

theorem State.sameShown.onTransit (h : u.sameShown old) (f : Transit → Transit) : (u.onTransit f).sameShown old := h

theorem State.sameShown.emptyHistory (h : u.sameShown old) : u.emptyHistory.sameShown old := h

theorem State.sameShown.periodicSample (h : u.sameShown old) (x : RawSample) : (u.periodicSample x).sameShown old := h

theorem State.sameShown.sampleBurst (h : u.sameShown old) (x : RawSample) : (u.sampleBurst x).sameShown old := h

theorem State.sameShown_self (s : State) : s.sameShown s := by simp [State.sameShown]

end

theorem State.periodicSample_eq (u : State) (x : RawSample) : u.periodicSample x = { u with
    inputs := { u.inputs with sense := x }
    sensing := { u.sensing with
      history := pushEntry u.sensing.history (u.entryOf x), sampleTimer := some 250 }
    transit := { u.transit with
      toProtection := u.transit.toProtection ++ [u.entryOf x]
      toContactors := u.transit.toContactors ++ [u.entryOf x] } } := by
  simp only [State.periodicSample, State.takeSample, State.onSensing, State.onInputs, State.onTransit]

/-- Before the eighth, a burst's sample is counted and summed, and the next is 250 µs away (R54). -/
theorem State.sampleBurst_early {u : State} (x : RawSample) (hcount : u.sensing.burstCount + 1 < 8) :
    u.sampleBurst x = { u with
      inputs := { u.inputs with sense := x }
      sensing := { u.sensing with
        history := pushEntry u.sensing.history (u.entryOf x)
        burstCount := u.sensing.burstCount + 1, burstSum := u.sensing.burstSum + (u.entryOf x).current
        burstSat := u.sensing.burstSat || (u.entryOf x).iSat, burstTimer := some 250 } } := by
  simp only [State.sampleBurst, State.takeSample, State.onSensing, State.onInputs, hcount, if_true]

section
variable {r : Nat} {x : RawSample} {s : State}

/-- A periodic sample joins the history and goes to both blocks, and the timer restarts (R46, R52). -/
theorem exec_sampleTimerExpiry (ht : s.taking) (htimer : s.sensing.sampleTimer = some r) :
    exec (.sampleTimerExpiry x) s = .next { s.elapse r with
      inputs := { (s.elapse r).inputs with sense := x }
      sensing := { (s.elapse r).sensing with
        history := pushEntry s.sensing.history ((s.elapse r).entryOf x), sampleTimer := some 250 }
      transit := { (s.elapse r).transit with
        toProtection := (s.elapse r).transit.toProtection ++ [(s.elapse r).entryOf x]
        toContactors := (s.elapse r).transit.toContactors ++ [(s.elapse r).entryOf x] } } := by
  rw [show exec (.sampleTimerExpiry x) s = execSampleTimerExpiry x s from rfl, execSampleTimerExpiry,
    State.event_taking _ ht, htimer, State.onExpiry_some,
    State.publish_of_sameShown ((s.elapse_sameShown r).periodicSample x), State.periodicSample_eq,
    State.elapse_history]

/-- A burst's request empties the history, and its first sample is the only entry (R54, R55). -/
theorem exec_burstRequest_patrol (ht : s.taking) (hp : s.sleep.power = .patrol) :
    exec (.burstRequest x) s = .next { s with
      inputs := { s.inputs with sense := x }
      sensing := { s.sensing with
        history := [s.entryOf x], burstCount := 1, burstSum := (s.entryOf x).current
        burstSat := (s.entryOf x).iSat, burstTimer := some 250 }
      cont := { s.cont with entry := none }
      transit := { s.transit with burst := false } } := by
  obtain ⟨v, hv⟩ : ∃ v, v = (s.onTransit fun t => { t with burst := false }).emptyHistory := ⟨_, rfl⟩
  have hshown : v.sameShown s := by
    rw [hv]
    exact (s.sameShown_self.onTransit _).emptyHistory
  have hempty : v.sensing.history = [] ∧ v.sensing.burstCount = 0 ∧ v.sensing.burstSum = 0 ∧
      v.sensing.burstSat = false ∧ v.entryOf x = s.entryOf x := by
    rw [hv]
    exact ⟨rfl, rfl, rfl, rfl, rfl⟩
  obtain ⟨hhistory, hcount, hsum, hsat, hentry⟩ := hempty
  rw [show exec (.burstRequest x) s = execBurstRequest x s from rfl, execBurstRequest, State.event_taking _ ht]
  dsimp only
  rw [if_pos (by exact hp), ← hv, State.publish_of_sameShown (hshown.sampleBurst x),
    State.sampleBurst_early x (by rw [hcount]; decide), hhistory, hcount, hsum, hsat, hentry, pushEntry_nil, zero_add,
    zero_add, Bool.false_or, hv]
  rfl

/-- Outside PATROL a burst's request goes, and nothing is sampled (R55). -/
theorem exec_burstRequest_dropped (ht : s.taking) (hp : s.sleep.power ≠ .patrol) :
    exec (.burstRequest x) s = .next { s with transit := { s.transit with burst := false } } := by
  rw [show exec (.burstRequest x) s = execBurstRequest x s from rfl, execBurstRequest, State.event_taking _ ht]
  dsimp only
  rw [if_neg (by exact hp), State.publish_of_sameShown (s.sameShown_self.onTransit _)]
  rfl

/-- Outside PATROL a burst's timer stops, and nothing is sampled (R55). -/
theorem exec_burstSample_dropped (ht : s.taking) (htimer : s.sensing.burstTimer = some r)
    (hp : s.sleep.power ≠ .patrol) : exec (.burstSample x) s = .next { s.elapse r with
      sensing := { (s.elapse r).sensing with burstTimer := none } } := by
  rw [show exec (.burstSample x) s = execBurstSample x s from rfl, execBurstSample, State.event_taking _ ht, htimer,
    State.onExpiry_some, if_neg (by rwa [State.elapse_sleep]),
    State.publish_of_sameShown ((s.elapse_sameShown r).onSensing _)]
  rfl

/-- In PATROL a burst's sample before the eighth joins the history and the sum (R54). -/
theorem exec_burstSample_early (ht : s.taking) (htimer : s.sensing.burstTimer = some r)
    (hp : s.sleep.power = .patrol) (hcount : s.sensing.burstCount + 1 < 8) :
    exec (.burstSample x) s = .next { s.elapse r with
      inputs := { (s.elapse r).inputs with sense := x }
      sensing := { (s.elapse r).sensing with
        history := pushEntry s.sensing.history ((s.elapse r).entryOf x)
        burstCount := s.sensing.burstCount + 1
        burstSum := s.sensing.burstSum + ((s.elapse r).entryOf x).current
        burstSat := s.sensing.burstSat || ((s.elapse r).entryOf x).iSat, burstTimer := some 250 } } := by
  obtain ⟨hn, hsum, hsat⟩ := s.elapse_burst r
  have hsample := State.sampleBurst_early (u := s.elapse r) x (by rwa [hn])
  have hruns : ¬ ((s.elapse r).sampleBurst x).sensing.burstTimer.isNone = true := by
    rw [hsample]
    exact Bool.false_ne_true
  rw [show exec (.burstSample x) s = execBurstSample x s from rfl, execBurstSample, State.event_taking _ ht, htimer,
    State.onExpiry_some, if_pos (by rwa [State.elapse_sleep]), State.nextBurstSample]
  dsimp only
  rw [if_neg hruns, State.publish_of_sameShown ((s.elapse_sameShown r).sampleBurst x), hsample, hn, hsum, hsat,
    State.elapse_history]

end

/-- Settles O48: each row by its own equation, the entry and the history written out. -/
theorem samplesEnterTheHistory : Obligations.SamplesEnterTheHistory := by
  intro r x s ht hb u current entry kept
  have hentry : u.entryOf x = entry u.clock.packTime := by rw [State.entryOf_eq, State.elapse_profile]
  have hpush : pushEntry s.sensing.history (u.entryOf x) = kept ++ [entry u.clock.packTime] := by
    rw [pushEntry_eq _ hb, hentry]
  refine ⟨fun htimer => ?_, fun hp => ?_, exec_burstRequest_dropped ht, exec_burstSample_dropped ht,
    fun htimer hp hcount => ?_⟩
  · rw [exec_sampleTimerExpiry ht htimer, hpush, hentry]
  · rw [exec_burstRequest_patrol ht hp, State.entryOf_eq]
  · rw [exec_burstSample_early ht htimer hp hcount, hpush, hentry]

end Sys2Proof.Machine

namespace Sys2Proof.Machine

open Sys2Proof

/-! ## The reset state -/

/-- A free buffer has no page, and no write-behind byte is held (R118, R136). -/
theorem State.reset_memoryOk : State.reset.memoryOk := by
  refine ⟨State.reset_memory_wf, Pool.pagesOk_iff.mpr fun n q hq => ?_, fun w hw => nomatch hw⟩
  have hfree : State.reset.pool.entry n = .reset := by
    simp only [State.reset, Pool.entry, Pool.reset, Vector.getElem?_replicate]
    split
    · rfl
    · split <;> rfl
  rw [hfree] at hq
  exact nomatch hq

/-- No session is open, and the Profile Store's slot is empty (R173). -/
theorem State.reset_sessionSound : State.reset.sessionSound := by
  refine ⟨?_, fun n h => nomatch h⟩
  rintro (h | h | h | h | ⟨n, h⟩) <;> exact nomatch h

/-- Every coil command is off, and no edge of the gate is on its way (R95). -/
theorem State.reset_gateOk : State.reset.gateOk := ⟨fun _ => List.not_mem_nil, fun _ _ => rfl, fun _ => rfl⟩

/-- Settles O8: each invariant by the blocks of the reset state that it reads. -/
theorem resetStateMeetsInvariants : Obligations.ResetStateMeetsInvariants := by
  have hburst : State.reset.burstInPatrol := by rintro (h | h) <;> exact absurd h (by decide)
  have hready : State.reset.commandReady := ⟨⟨rfl, rfl, by decide, rfl⟩, rfl⟩
  exact ⟨rfl, State.reset_memoryOk, Nat.zero_le 128, hburst, State.reset_sessionSound, State.reset_gateOk, rfl, hready⟩

end Sys2Proof.Machine

namespace Sys2Proof.Machine

open Sys2Proof

/-! ## Placing an instant in the history (R65, R66) -/

/-- A rounded quotient stays between two whole numbers that its quotient lies between. -/
theorem roundAway_between {n lo hi : Int} {d : Nat} (hd : 0 < d) (hlo : d * lo ≤ n) (hhi : n ≤ d * hi) :
    lo ≤ roundAway n d ∧ roundAway n d ≤ hi := by
  obtain ⟨hup, hdown, -, -⟩ := roundAway_nearest n hd
  have hpos : (0 : Int) < d := by exact_mod_cast hd
  constructor <;> by_contra hout
  · have := mul_le_mul_of_nonneg_left (show roundAway n d + 1 ≤ lo by omega) hpos.le
    rw [mul_add] at this
    omega
  · have := mul_le_mul_of_nonneg_left (show hi + 1 ≤ roundAway n d by omega) hpos.le
    rw [mul_add] at this
    omega

/-- An interpolated value lies between the two it is taken from (R66). -/
theorem interpolate_between {ia ib : Int} {ageA ageB g : Nat} (hb : ageB < g) (ha : g < ageA) :
    min ia ib ≤ interpolate ia ib ageA ageB g ∧ interpolate ia ib ageA ageB g ≤ max ia ib := by
  have hspan : 0 < ageA - ageB := by omega
  have hpart : ((ageA - g : Nat) : Int) ≤ ((ageA - ageB : Nat) : Int) := by omega
  have hpart0 : (0 : Int) ≤ ((ageA - g : Nat) : Int) := by omega
  rw [interpolate]
  generalize ageA - g = w at hpart hpart0
  generalize ageA - ageB = d at hspan hpart
  rcases le_total ia ib with h | h
  · have := roundAway_between (n := (ib - ia) * w) (lo := 0) (hi := ib - ia) hspan (by nlinarith) (by nlinarith)
    omega
  · have := roundAway_between (n := (ib - ia) * w) (lo := ib - ia) (hi := 0) hspan (by nlinarith) (by nlinarith)
    omega

section
variable (reference : Word) (value : HistoryEntry → Int) (g : Nat)

/-- A search of a history that is not empty finds a value between two of its values. -/
theorem bracket_between {l : List HistoryEntry} (h : l ≠ []) : ∃ lo ∈ l, ∃ hi ∈ l,
    value lo ≤ (bracket reference value g l).value ∧ (bracket reference value g l).value ≤ value hi := by
  induction l using bracket.induct reference g with
  | case1 => exact absurd rfl h
  | case2 a => exact ⟨a, by simp, a, by simp, le_rfl, le_rfl⟩
  | case3 a b rest hat =>
    rw [bracket, if_pos hat]
    exact ⟨a, by simp, a, by simp, le_rfl, le_rfl⟩
  | case4 a b rest hne hin =>
    rw [bracket, if_neg hne, if_pos hin]
    obtain ⟨hlo, hhi⟩ := interpolate_between (ia := value a) (ib := value b) hin.2 hin.1
    rcases le_total (value a) (value b) with hab | hab
    · rw [min_eq_left hab] at hlo
      rw [max_eq_right hab] at hhi
      exact ⟨a, by simp, b, by simp, hlo, hhi⟩
    · rw [min_eq_right hab] at hlo
      rw [max_eq_left hab] at hhi
      exact ⟨b, by simp, a, by simp, hlo, hhi⟩
  | case5 a b rest hne hout ih =>
    rw [bracket, if_neg hne, if_neg hout]
    obtain ⟨lo, hlo, hi, hhi, hbetween⟩ := ih (by simp)
    exact ⟨lo, List.mem_cons_of_mem _ hlo, hi, List.mem_cons_of_mem _ hhi, hbetween⟩

/-- A search of a history that is not empty does not report it empty. -/
theorem bracket_empty {l : List HistoryEntry} (h : l ≠ []) : (bracket reference value g l).empty = false := by
  induction l using bracket.induct reference g with
  | case1 => exact absurd rfl h
  | case2 a => rfl
  | case3 a b rest hat => rw [bracket, if_pos hat]
  | case4 a b rest hne hin => rw [bracket, if_neg hne, if_pos hin]
  | case5 a b rest hne hout ih =>
    rw [bracket, if_neg hne, if_neg hout]
    exact ih (by simp)

variable {reference value g}

/-- The search passes over an entry above whose age, and above the next one's, the wanted age does not lie. -/
theorem bracket_skip {a b : HistoryEntry} {rest : List HistoryEntry} (ha : g < age reference a.tag)
    (hb : g ≤ age reference b.tag) :
    bracket reference value g (a :: b :: rest) = bracket reference value g (b :: rest) := by
  rw [bracket, if_neg (Nat.ne_of_lt ha), if_neg (by omega)]

/-- Where the ages fall, an entry of the wanted age gives its own value (R65). -/
theorem bracket_at {l : List HistoryEntry} {e : HistoryEntry}
    (hl : l.Pairwise fun a b => age reference b.tag < age reference a.tag) (he : e ∈ l)
    (hage : age reference e.tag = g) : bracket reference value g l = ⟨value e, false, false, false, [e]⟩ := by
  induction l with
  | nil => exact nomatch he
  | cons a rest ih =>
    obtain ⟨hfirst, hrest⟩ := List.pairwise_cons.mp hl
    rcases List.mem_cons.mp he with rfl | he
    · cases rest with
      | nil => rfl
      | cons b rest => rw [bracket, if_pos hage.symm]
    · cases rest with
      | nil => exact nomatch he
      | cons b rest =>
        have hnext : g ≤ age reference b.tag := by
          rcases List.mem_cons.mp he with rfl | hlater
          · exact hage.ge
          · have := (List.pairwise_cons.mp hrest).1 e hlater
            omega
        rw [bracket_skip (hage ▸ hfirst e he) hnext, ih hrest he]

/-- Where the ages fall, an age between those of two neighbours gives the interpolated value (R66). -/
theorem bracket_inside {pre post : List HistoryEntry} {a b : HistoryEntry}
    (hl : (pre ++ a :: b :: post).Pairwise fun a b => age reference b.tag < age reference a.tag)
    (hb : age reference b.tag < g) (ha : g < age reference a.tag) :
    bracket reference value g (pre ++ a :: b :: post) =
      ⟨interpolate (value a) (value b) (age reference a.tag) (age reference b.tag) g, false, false, false, [a, b]⟩ := by
  induction pre with
  | nil => rw [List.nil_append, bracket, if_neg (Nat.ne_of_lt ha), if_pos ⟨ha, hb⟩]
  | cons x pre ih =>
    obtain ⟨hfirst, hrest⟩ := List.pairwise_cons.mp hl
    have hx : g < age reference x.tag := lt_trans ha (hfirst a (by simp))
    rw [← ih hrest]
    cases pre with
    | nil => exact bracket_skip hx ha.le
    | cons y pre =>
      have hy := (List.pairwise_cons.mp hrest).1 a (by simp)
      exact bracket_skip hx (lt_trans ha hy).le

end

section
variable {view : List HistoryEntry} {oldest newest : HistoryEntry}

/-- R65's first test that applies, in a view with an oldest and a newest entry. -/
theorem place_of_ends (value : HistoryEntry → Int) (ts : Word) (ho : view.head? = some oldest)
    (hn : view.getLast? = some newest) : place view value ts =
      if 1 ≤ age ts newest.tag ∧ age ts newest.tag < 2 ^ 31 then ⟨value newest, true, false, false, [newest]⟩
      else if age newest.tag oldest.tag < age newest.tag ts then ⟨value oldest, false, true, false, [oldest]⟩
      else bracket newest.tag value (age newest.tag ts) view := by
  obtain ⟨rest, rfl⟩ := List.head?_eq_some_iff.mp ho
  simp only [place, hn]

/-- A view that is not empty has an oldest and a newest entry. -/
theorem exists_ends (h : view ≠ []) : ∃ oldest newest, view.head? = some oldest ∧ view.getLast? = some newest :=
  ⟨_, _, List.head?_eq_some_head h, List.getLast?_eq_some_getLast h⟩

/-- A view is reported empty where it is. -/
theorem place_empty (view : List HistoryEntry) (value : HistoryEntry → Int) (ts : Word) :
    (place view value ts).empty = view.isEmpty := by
  by_cases h : view = []
  · subst h
    rfl
  · obtain ⟨oldest, newest, ho, hn⟩ := exists_ends h
    rw [place_of_ends value ts ho hn, List.isEmpty_eq_false_iff.mpr h]
    split
    · rfl
    · split
      · rfl
      · exact bracket_empty _ _ _ h

/-- A placed value lies between two values of the view. -/
theorem place_between (value : HistoryEntry → Int) (ts : Word) (h : view ≠ []) : ∃ lo ∈ view, ∃ hi ∈ view,
    value lo ≤ (place view value ts).value ∧ (place view value ts).value ≤ value hi := by
  obtain ⟨oldest, newest, ho, hn⟩ := exists_ends h
  have hoMem := List.mem_of_head? ho
  have hnMem := List.mem_of_getLast? hn
  rw [place_of_ends value ts ho hn]
  split
  · exact ⟨newest, hnMem, newest, hnMem, le_rfl, le_rfl⟩
  · split
    · exact ⟨oldest, hoMem, oldest, hoMem, le_rfl, le_rfl⟩
    · exact bracket_between _ _ _ h

end

/-! ## The stages of a node slot (R62 to R64, R67) -/

theorem clamp16_fst (v : Int) : ((clamp16 v).1 : Int) = max 0 (min 65535 v) := by
  unfold clamp16
  split
  · omega
  · split <;> omega

theorem clamp16_snd (v : Int) : (clamp16 v).2 = true ↔ v < 0 ∨ 65535 < v := by
  unfold clamp16
  split
  · simp [*]
  · split <;> simp [*]

theorem mem_mapIdx_iff {α β : Type} {f : Nat → α → β} {l : List α} {b : β} :
    b ∈ l.mapIdx f ↔ ∃ i a, l[i]? = some a ∧ f i a = b := by
  simp only [List.mem_iff_getElem?, List.getElem?_mapIdx, Option.map_eq_some_iff]

/-- A list of bounded values, one for each of a list: the values, and whether one of them had to be bounded. -/
theorem clamped_mapIdx {α : Type} (l : List α) (v : Nat → α → Int) :
    (let c := l.mapIdx fun i a => clamp16 (v i a)
     (c.map (·.1)).length = l.length ∧
     (∀ i a, l[i]? = some a → ((c.map (·.1))[i]?).map Int.ofNat = some (max 0 (min 65535 (v i a)))) ∧
     (c.any (·.2) = true ↔ ∃ i a, l[i]? = some a ∧ (v i a < 0 ∨ 65535 < v i a))) := by
  refine ⟨by simp, fun i a h => ?_, ?_⟩
  · simp only [List.getElem?_map, List.getElem?_mapIdx, h, Option.map_some]
    exact congrArg some (clamp16_fst _)
  · simp only [List.any_eq_true, mem_mapIdx_iff]
    constructor
    · rintro ⟨_, ⟨i, a, h, rfl⟩, hsat⟩
      exact ⟨i, a, h, (clamp16_snd _).mp hsat⟩
    · rintro ⟨i, a, h, hout⟩
      exact ⟨_, ⟨i, a, h, rfl⟩, (clamp16_snd _).mpr hout⟩

/-- Vc of each code of a slot with its saturation mark (R63). -/
def NodeSlot.calibrated (x : NodeSlot) (p : Profile) (n : Nat) : List (Nat × Bool) :=
  x.codes.map (calibrateCell (p.gain n) (p.offset n))

/-- Vcomp of each code of a slot with its saturation mark (R67). -/
def NodeSlot.compensated (x : NodeSlot) (p : Profile) (n : Nat) (current : Int) : List (Nat × Bool) :=
  (x.calibrated p n).mapIdx fun i v => compensate v.1 current (p.resistance n (i + 1))

section
variable (x : NodeSlot) (p : Profile) (n : Nat)

/-- Each Vc, and the mark VC_SAT (R63). -/
theorem NodeSlot.calibrated_shows :
    (let unbounded (raw : Nat) : Int := raw + p.offset n + roundAway (raw * p.gain n) 1000000
     ((x.calibrated p n).map (·.1)).length = x.codes.length ∧
     (∀ (i raw : Nat), x.codes[i]? = some raw →
       (((x.calibrated p n).map (·.1))[i]?).map Int.ofNat = some (max 0 (min 65535 (unbounded raw)))) ∧
     ((x.calibrated p n).any (·.2) = true ↔ ∃ raw ∈ x.codes, unbounded raw < 0 ∨ 65535 < unbounded raw)) := by
  refine ⟨by simp [NodeSlot.calibrated], fun i raw h => ?_, ?_⟩
  · simp only [NodeSlot.calibrated, List.getElem?_map, h, Option.map_some]
    exact congrArg some (clamp16_fst _)
  · simp only [NodeSlot.calibrated, List.any_map, List.any_eq_true]
    exact exists_congr fun raw => and_congr_right fun _ => clamp16_snd _

/-- Each Vcomp, and the mark VCOMP_SAT (R67). -/
theorem NodeSlot.compensated_shows (current : Int) :
    (let vc (raw : Nat) : Int :=
       max 0 (min 65535 (raw + p.offset n + roundAway (raw * p.gain n) 1000000))
     let uncomped (channel raw : Nat) : Int := vc raw + roundAway (current * p.resistance n channel) 100000
     ((x.compensated p n current).map (·.1)).length = x.codes.length ∧
     (∀ (i raw : Nat), x.codes[i]? = some raw → (((x.compensated p n current).map (·.1))[i]?).map Int.ofNat =
       some (max 0 (min 65535 (uncomped (i + 1) raw)))) ∧
     ((x.compensated p n current).any (·.2) = true ↔ ∃ i raw, x.codes[i]? = some raw ∧
       (uncomped (i + 1) raw < 0 ∨ 65535 < uncomped (i + 1) raw))) := by
  intro vc uncomped
  have hform : x.compensated p n current = x.codes.mapIdx fun i raw => clamp16 (uncomped (i + 1) raw) := by
    refine List.ext_getElem? fun i => ?_
    simp only [NodeSlot.compensated, NodeSlot.calibrated, List.getElem?_mapIdx, List.getElem?_map, Option.map_map]
    refine congrFun (congrArg Option.map (funext fun raw => ?_)) _
    have hvc : ((calibrateCell (p.gain n) (p.offset n) raw).1 : Int) = vc raw := clamp16_fst _
    simp only [Function.comp_apply, compensate, hvc, uncomped]
  rw [hform]
  exact clamped_mapIdx x.codes fun i raw => uncomped (i + 1) raw

variable {x}
variable {state : NodeState} (view : List HistoryEntry)

/-- The rows of R62 that clear the computed fields. -/
theorem NodeSlot.evaluate_cleared (h : state = .absent ∨ x.cellMark = .failed ∨ x.cellMark = .notGathered ∨
    x.cellMark = .stale ∧ x.codes = []) : x.evaluate p n state view = x.clearComputed := by
  by_cases habsent : state = .absent
  · rw [NodeSlot.evaluate, if_pos habsent]
  · rw [NodeSlot.evaluate, if_neg habsent]
    rcases h with h | h | h | ⟨h, hcodes⟩
    · exact absurd h habsent
    · simp only [h]
    · simp only [h]
    · simp only [h, hcodes, if_true]

/-- The rows of R62 that give Stage 1 alone. -/
theorem NodeSlot.evaluate_untimed (hstate : state ≠ .absent) (h : x.cellMark = .stale ∧ x.codes ≠ [] ∨
    x.cellMark = .good ∧ ∀ c, x.capture = some c → c.issue = none) :
    x.evaluate p n state view = x.untimed (x.calibrated p n) := by
  rw [NodeSlot.evaluate, if_neg hstate]
  rcases h with ⟨h, hcodes⟩ | ⟨h, hissue⟩
  · simp only [h, if_neg hcodes]
    rfl
  · cases hc : x.capture with
    | none =>
      simp only [h]
      rfl
    | some c =>
      simp only [h, hissue c hc]
      rfl

/-- The row of R62 that gives Stages 1 to 4. -/
theorem NodeSlot.evaluate_timed {c : Capture} {issue : Word} (hstate : state ≠ .absent) (h : x.cellMark = .good)
    (hc : x.capture = some c) (hissue : c.issue = some issue) :
    x.evaluate p n state view = x.timed p n (x.calibrated p n) c issue view := by
  rw [NodeSlot.evaluate, if_neg hstate]
  simp only [h, hc, hissue]
  rfl

end

/-! ## The evaluation and its hand-over (R61, R68, R72) -/

/-- The Frame Table's slots after an evaluation. -/
def State.evaluatedTable (s : State) : FrameTable := { s.table with
  slots := s.table.slots.mapIdx fun i x =>
    x.evaluate s.profile (i + 1) (s.chain.node (i + 1)).state s.sensing.history }

theorem State.evaluate_slot (s : State) (patrol : Bool) (n : Nat) :
    (s.evaluate patrol).1.slot n = s.evaluatedTable.slot n := rfl

/-- An evaluation applies the stages to every slot (R61). -/
theorem State.evaluatedTable_slot (s : State) {n : Nat} (h1 : 1 ≤ n) (h20 : n ≤ 20) : s.evaluatedTable.slot n =
    (s.table.slot n).evaluate s.profile n (s.chain.node n).state s.sensing.history := by
  have h0 : n ≠ 0 := by omega
  have hlt : n - 1 < 20 := by omega
  have hn : n - 1 + 1 = n := by omega
  simp [FrameTable.slot, State.evaluatedTable, h0, hlt, hn]

theorem mem_allNodes {n : Nat} : n ∈ allNodes ↔ 1 ≤ n ∧ n ≤ 20 := by
  rw [allNodes, List.mem_range'_1]
  omega

theorem contributes_iff {state : NodeState} : contributes state = true ↔ state = .present ∨ state = .degraded := by
  simp [contributes]

/-- The valid cells of a node: GOOD ones of a node that is PRESENT or DEGRADED, by their channels (R68). -/
theorem mem_validCells {e : NodeEntry} {x : NodeSlot} {channel vc vcomp : Nat} :
    (channel, vc, vcomp) ∈ validCells e x ↔ (e.state = .present ∨ e.state = .degraded) ∧ x.cellMark = .good ∧
      1 ≤ channel ∧ channel ≤ e.cells ∧ x.vc[channel - 1]? = some vc ∧ x.vcomp[channel - 1]? = some vcomp := by
  unfold validCells
  split
  · next hgood =>
    rw [Bool.and_eq_true, contributes_iff, beq_iff_eq] at hgood
    simp only [hgood, true_and, List.mem_filter, decide_eq_true_eq, mem_mapIdx_iff, List.getElem?_zip_eq_some,
      Prod.mk.injEq]
    constructor
    · rintro ⟨⟨i, ⟨v, w⟩, ⟨hv, hw⟩, rfl, rfl, rfl⟩, hcells⟩
      exact ⟨Nat.succ_pos i, hcells, hv, hw⟩
    · rintro ⟨hpos, hcells, hv, hw⟩
      exact ⟨⟨channel - 1, (vc, vcomp), ⟨hv, hw⟩, by omega, rfl, rfl⟩, hcells⟩
  · next hbad =>
    rw [Bool.and_eq_true, contributes_iff, beq_iff_eq] at hbad
    simp only [List.not_mem_nil, false_iff]
    exact fun ⟨hstate, hmark, _⟩ => hbad ⟨hstate, hmark⟩

/-- The nodes that contributed are those with a valid cell (R72). -/
theorem State.mem_contributed (s : State) (patrol : Bool) (n : Nat) : n ∈ (s.evaluate patrol).2.contributed ↔
    (1 ≤ n ∧ n ≤ 20) ∧ validCells (s.chain.node n) (s.evaluatedTable.slot n) ≠ [] := by
  have hform : (s.evaluate patrol).2.contributed =
      allNodes.filter fun n => !(validCells (s.chain.node n) (s.evaluatedTable.slot n)).isEmpty := rfl
  rw [hform, List.mem_filter, mem_allNodes]
  simp

theorem State.evaluate_patrol (s : State) :
    (s.evaluate true).2.outcome = .notEvaluated ∧ (s.evaluate true).2.reason = .patrol := ⟨rfl, rfl⟩

/-- Settles O46: the rows of R62 by the three equations of a slot, a placed value by R65's tests in their order, and the
hand-over field by field. -/
theorem cellsAreCalibratedPlacedAndCompensated : Obligations.CellsAreCalibratedPlacedAndCompensated := by
  refine ⟨fun x p n state view => ⟨fun h => ?_, fun hstate h => ?_, fun c issue hstate hgood hc hissue => ?_⟩,
    fun view value ts => ⟨fun h => ?_, fun oldest newest ho hn => ⟨fun hahead => ?_, fun hahead haged => ?_,
      fun hahead haged hages => ⟨fun e he hage => ?_, fun pre a b post hview hb ha => ?_⟩, ?_⟩⟩,
    fun s patrol => ⟨fun n h1 h20 => ?_, rfl, rfl, rfl, rfl, rfl, rfl, rfl, fun m hm => ?_, ?_⟩⟩
  · exact NodeSlot.evaluate_cleared p n view h
  · rw [NodeSlot.evaluate_untimed p n view hstate h]
    exact ⟨x.calibrated_shows p n, rfl⟩
  · rw [NodeSlot.evaluate_timed p n view hstate hgood hc hissue, ← place_empty view HistoryEntry.current
      (issue + BitVec.ofNat 32 (c.hops * p.hopDelay + c.offset))]
    obtain ⟨hlength, hvcomp, hsat⟩ := x.compensated_shows p n
      (place view HistoryEntry.current (issue + BitVec.ofNat 32 (c.hops * p.hopDelay + c.offset))).value
    exact ⟨x.calibrated_shows p n, hlength, hvcomp, hsat, List.any_eq_true, rfl⟩
  · rw [h]
    rfl
  · rw [place_of_ends value ts ho hn, if_pos hahead]
  · rw [place_of_ends value ts ho hn, if_neg hahead, if_pos haged]
  · rw [place_of_ends value ts ho hn, if_neg hahead, if_neg (not_lt.mpr haged), bracket_at hages he hage]
  · rw [place_of_ends value ts ho hn, if_neg hahead, if_neg (not_lt.mpr haged), hview,
      bracket_inside (hview ▸ hages) hb ha]
    rfl
  · exact place_between value ts fun h => by simp [h] at ho
  · rw [State.evaluate_slot, s.evaluatedTable_slot h1 h20]
  · obtain ⟨-, hcells⟩ := (s.mem_contributed patrol m).mp hm
    obtain ⟨⟨channel, vc, vcomp⟩, hmem⟩ := List.exists_mem_of_ne_nil _ hcells
    obtain ⟨hstate, -⟩ := mem_validCells.mp hmem
    exact hstate
  · rintro rfl
    exact s.evaluate_patrol

end Sys2Proof.Machine

namespace Sys2Proof.Machine

open Sys2Proof

/-! ## The valid cells and sensors in their order (R68) -/

/-- The valid sensors of a node: those of a GOOD block that are not absent, by their channels (R68). -/
theorem mem_validTemps {e : NodeEntry} {x : NodeSlot} {channel : Nat} {value : Int} :
    (channel, value) ∈ validTemps e x ↔ (e.state = .present ∨ e.state = .degraded) ∧ x.tempMark = .good ∧
      1 ≤ channel ∧ channel ≤ e.temps ∧
      ∃ w : Half, x.temps[channel - 1]? = some w ∧ w ≠ 0x8000 ∧ value = w.toInt := by
  unfold validTemps
  split
  · next hgood =>
    rw [Bool.and_eq_true, contributes_iff, beq_iff_eq] at hgood
    simp only [hgood, true_and, List.mem_map, List.mem_filter, Bool.and_eq_true, decide_eq_true_eq, bne_iff_ne,
      mem_mapIdx_iff, Prod.mk.injEq]
    constructor
    · rintro ⟨_, ⟨⟨i, w, hw, rfl⟩, hsensors, habsent⟩, rfl, rfl⟩
      exact ⟨Nat.succ_pos i, hsensors, w, hw, habsent, rfl⟩
    · rintro ⟨hpos, hsensors, w, hw, habsent, rfl⟩
      exact ⟨(channel, w), ⟨⟨channel - 1, w, hw, by rw [Nat.sub_add_cancel hpos]⟩, hsensors, habsent⟩, rfl, rfl⟩
  · next hbad =>
    rw [Bool.and_eq_true, contributes_iff, beq_iff_eq] at hbad
    simp only [List.not_mem_nil, false_iff]
    exact fun ⟨hstate, hmark, _⟩ => hbad ⟨hstate, hmark⟩

/-- Values numbered along a list have rising numbers. -/
theorem pairwise_numbered {α β : Type} (l : List α) (f : α → β) :
    (l.mapIdx fun i a => (i + 1, f a)).Pairwise fun x y => x.1 < y.1 := by
  rw [List.pairwise_iff_getElem]
  intro i j hi hj hij
  simpa using hij

theorem validCells_rising (e : NodeEntry) (x : NodeSlot) : (validCells e x).Pairwise fun x y => x.1 < y.1 := by
  unfold validCells
  split
  · exact (pairwise_numbered _ _).filter _
  · exact List.Pairwise.nil

theorem validTemps_rising (e : NodeEntry) (x : NodeSlot) : (validTemps e x).Pairwise fun x y => x.1 < y.1 := by
  unfold validTemps
  split
  · exact List.pairwise_map.mpr ((pairwise_numbered x.temps id).filter _)
  · exact List.Pairwise.nil

/-- What the nodes give in turn, each in ascending order of channel, stands in ascending order of node and channel. -/
theorem pairwise_nodes {α β : Type} {node channel : β → Nat} {f : Nat → List α} {g : Nat → α → β}
    (hnode : ∀ n a, node (g n a) = n)
    (hrising : ∀ n, (f n).Pairwise fun a b => channel (g n a) < channel (g n b)) :
    ((allNodes.map fun n => (f n).map (g n)).flatten).Pairwise fun x y =>
      node x < node y ∨ node x = node y ∧ channel x < channel y := by
  rw [List.pairwise_flatten, List.forall_mem_map, List.pairwise_map]
  refine ⟨fun n _ => List.pairwise_map.mpr ((hrising n).imp fun h => .inr ⟨by rw [hnode, hnode], h⟩), ?_⟩
  refine (List.pairwise_lt_range' (s := 1) (n := 20)).imp fun hlt => ?_
  simp only [List.forall_mem_map]
  exact fun a _ b _ => .inl (by rwa [hnode, hnode])

theorem mem_nodes {α β : Type} {f : Nat → List α} {g : Nat → α → β} {x : β} :
    x ∈ (allNodes.map fun n => (f n).map (g n)).flatten ↔ ∃ n, (1 ≤ n ∧ n ≤ 20) ∧ ∃ a ∈ f n, g n a = x := by
  rw [← List.flatMap_def, List.mem_flatMap]
  simp only [mem_allNodes, List.mem_map]

/-- The valid cells of an evaluation (R68). -/
def State.evaluatedCells (s : State) : List ValidCell :=
  (allNodes.map fun n => (validCells (s.chain.node n) (s.evaluatedTable.slot n)).map fun v =>
    (⟨n, v.1, v.2.1, v.2.2⟩ : ValidCell)).flatten

/-- The valid sensors of an evaluation (R68). -/
def State.evaluatedTemps (s : State) : List Extreme :=
  (allNodes.map fun n => (validTemps (s.chain.node n) (s.evaluatedTable.slot n)).map fun v =>
    (⟨v.2, n, v.1⟩ : Extreme)).flatten

section
variable (s : State)

theorem State.evaluate_figures (patrol : Bool) :
    (let a := (s.evaluate patrol).2
     let pl := plausibility s.profile patrol s.evaluatedCells s.table.issueA s.sensing.history
     a.validCells = s.evaluatedCells.length ∧ a.cells = cellFigures s.evaluatedCells ∧
     a.temps = tempFigures s.evaluatedTemps ∧ a.outcome = pl.outcome ∧ a.reason = pl.reason ∧
     a.packMv = pl.packMv ∧ a.cellMv = pl.cellMv ∧ a.packAhead = pl.ahead ∧ a.packAged = pl.aged) :=
  ⟨rfl, rfl, rfl, rfl, rfl, rfl, rfl, rfl, rfl⟩

theorem State.evaluatedCells_order : s.evaluatedCells.Pairwise fun x y =>
    x.node < y.node ∨ x.node = y.node ∧ x.channel < y.channel :=
  pairwise_nodes (fun _ _ => rfl) fun _ => validCells_rising _ _

theorem State.evaluatedTemps_order : s.evaluatedTemps.Pairwise fun x y =>
    x.node < y.node ∨ x.node = y.node ∧ x.channel < y.channel :=
  pairwise_nodes (fun _ _ => rfl) fun _ => validTemps_rising _ _

theorem State.mem_evaluatedCells_iff_validCells {x : ValidCell} : x ∈ s.evaluatedCells ↔ (1 ≤ x.node ∧ x.node ≤ 20) ∧
    (x.channel, x.vc, x.vcomp) ∈ validCells (s.chain.node x.node) (s.evaluatedTable.slot x.node) := by
  rw [State.evaluatedCells, mem_nodes]
  constructor
  · rintro ⟨n, hn, v, hv, rfl⟩
    exact ⟨hn, hv⟩
  · rintro ⟨hn, hx⟩
    exact ⟨x.node, hn, _, hx, rfl⟩

theorem State.mem_evaluatedCells {x : ValidCell} : x ∈ s.evaluatedCells ↔ (1 ≤ x.node ∧ x.node ≤ 20 ∧
    ((s.chain.node x.node).state = .present ∨ (s.chain.node x.node).state = .degraded)) ∧
    (s.evaluatedTable.slot x.node).cellMark = .good ∧ 1 ≤ x.channel ∧ x.channel ≤ (s.chain.node x.node).cells ∧
    (s.evaluatedTable.slot x.node).vc[x.channel - 1]? = some x.vc ∧
    (s.evaluatedTable.slot x.node).vcomp[x.channel - 1]? = some x.vcomp := by
  rw [s.mem_evaluatedCells_iff_validCells, mem_validCells]
  simp only [and_assoc]

theorem State.mem_evaluatedTemps {x : Extreme} : x ∈ s.evaluatedTemps ↔ (1 ≤ x.node ∧ x.node ≤ 20 ∧
    ((s.chain.node x.node).state = .present ∨ (s.chain.node x.node).state = .degraded)) ∧
    (s.evaluatedTable.slot x.node).tempMark = .good ∧ 1 ≤ x.channel ∧ x.channel ≤ (s.chain.node x.node).temps ∧
    ∃ w : Half, (s.evaluatedTable.slot x.node).temps[x.channel - 1]? = some w ∧ w ≠ 0x8000 ∧ x.value = w.toInt := by
  have hmem : x ∈ s.evaluatedTemps ↔ (1 ≤ x.node ∧ x.node ≤ 20) ∧
      (x.channel, x.value) ∈ validTemps (s.chain.node x.node) (s.evaluatedTable.slot x.node) := by
    rw [State.evaluatedTemps, mem_nodes]
    constructor
    · rintro ⟨n, hn, v, hv, rfl⟩
      exact ⟨hn, hv⟩
    · rintro ⟨hn, hx⟩
      exact ⟨x.node, hn, _, hx, rfl⟩
  rw [hmem, mem_validTemps]
  simp only [and_assoc]

/-- The nodes that contributed are those of the valid cells (R72). -/
theorem State.mem_contributed_iff_cell (patrol : Bool) (n : Nat) :
    n ∈ (s.evaluate patrol).2.contributed ↔ ∃ x ∈ s.evaluatedCells, x.node = n := by
  rw [State.mem_contributed]
  constructor
  · rintro ⟨hn, hcells⟩
    obtain ⟨⟨channel, vc, vcomp⟩, hmem⟩ := List.exists_mem_of_ne_nil _ hcells
    exact ⟨⟨n, channel, vc, vcomp⟩, s.mem_evaluatedCells_iff_validCells.mpr ⟨hn, hmem⟩, rfl⟩
  · rintro ⟨x, hx, rfl⟩
    obtain ⟨hn, hmem⟩ := s.mem_evaluatedCells_iff_validCells.mp hx
    exact ⟨hn, List.ne_nil_of_mem hmem⟩

end

/-! ## The aggregates (R69, R70) -/

/-- The better of two by a key, the first where they are equal. -/
def Extreme.least (key : Extreme → Int) (best x : Extreme) : Extreme := if key x < key best then x else best

/-- Taking the better of two along a list finds the first of the least. -/
theorem foldl_least (key : Extreme → Int) (t : Extreme) (rest : List Extreme) : ∃ before after,
    t :: rest = before ++ rest.foldl (Extreme.least key) t :: after ∧
    (∀ y ∈ before, key (rest.foldl (Extreme.least key) t) < key y) ∧
    ∀ y ∈ after, key (rest.foldl (Extreme.least key) t) ≤ key y := by
  induction rest generalizing t with
  | nil => exact ⟨[], [], rfl, nofun, nofun⟩
  | cons y rest ih =>
    obtain ⟨before, after, hsplit, hbefore, hafter⟩ := ih (Extreme.least key t y)
    rw [List.foldl_cons]
    generalize rest.foldl (Extreme.least key) (Extreme.least key t y) = m at hsplit hbefore hafter ⊢
    by_cases hlt : key y < key t
    · -- The new element is better: what stood first falls behind it.
      rw [Extreme.least, if_pos hlt] at hsplit
      have hm : key m ≤ key y := by
        have hmem : y ∈ before ++ m :: after := hsplit ▸ List.mem_cons_self
        rcases List.mem_append.mp hmem with h | h
        · exact (hbefore y h).le
        · rcases List.mem_cons.mp h with rfl | h
          · exact le_rfl
          · exact hafter y h
      exact ⟨t :: before, after, by rw [hsplit]; rfl,
        List.forall_mem_cons.mpr ⟨lt_of_le_of_lt hm hlt, hbefore⟩, hafter⟩
    · -- The first stays: the new element falls in behind it.
      rw [Extreme.least, if_neg hlt] at hsplit
      cases before with
      | nil =>
        obtain ⟨rfl, rfl⟩ := List.cons.inj hsplit
        exact ⟨[], y :: rest, rfl, nofun, List.forall_mem_cons.mpr ⟨not_lt.mp hlt, hafter⟩⟩
      | cons b before =>
        obtain ⟨rfl, hrest⟩ := List.cons.inj hsplit
        obtain ⟨hfirst, hbefore⟩ := List.forall_mem_cons.mp hbefore
        exact ⟨t :: y :: before, after, by rw [hrest]; rfl, List.forall_mem_cons.mpr ⟨hfirst,
          List.forall_mem_cons.mpr ⟨lt_of_lt_of_le hfirst (not_lt.mp hlt), hbefore⟩⟩, hafter⟩

theorem firstLowest_foldl (t : Extreme) (rest : List Extreme) :
    FirstLowest (t :: rest) (rest.foldl Extreme.lower t) := foldl_least (·.value) t rest

theorem firstHighest_foldl (t : Extreme) (rest : List Extreme) :
    FirstHighest (t :: rest) (rest.foldl Extreme.higher t) := by
  have hhigher : Extreme.higher = Extreme.least fun x => -x.value := by
    funext best x
    simp only [Extreme.higher, Extreme.least, neg_lt_neg_iff]
  obtain ⟨before, after, hsplit, hbefore, hafter⟩ := foldl_least (fun x => -x.value) t rest
  rw [← hhigher] at hsplit hbefore hafter
  exact ⟨before, after, hsplit, fun y hy => neg_lt_neg_iff.mp (hbefore y hy),
    fun y hy => neg_le_neg_iff.mp (hafter y hy)⟩

theorem FirstLowest.mem {l : List Extreme} {x : Extreme} (h : FirstLowest l x) : x ∈ l := by
  obtain ⟨before, after, rfl, -, -⟩ := h
  simp

theorem FirstHighest.le {l : List Extreme} {x y : Extreme} (h : FirstHighest l x) (hy : y ∈ l) :
    y.value ≤ x.value := by
  obtain ⟨before, after, rfl, hbefore, hafter⟩ := h
  rcases List.mem_append.mp hy with hy | hy
  · exact (hbefore y hy).le
  · rcases List.mem_cons.mp hy with rfl | hy
    · exact le_rfl
    · exact hafter y hy

theorem cellFigures_eq_none {cells : List ValidCell} : cellFigures cells = none ↔ cells = [] := by
  cases cells <;> simp [cellFigures]

theorem tempFigures_eq_none {sensors : List Extreme} : tempFigures sensors = none ↔ sensors = [] := by
  cases sensors <;> simp [tempFigures]

/-- The cell aggregates (R69). -/
theorem cellFigures_shows {cells : List ValidCell} {f : CellFigures} (h : cellFigures cells = some f) :
    FirstLowest (cells.map fun x => ⟨x.vcomp, x.node, x.channel⟩) f.minVcomp ∧
    FirstHighest (cells.map fun x => ⟨x.vcomp, x.node, x.channel⟩) f.maxVcomp ∧
    FirstLowest (cells.map fun x => ⟨x.vc, x.node, x.channel⟩) f.minVc ∧
    FirstHighest (cells.map fun x => ⟨x.vc, x.node, x.channel⟩) f.maxVc ∧ f.sumVc = (cells.map (·.vc)).sum ∧
    f.meanVcomp = (2 * (cells.map (·.vcomp)).sum + cells.length) / (2 * cells.length) ∧
    (f.imbalance : Int) = f.maxVcomp.value - f.minVcomp.value := by
  cases cells with
  | nil => exact nomatch h
  | cons c rest =>
    have hlow : FirstLowest ((c :: rest).map fun x => ⟨x.vcomp, x.node, x.channel⟩) f.minVcomp := by
      rw [← Option.some.inj h]
      exact firstLowest_foldl _ _
    have hhigh : FirstHighest ((c :: rest).map fun x => ⟨x.vcomp, x.node, x.channel⟩) f.maxVcomp := by
      rw [← Option.some.inj h]
      exact firstHighest_foldl _ _
    have himbalance : f.imbalance = (f.maxVcomp.value - f.minVcomp.value).toNat := by rw [← Option.some.inj h]
    refine ⟨hlow, hhigh, ?_, ?_, ?_, ?_, ?_⟩
    · rw [← Option.some.inj h]
      exact firstLowest_foldl _ _
    · rw [← Option.some.inj h]
      exact firstHighest_foldl _ _
    · rw [← Option.some.inj h]
    · rw [← Option.some.inj h]
      rfl
    · rw [himbalance, Int.toNat_of_nonneg (sub_nonneg.mpr (hhigh.le hlow.mem))]

/-- The temperature aggregates (R70). -/
theorem tempFigures_shows {sensors : List Extreme} {f : TempFigures} (h : tempFigures sensors = some f) :
    FirstLowest sensors f.minTemp ∧ FirstHighest sensors f.maxTemp := by
  cases sensors with
  | nil => exact nomatch h
  | cons t rest =>
    rw [← Option.some.inj h]
    exact ⟨firstLowest_foldl _ _, firstHighest_foldl _ _⟩

/-! ## Plausibility (R71) -/

theorem declaredCellsValid_iff {p : Profile} {cells : List ValidCell} : declaredCellsValid p cells = true ↔
    ∀ n channel, 1 ≤ n → n ≤ p.declared → 1 ≤ channel → channel ≤ p.cellCount n →
      ∃ x ∈ cells, x.node = n ∧ x.channel = channel := by
  have hrange {m k : Nat} : m ∈ List.range' 1 k ↔ 1 ≤ m ∧ m ≤ k := by
    rw [List.mem_range'_1]
    omega
  simp only [declaredCellsValid, List.all_eq_true, List.any_eq_true, Bool.and_eq_true, beq_iff_eq, hrange, and_imp]
  exact ⟨fun h n channel h1 hn => h n h1 hn channel, fun h n h1 hn channel => h n channel h1 hn⟩

section
variable {p : Profile} {cells : List ValidCell} {issueA : Option Word} {view : List HistoryEntry} {ts : Word}

theorem plausibility_incomplete (h : ¬ declaredCellsValid p cells = true) :
    plausibility p false cells issueA view = .notEvaluated .incomplete := by
  simp [plausibility, h]

theorem plausibility_noIssue (h : declaredCellsValid p cells = true) :
    plausibility p false cells none view = .notEvaluated .noIssue := by
  simp [plausibility, h]

theorem plausibility_noHistory (h : declaredCellsValid p cells = true) :
    plausibility p false cells (some ts) [] = .notEvaluated .noHistory := by
  simp [plausibility, h, place_empty]

/-- A saturated full-scale entry among those that the pack voltage was taken from (R71). -/
def Placed.full (x : Placed) : Prop := ∃ e ∈ x.used, e.vSat = true ∧ e.packMv = 1000000

theorem Placed.full_iff (x : Placed) : (x.used.any fun e => e.vSat && e.packMv == 1000000) = true ↔ x.full := by
  simp [Placed.full]

theorem plausibility_vSat (h : declaredCellsValid p cells = true) (hview : view ≠ [])
    (hfull : (place view (fun e => (e.packMv : Int)) ts).full) :
    plausibility p false cells (some ts) view = .notEvaluated .vSat := by
  rw [← Placed.full_iff] at hfull
  simp only [plausibility, h, place_empty, List.isEmpty_eq_false_iff.mpr hview, hfull, Bool.not_true,
    Bool.false_eq_true, if_false, if_true]

theorem plausibility_compared (h : declaredCellsValid p cells = true) (hview : view ≠ [])
    (hfull : ¬ (place view (fun e => (e.packMv : Int)) ts).full) :
    (let at_ := place view (fun e => (e.packMv : Int)) ts
     let total := ((cells.map (·.vc)).sum + 5) / 10
     plausibility p false cells (some ts) view =
       ⟨if p.plausibility < (at_.value - total).natAbs then .violation else .pass, .noReason, at_.value.toNat, total,
         at_.ahead, at_.aged⟩) := by
  intro at_ total
  have htotal : roundUp (cells.map (·.vc)).sum 10 = total := by
    simp only [roundUp, total]
    omega
  rw [← Placed.full_iff] at hfull
  simp only [plausibility, h, place_empty, List.isEmpty_eq_false_iff.mpr hview, hfull, htotal, Bool.not_true,
    Bool.false_eq_true, if_false, decide_eq_true_eq, Nat.cast_lt, at_]

/-- A placed voltage is not negative. -/
theorem place_packMv_nonneg (hview : view ≠ []) : 0 ≤ (place view (fun e => (e.packMv : Int)) ts).value := by
  obtain ⟨lo, -, -, -, hlo, -⟩ := place_between (fun e => (e.packMv : Int)) ts hview
  exact le_trans (Int.natCast_nonneg _) hlo

end

/-- Settles O47: the two lists are the evaluation's own, their extremes the first found along them, and the outcome
R71's reasons in their order. -/
theorem aggregatesAndPlausibilityFollowTheValidCells : Obligations.AggregatesAndPlausibilityFollowTheValidCells := by
  intro s patrol
  obtain ⟨hcount, hcells, htemps, houtcome, hreason, hpack, hcell, hahead, haged⟩ := s.evaluate_figures patrol
  refine ⟨⟨s.evaluatedCells, s.evaluatedCells_order, fun x => s.mem_evaluatedCells, hcount, ?_,
    s.mem_contributed_iff_cell patrol, fun f hf => cellFigures_shows (hcells.symm.trans hf), fun h => ?_,
    fun h hincomplete => ?_, fun h hcomplete hissue => ?_, fun ts h hcomplete hissue => ?_⟩,
    s.evaluatedTemps, s.evaluatedTemps_order, fun x => s.mem_evaluatedTemps, ?_,
    fun f hf => tempFigures_shows (htemps.symm.trans hf)⟩
  · rw [hcells, cellFigures_eq_none]
  · subst h
    exact s.evaluate_patrol
  · subst h
    rw [plausibility_incomplete (mt declaredCellsValid_iff.mp hincomplete)] at houtcome hreason
    exact ⟨houtcome, hreason⟩
  · subst h
    rw [hissue, plausibility_noIssue (declaredCellsValid_iff.mpr hcomplete)] at houtcome hreason
    exact ⟨houtcome, hreason⟩
  · subst h
    rw [← declaredCellsValid_iff] at hcomplete
    rw [hissue] at houtcome hreason hpack hcell hahead haged
    refine ⟨fun hview => ?_, fun hview hfull => ?_, fun hview hfull => ?_⟩
    · rw [hview, plausibility_noHistory hcomplete] at houtcome hreason
      exact ⟨houtcome, hreason⟩
    · rw [plausibility_vSat hcomplete hview hfull] at houtcome hreason
      exact ⟨houtcome, hreason⟩
    · rw [plausibility_compared hcomplete hview hfull] at houtcome hreason hpack hcell hahead haged
      refine ⟨hreason, ?_, hcell, hahead, haged, houtcome⟩
      rw [hpack, Int.toNat_of_nonneg (place_packMv_nonneg hview)]
  · rw [htemps, tempFigures_eq_none]

end Sys2Proof.Machine

namespace Sys2Proof.Machine

open Sys2Proof

/-! ## Kinds judged (R78, R81, R83) -/

/-- A kind's counter after a verdict (R81). -/
def Verdict.counted (n : Nat) : Verdict → Nat
  | .unjudged => n
  | .passing => 0
  | .violating => min 15 (n + 1)

/-- A verdict trips a kind: a violation that leaves the counter at its persistence or above (R81). -/
def State.tripsOn (s : State) (k : TripKind) (v : Verdict) : Bool :=
  v == .violating && decide (s.profile.persistenceOf k ≤ min 15 (s.prot.counter k + 1))

/-- A violation trips its kind where the count has reached its persistence (R81). -/
theorem State.tripsOn_violating (s : State) (k : TripKind) :
    s.tripsOn k .violating = true ↔ s.profile.persistenceOf k ≤ min 15 (s.prot.counter k + 1) := by
  simp [State.tripsOn]

/-- The TRIP alert of a kind that a violation trips, with the counter's new value (R90). -/
def State.violationAlert (s : State) (k : TripKind) (r : TripReport) : AlertKind × List Byte :=
  (.trip, tripPayload k (s.profile.actionOf k) { r with counter := min 15 (s.prot.counter k + 1) })

theorem Protection.counter_setCounter_self (p : Protection) {k : TripKind} (h : tripKindCode k < 8) (n : Nat) :
    (p.setCounter k n).counter k = n := by
  simp [Protection.counter, Protection.setCounter, h]

theorem Protection.counter_setCounter_other (p : Protection) {j k : TripKind} (h : j ≠ k) (n : Nat) :
    (p.setCounter k n).counter j = p.counter j := by
  have hcode : tripKindCode k ≠ tripKindCode j := fun e => h (tripKindCode_inj e).symm
  simp [Protection.counter, Protection.setCounter, hcode]

section
variable (s : State) (k : TripKind) (v : Verdict) (r : TripReport)

/-- The state with a violation of a kind counted (R81). -/
def State.counting : State := s.onProt fun p => p.setCounter k (min 15 (s.prot.counter k + 1))

variable {s k} in
/-- A violation that trips its kind is counted first (R81). -/
theorem State.judgeKind_trips (h : s.tripsOn k .violating = true) : s.judgeKind k .violating r =
    (s.counting k).trip k { r with counter := min 15 (s.prot.counter k + 1) } :=
  if_pos (by simpa [State.tripsOn, satAdd] using h)

variable {s k} in
/-- A violation that does not trip its kind is counted alone (R81). -/
theorem State.judgeKind_counts (h : s.tripsOn k .violating = false) : s.judgeKind k .violating r = s.counting k :=
  if_neg (by simpa [State.tripsOn, satAdd] using h)

/-- A judgement changes counters, latches and what a trip sends, and nothing else. -/
theorem State.judgeKind_eq : s.judgeKind k v r = { s with
    prot := { s.prot with
      counters := (s.judgeKind k v r).prot.counters, latches := (s.judgeKind k v r).prot.latches }
    transit := { s.transit with
      alerts := s.transit.alerts ++
        if s.tripsOn k v && (s.prot.latch k).isNone then [s.violationAlert k r] else []
      demands := s.transit.demands + if s.tripsOn k v && (s.prot.latch k).isNone then
        (if s.profile.actionOf k = .orderlyOpen then 1 else 0) else 0 } } := by
  cases v with
  | unjudged => simp [State.tripsOn]
  | passing => simp [State.judgeKind_passing, State.tripsOn, Protection.setCounter]
  | violating =>
    cases htrips : s.tripsOn k .violating with
    | false =>
      rw [State.judgeKind_counts r htrips]
      simp [State.counting, State.onProt, Protection.setCounter]
    | true =>
      have hlatch : (s.counting k).prot.latch k = s.prot.latch k := rfl
      rw [State.judgeKind_trips r htrips, State.trip_eq, hlatch]
      cases s.prot.latch k <;> rfl

theorem State.judgeKind_counter_self (h : v ≠ .unjudged → tripKindCode k < 8) :
    (s.judgeKind k v r).prot.counter k = v.counted (s.prot.counter k) := by
  cases v with
  | unjudged => rfl
  | passing => exact Protection.counter_setCounter_self _ (h nofun) _
  | violating =>
    have hset : (s.counting k).prot.counter k = min 15 (s.prot.counter k + 1) :=
      Protection.counter_setCounter_self s.prot (h nofun) _
    cases htrips : s.tripsOn k .violating with
    | false => rw [State.judgeKind_counts r htrips, hset, Verdict.counted]
    | true =>
      rw [State.judgeKind_trips r htrips, State.trip_eq]
      exact hset

theorem State.judgeKind_counter_other {j : TripKind} (h : j ≠ k) :
    (s.judgeKind k v r).prot.counter j = s.prot.counter j := by
  cases v with
  | unjudged => rfl
  | passing => exact Protection.counter_setCounter_other _ h _
  | violating =>
    have hset : (s.counting k).prot.counter j = s.prot.counter j := Protection.counter_setCounter_other s.prot h _
    cases htrips : s.tripsOn k .violating with
    | false => rw [State.judgeKind_counts r htrips, hset]
    | true =>
      rw [State.judgeKind_trips r htrips, State.trip_eq]
      exact hset

theorem State.judgeKind_latch (j : TripKind) : (s.judgeKind k v r).prot.latch j =
    if j = k ∧ s.tripsOn k v = true then some ((s.prot.latch k).getD (s.profile.actionOf k)) else s.prot.latch j := by
  cases v with
  | unjudged => simp [State.tripsOn]
  | passing => exact (if_neg (by simp [State.tripsOn])).symm
  | violating =>
    cases htrips : s.tripsOn k .violating with
    | false =>
      rw [State.judgeKind_counts r htrips, if_neg (by simp)]
      rfl
    | true =>
      rw [State.judgeKind_trips r htrips, State.trip_latch]
      simp only [and_true]
      rfl

/-- Another kind's trip stands as it stood. -/
theorem State.judgeKind_tripsOn_other {j : TripKind} (h : j ≠ k) (w : Verdict) :
    (s.judgeKind k v r).tripsOn j w = s.tripsOn j w := by
  rw [State.tripsOn, State.tripsOn, State.judgeKind_counter_other s k v r h, State.judgeKind_eq]
  rfl

theorem State.judgeKind_violationAlert_other {j : TripKind} (h : j ≠ k) (q : TripReport) :
    (s.judgeKind k v r).violationAlert j q = s.violationAlert j q := by
  rw [State.violationAlert, State.violationAlert, State.judgeKind_counter_other s k v r h, State.judgeKind_eq]
  rfl

theorem State.judgeKind_latch_other {j : TripKind} (h : j ≠ k) :
    (s.judgeKind k v r).prot.latch j = s.prot.latch j := by
  rw [State.judgeKind_latch, if_neg fun hjk => h hjk.1]

end

/-- Kinds judged in turn, each by its verdict and with its report. -/
def State.judgeKinds (s : State) (verdict : TripKind → Verdict) (report : TripKind → TripReport) (ks : List TripKind) :
    State := ks.foldl (fun s k => s.judgeKind k (verdict k) (report k)) s

/-- A kind is newly latched by its verdict: it trips, and its latch was clear (R83). -/
def State.newlyTrips (s : State) (verdict : TripKind → Verdict) (k : TripKind) : Bool :=
  s.tripsOn k (verdict k) && (s.prot.latch k).isNone

section
variable {verdict : TripKind → Verdict} (report : TripKind → TripReport) {ks : List TripKind}

/-- Each kind judged once has its counter by its verdict. -/
theorem State.judgeKinds_counter (s : State) (hks : ks.Nodup)
    (hcode : ∀ k, verdict k ≠ .unjudged → tripKindCode k < 8) (j : TripKind) :
    (s.judgeKinds verdict report ks).prot.counter j =
      if j ∈ ks then (verdict j).counted (s.prot.counter j) else s.prot.counter j := by
  induction ks generalizing s with
  | nil => rfl
  | cons k ks ih =>
    obtain ⟨hk, hks⟩ := List.nodup_cons.mp hks
    refine (ih _ hks).trans ?_
    by_cases hj : j = k
    · subst hj
      rw [if_neg hk, if_pos List.mem_cons_self, State.judgeKind_counter_self _ _ _ _ (hcode j)]
    · rw [State.judgeKind_counter_other _ _ _ _ hj]
      simp only [List.mem_cons, hj, false_or]

/-- Each kind judged once is latched where its verdict trips it. -/
theorem State.judgeKinds_latch (s : State) (hks : ks.Nodup) (j : TripKind) :
    (s.judgeKinds verdict report ks).prot.latch j =
      if j ∈ ks ∧ s.tripsOn j (verdict j) = true then some ((s.prot.latch j).getD (s.profile.actionOf j))
      else s.prot.latch j := by
  induction ks generalizing s with
  | nil => simp [State.judgeKinds]
  | cons k ks ih =>
    obtain ⟨hk, hks⟩ := List.nodup_cons.mp hks
    refine (ih _ hks).trans ?_
    have hprofile : (s.judgeKind k (verdict k) (report k)).profile = s.profile := by rw [State.judgeKind_eq]; rfl
    by_cases hj : j = k
    · subst hj
      rw [if_neg fun h => hk h.1, State.judgeKind_latch]
      simp
    · rw [State.judgeKind_tripsOn_other _ _ _ _ hj, State.judgeKind_latch_other _ _ _ _ hj, hprofile]
      simp only [List.mem_cons, hj, false_or]

/-- Kinds judged in turn change counters, latches and what the trips of the newly latched send, and nothing else. -/
theorem State.judgeKinds_eq (s : State) (hks : ks.Nodup) : s.judgeKinds verdict report ks = { s with
    prot := { s.prot with
      counters := (s.judgeKinds verdict report ks).prot.counters
      latches := (s.judgeKinds verdict report ks).prot.latches }
    transit := { s.transit with
      alerts := s.transit.alerts ++ (ks.filter (s.newlyTrips verdict)).map fun k => s.violationAlert k (report k)
      demands := s.transit.demands +
        ((ks.filter (s.newlyTrips verdict)).filter fun k => s.profile.actionOf k == .orderlyOpen).length } } := by
  induction ks generalizing s with
  | nil => simp [State.judgeKinds]
  | cons k ks ih =>
    obtain ⟨hk, hks⟩ := List.nodup_cons.mp hks
    obtain ⟨u, hu⟩ : ∃ u, u = s.judgeKind k (verdict k) (report k) := ⟨_, rfl⟩
    have hform := State.judgeKind_eq s k (verdict k) (report k)
    have hfold : s.judgeKinds verdict report (k :: ks) = u.judgeKinds verdict report ks := by rw [hu]; rfl
    have hrest (j : TripKind) (hj : j ∈ ks) : j ≠ k := fun e => hk (e ▸ hj)
    have hnew : ks.filter (u.newlyTrips verdict) = ks.filter (s.newlyTrips verdict) := by
      refine List.filter_congr fun j hj => ?_
      rw [State.newlyTrips, State.newlyTrips, hu, State.judgeKind_tripsOn_other _ _ _ _ (hrest j hj),
        State.judgeKind_latch_other _ _ _ _ (hrest j hj)]
    have halerts : (ks.filter (s.newlyTrips verdict)).map (fun k => u.violationAlert k (report k)) =
        (ks.filter (s.newlyTrips verdict)).map fun k => s.violationAlert k (report k) := by
      refine List.map_congr_left fun j hj => ?_
      rw [hu, State.judgeKind_violationAlert_other _ _ _ _ (hrest j (List.mem_of_mem_filter hj))]
    have hprofile : u.profile = s.profile := by rw [hu, hform]; rfl
    have hnewly : (s.tripsOn k (verdict k) && (s.prot.latch k).isNone) = s.newlyTrips verdict k := rfl
    rw [← hu, hnewly] at hform
    rw [hfold]
    refine (ih u hks).trans ?_
    rw [hnew, halerts, hprofile]
    generalize (u.judgeKinds verdict report ks).prot.counters = counters
    generalize (u.judgeKinds verdict report ks).prot.latches = latches
    rw [hform]
    cases hk : s.newlyTrips verdict k
    · simp [hk]
    · by_cases horderly : s.profile.actionOf k = .orderlyOpen <;>
        simp [hk, horderly, -State.profile_eq, Nat.add_assoc, Nat.add_comm 1]

end

theorem allTripKinds_nodup : allTripKinds.Nodup := by decide

theorem mem_allTripKinds (k : TripKind) : k ∈ allTripKinds := by cases k <;> decide

/-! ## The end of an event of the Protection Monitor (R85) -/

/-- An event that sends no edge of its own ends with the gate's change on its way (R85). -/
theorem State.publish_gateFollows {y old : State} (h : y.transit.killEdges = old.transit.killEdges) :
    old.gateFollows (y.publish old) := by
  have hgate : (y.publish old).killGate = y.killGate := by rw [State.publish_eq]; rfl
  refine ⟨State.killGate_iff _, ?_⟩
  rw [hgate, ← h, State.publish_eq]
  refine congrArg (y.transit.killEdges ++ ·) ?_
  by_cases hsame : y.killGate = old.killGate
  · rw [if_pos hsame, if_pos hsame.symm]
  · rw [if_neg hsame, if_neg (Ne.symm hsame)]

section
variable {verdict : TripKind → Verdict} {report : TripKind → TripReport} {s u y : State}

/-- Of the kinds judged, the event shows what those newly latched send (R83, R85, R90). -/
theorem State.publish_tripsShown (hlatch : u.prot.latches = s.prot.latches) (htransit : u.transit = s.transit)
    (hprofile : u.profile = s.profile)
    (hprot : y.prot.latches = (u.judgeKinds verdict report allTripKinds).prot.latches)
    (hsent : y.transit = (u.judgeKinds verdict report allTripKinds).transit) :
    s.tripsShown (y.publish s) fun k => { report k with counter := min 15 (u.prot.counter k + 1) } := by
  have hkept (k : TripKind) : u.prot.latch k = s.prot.latch k := by rw [Protection.latch, Protection.latch, hlatch]
  have hset (k : TripKind) : (y.publish s).prot.latch k =
      (u.judgeKinds verdict report allTripKinds).prot.latch k := by
    rw [State.publish_prot, Protection.latch, Protection.latch, hprot]
  have hnew : (allTripKinds.filter fun k => s.prot.latch k == none && (y.publish s).prot.latch k != none) =
      allTripKinds.filter (u.newlyTrips verdict) := by
    refine List.filter_congr fun k hk => ?_
    rw [hset, State.judgeKinds_latch report u allTripKinds_nodup, State.newlyTrips, ← hkept]
    cases htrips : u.tripsOn k (verdict k) <;> cases u.prot.latch k <;> simp [hk]
  have hform := State.judgeKinds_eq (verdict := verdict) report u allTripKinds_nodup
  rw [State.tripsShown, hnew]
  refine ⟨⟨_, ?_, .refl _⟩, ?_, State.publish_gateFollows ?_⟩
  · rw [State.publish_transitAlerts, hsent, hform, ← htransit, ← hprofile]
    rfl
  · rw [State.publish_transitDemands, hsent, hform, ← htransit, ← hprofile]
  · rw [hsent, hform, ← htransit]

end

/-! ## An evaluation judged (R78 to R81, R84) -/

/-- The verdict on a figure, UNJUDGED where it is absent (R79). -/
def figureVerdict (violated : Extreme → Bool) (figure : Option Extreme) : Verdict :=
  figure.elim .unjudged fun x => verdictOf (violated x)

/-- The verdict on each kind of an evaluation record (R78 to R80). -/
def Aggregate.verdict (a : Aggregate) (p : Profile) : TripKind → Verdict
  | .cellOv => figureVerdict (fun x => decide ((p.cellOv : Int) < x.value)) (a.cells.map (·.maxVc))
  | .cellUv => figureVerdict (fun x => decide (x.value < (p.cellUv : Int))) (a.cells.map (·.minVcomp))
  | .cellUvAbs => figureVerdict (fun x => decide (x.value < (p.cellUvAbs : Int))) (a.cells.map (·.minVc))
  | .tempHigh => figureVerdict (fun x => decide (p.tempHigh < x.value)) (a.temps.map (·.maxTemp))
  | .tempLow => figureVerdict (fun x => decide (x.value < p.tempLow)) (a.temps.map (·.minTemp))
  | .plausibility => plausVerdict a.outcome
  | .currentDischarge | .currentCharge | .supervisionLoss | .safeLine | .tamper => .unjudged

theorem verdictOf_violating (b : Bool) : verdictOf b = .violating ↔ b = true := by cases b <;> simp [verdictOf]

theorem verdictOf_ne_unjudged (b : Bool) : verdictOf b ≠ .unjudged := by cases b <;> simp [verdictOf]

theorem figureVerdict_violating {α : Type} (violated : Extreme → Bool) (o : Option α) (g : α → Extreme) :
    figureVerdict violated (o.map g) = .violating ↔ ∃ c, o = some c ∧ violated (g c) = true := by
  cases o <;> simp [figureVerdict, verdictOf_violating]

theorem figureVerdict_unjudged {α : Type} (violated : Extreme → Bool) (o : Option α) (g : α → Extreme) :
    figureVerdict violated (o.map g) = .unjudged ↔ o = none := by
  cases o <;> simp [figureVerdict, verdictOf_ne_unjudged]

theorem Aggregate.verdict_violating (a : Aggregate) (p : Profile) (k : TripKind) :
    a.verdict p k = .violating ↔ p.violates a k := by
  cases k
  case plausibility =>
    rw [Aggregate.verdict, Profile.violates]
    cases a.outcome <;> simp [plausVerdict]
  all_goals simp [Aggregate.verdict, Profile.violates, figureVerdict_violating]

theorem Aggregate.verdict_unjudged (a : Aggregate) (p : Profile) (k : TripKind) :
    a.verdict p k = .unjudged ↔ a.unjudged k := by
  cases k
  case plausibility =>
    rw [Aggregate.verdict, Aggregate.unjudged]
    cases a.outcome <;> simp [plausVerdict]
  all_goals simp [Aggregate.verdict, Aggregate.unjudged, figureVerdict_unjudged]

theorem Aggregate.verdict_passing (a : Aggregate) (p : Profile) {k : TripKind} (hv : ¬ p.violates a k)
    (hj : ¬ a.unjudged k) : a.verdict p k = .passing := by
  rw [← a.verdict_violating p k] at hv
  rw [← a.verdict_unjudged p k] at hj
  cases hverdict : a.verdict p k with
  | violating => exact absurd hverdict hv
  | passing => rfl
  | unjudged => exact absurd hverdict hj

/-- The kinds that an evaluation judges have counters. -/
theorem Aggregate.verdict_code (a : Aggregate) (p : Profile) (k : TripKind) (h : a.verdict p k ≠ .unjudged) :
    tripKindCode k < 8 := by
  cases k
  case supervisionLoss | safeLine | tamper => exact absurd rfl h
  all_goals decide

section
variable (s : State) (a : Aggregate) (k : TripKind) (limit : Int)

/-- A figure beyond its limit is judged as such, with the report that names it (R79, R90). -/
theorem State.judgeFigure_eq (high : Bool) {α : Type} (o : Option α) (g : α → Extreme) {r : TripReport}
    (h : ∀ c, o = some c → r = ⟨0, 0, (g c).node, (g c).channel, (g c).value, limit, a.frameNumber.toNat⟩) :
    s.judgeFigure a.frameNumber k (o.map g) limit high = s.judgeKind k (figureVerdict (fun x =>
      if high then decide (limit < x.value) else decide (x.value < limit)) (o.map g)) r := by
  cases o with
  | none => rfl
  | some c =>
    rw [h c rfl]
    rfl

/-- An evaluation's record judges every kind by its verdict, and then renews the supervision record (R84). -/
theorem State.judgeEvaluation_eq : s.judgeEvaluation a =
    (s.judgeKinds (a.verdict s.profile) (a.report s.profile 0) allTripKinds).onProt fun q => { q with
      stale := false, stalenessTimer := some (1000 * s.profile.supervision), lastEvaluation := some s.now } := by
  have hnow : (s.judgeKinds (a.verdict s.profile) (a.report s.profile 0) allTripKinds).now = s.now := by
    rw [State.judgeKinds_eq _ _ allTripKinds_nodup]
    rfl
  rw [← hnow, State.judgeEvaluation]
  dsimp only
  rw [State.judgeFigure_eq (k := .cellOv) (r := a.report s.profile 0 .cellOv)
      (h := fun c hc => by simp [Aggregate.report, hc]),
    State.judgeFigure_eq (k := .cellUv) (r := a.report s.profile 0 .cellUv)
      (h := fun c hc => by simp [Aggregate.report, hc]),
    State.judgeFigure_eq (k := .cellUvAbs) (r := a.report s.profile 0 .cellUvAbs)
      (h := fun c hc => by simp [Aggregate.report, hc]),
    State.judgeFigure_eq (k := .tempHigh) (r := a.report s.profile 0 .tempHigh)
      (h := fun c hc => by simp [Aggregate.report, hc]),
    State.judgeFigure_eq (k := .tempLow) (r := a.report s.profile 0 .tempLow)
      (h := fun c hc => by simp [Aggregate.report, hc])]
  rfl

end

end Sys2Proof.Machine

namespace Sys2Proof.Machine

open Sys2Proof

/-! ## The event of an ALIGN at the list's last index (R35, R61, R72, R78) -/

/-- A report's counter is the one it is made with. -/
theorem Aggregate.report_counter (a : Aggregate) (p : Profile) (counter : Nat) (k : TripKind) :
    { a.report p 0 k with counter := counter } = a.report p counter k := by
  unfold Aggregate.report
  dsimp only
  split <;> rfl

/-- Where no latch has changed, no alert and no demand is sent. -/
theorem State.tripsShown.unchanged {s t : State} {report : TripKind → TripReport} (h : s.tripsShown t report)
    (hlatch : ∀ k, t.prot.latch k = s.prot.latch k) :
    t.transit.alerts = s.transit.alerts ∧ t.transit.demands = s.transit.demands := by
  have hnone : (allTripKinds.filter fun k => s.prot.latch k == none && t.prot.latch k != none) = [] := by
    refine List.filter_eq_nil_iff.mpr fun k _ => ?_
    rw [hlatch]
    cases s.prot.latch k <;> simp
  rw [State.tripsShown, hnone] at h
  obtain ⟨⟨added, halerts, hadded⟩, hdemands, -⟩ := h
  rw [List.map_nil, List.perm_nil] at hadded
  rw [hadded, List.append_nil] at halerts
  exact ⟨halerts, hdemands⟩

/-! Time passing moves the staleness timer of the Protection Monitor alone. -/

theorem State.elapse_counters (s : State) (d : Nat) : (s.elapse d).prot.counters = s.prot.counters := by
  unfold State.elapse; split <;> rfl

theorem State.elapse_tamperHeld (s : State) (d : Nat) : (s.elapse d).prot.tamperHeld = s.prot.tamperHeld := by
  unfold State.elapse; split <;> rfl

section
variable {s : State} {f : Frame} {r : Nat}

/-- The list stands at the ALIGN behind a WAIT, its evaluation entered in the Frame Table (R61). -/
def State.alignEvaluated (s : State) (f : Frame) (r : Nat) : State :=
  { s.waitOver f r with table := ((s.elapse r).evaluate false).1 }

theorem State.alignEvaluated_counter (s : State) (f : Frame) (r : Nat) (k : TripKind) :
    (s.alignEvaluated f r).prot.counter k = s.prot.counter k :=
  congrArg (fun v : Vector Nat 8 => (v[tripKindCode k]?).getD 0) (s.elapse_counters r)

/-- The Protection Monitor has judged every kind on the evaluation's record (R78). -/
def State.alignJudged (s : State) (f : Frame) (r : Nat) : State :=
  (s.alignEvaluated f r).judgeKinds (((s.elapse r).evaluate false).2.verdict s.profile)
    (((s.elapse r).evaluate false).2.report s.profile 0) allTripKinds

/-- The supervision record is renewed and the report given: the list stands behind the ALIGN (R61, R84). -/
def State.alignOver (s : State) (f : Frame) (r : Nat) (phase : ListPhase) : State := { s.alignJudged f r with
  table := { ((s.elapse r).evaluate false).1 with align := .idle }
  prot := { (s.alignJudged f r).prot with
    stale := false, stalenessTimer := some (1000 * s.profile.supervision)
    lastEvaluation := some (s.elapse r).clock.packTime }
  seq := { (s.elapse r).seq with
    elementTimer := none, frame := some { f with index := f.index + 2, phase := phase } } }

/-- The judgement leaves every other block, and the rest of the Protection Monitor's. -/
theorem State.alignJudged_form (s : State) (f : Frame) (r : Nat) : ∃ counters latches alerts demands,
    s.alignJudged f r = { s.alignEvaluated f r with
      prot := { (s.alignEvaluated f r).prot with counters := counters, latches := latches }
      transit := { (s.alignEvaluated f r).transit with alerts := alerts, demands := demands } } :=
  ⟨_, _, _, _, State.judgeKinds_eq _ _ allTripKinds_nodup⟩

/-- ALIGN behind a WAIT: the evaluation, its judgement and its report are one piece of work. -/
theorem State.waitOver_runAlign (hk : f.kind ≠ .patrol) :
    (s.waitOver f r).runAlign { f with index := f.index + 1, phase := .start } = s.alignOver f r .start := by
  have hpatrol : (f.kind == .patrol) = false := beq_eq_false_iff_ne.mpr hk
  have heval : (s.waitOver f r).evaluate false = (s.elapse r).evaluate false := rfl
  have hprofile : (s.alignEvaluated f r).profile = s.profile := State.elapse_profile s r
  have hentered : ((s.waitOver f r).onTable fun _ => ((s.elapse r).evaluate false).1) = s.alignEvaluated f r := rfl
  rw [State.runAlign]
  dsimp only
  rw [hpatrol, heval, if_neg (by decide), hentered, State.judgeEvaluation_eq, hprofile]
  obtain ⟨counters, latches, alerts, demands, hform⟩ := s.alignJudged_form f r
  rw [State.alignOver]
  rw [State.alignJudged] at hform ⊢
  rw [hform]
  rfl

/-- The whole event: the list ends behind the ALIGN, and nothing follows while the frame's allocation is open. -/
theorem exec_waitExpiry_align (h : s.waits f r) (hl : f.index + 1 = f.last) (hk : f.kind ≠ .patrol)
    (hres : f.result = .asked) (hkind : (s.element f.slot f.last).kind = 6)
    (htrap : (s.element f.slot f.last).trapReason = 0) :
    exec .waitExpiry s = .next ((s.alignOver f r .ended).publish s) := by
  have helement : (s.waitOver f r).element f.slot (f.index + 1) = s.element f.slot f.last := by
    rw [hl]
    exact congrArg elementOf (State.elementBytes_of_pool (State.elapse_pool s r) f.slot f.last)
  have hfirst : (s.waitOver f r).settleStep = some (s.alignOver f r .start) := by
    rw [State.waitOver_settleStep h, ← State.waitOver_runAlign hk]
    exact congrArg some (State.runElement_align (g := { f with index := f.index + 1, phase := .start }) hl.le
      ((congrArg Element.kind helement).trans hkind) ((congrArg Element.trapReason helement).trans htrap))
  have hsecond : (s.alignOver f r .start).settleStep = some (s.alignOver f r .ended) := by
    rw [State.settleStep, show (s.alignOver f r .start).seq.frame =
      some { f with index := f.index + 2, phase := .start } from rfl]
    refine (if_pos ⟨rfl, rfl⟩).trans (congrArg some ?_)
    rw [State.runElement, if_pos (show f.last < f.index + 2 by omega)]
    rfl
  have hidle : (s.alignOver f r .ended).workIdle := by
    have hchain : (s.alignOver f r .ended).chain = (s.waitOver f r).chain := by
      obtain ⟨counters, latches, alerts, demands, hform⟩ := s.alignJudged_form f r
      rw [State.alignOver, hform]
      rfl
    exact ⟨by simp [State.listIdle, State.alignOver, hres], by rw [hchain]; exact State.waitOver_engine h⟩
  rw [exec_waitExpiry h, State.settle_of_two hfirst hsecond (State.settleStep_of_workIdle hidle)]

/-- Each kind's counter and latch by its verdict on the record (R81, R83). -/
theorem State.alignOver_kind (s : State) (f : Frame) (r : Nat) (phase : ListPhase) (k : TripKind) :
    (let verdict := ((s.elapse r).evaluate false).2.verdict s.profile k
     (s.alignOver f r phase).prot.counter k = verdict.counted (s.prot.counter k) ∧
     (s.alignOver f r phase).prot.latch k = if s.tripsOn k verdict = true then
       some ((s.prot.latch k).getD (s.profile.actionOf k)) else s.prot.latch k) := by
  intro verdict
  have hcounter := s.alignEvaluated_counter f r k
  have hlatch : (s.alignEvaluated f r).prot.latch k = s.prot.latch k :=
    congrArg (fun l : Vector (Option TripAction) 11 => (l[tripKindCode k]?).getD none) (State.elapse_latches s r)
  have hprofile : (s.alignEvaluated f r).profile = s.profile := State.elapse_profile s r
  have htrips : (s.alignEvaluated f r).tripsOn k verdict = s.tripsOn k verdict := by
    rw [State.tripsOn, State.tripsOn, hcounter, hprofile]
  constructor
  · refine (State.judgeKinds_counter _ _ allTripKinds_nodup (Aggregate.verdict_code _ _) k).trans ?_
    rw [if_pos (mem_allTripKinds k), hcounter]
  · refine (State.judgeKinds_latch _ _ allTripKinds_nodup k).trans ?_
    rw [htrips, hlatch, hprofile]
    simp only [mem_allTripKinds, true_and]

end

/-- Settles O43: the judgement is that of each kind by its verdict on the record, every kind once, and the alerts,
demands and the gate are those of the kinds that it newly latches. -/
theorem alignEvaluationIsJudged : Obligations.AlignEvaluationIsJudged := by
  intro f r s hw hl hk hres hkind htrap u p a
  obtain ⟨y, hy⟩ : ∃ y, y = s.alignOver f r .ended := ⟨_, rfl⟩
  obtain ⟨counters, latches, alerts, demands, hform⟩ := s.alignJudged_form f r
  have hexec := exec_waitExpiry_align hw hl hk hres hkind htrap
  rw [← hy] at hexec
  have hkinds (k : TripKind) : (y.publish s).prot.counter k = (a.verdict p k).counted (s.prot.counter k) ∧
      (y.publish s).prot.latch k = if s.tripsOn k (a.verdict p k) = true then
        some ((s.prot.latch k).getD (p.actionOf k)) else s.prot.latch k := by
    rw [State.publish_prot, hy]
    exact s.alignOver_kind f r .ended k
  have htable : y.table = { (u.evaluate false).1 with align := .idle } := by rw [hy]; rfl
  have hcount : (u.evaluate false).1.evalCount = s.table.evalCount + 1 :=
    congrArg (fun t => t.evalCount + 1) (State.elapse_table s r)
  have hshown : s.tripsShown (y.publish s) fun k => a.report p (min 15 (s.prot.counter k + 1)) k := by
    have hjudged := State.publish_tripsShown (s := s) (u := s.alignEvaluated f r) (y := y)
      (verdict := a.verdict p) (report := a.report p 0) (State.elapse_latches s r) (State.elapse_transit s r)
      (State.elapse_profile s r) (by rw [hy]; rfl) (by rw [hy]; rfl)
    simp only [State.alignEvaluated_counter, Aggregate.report_counter] at hjudged
    exact hjudged
  refine ⟨y.publish s, hexec, ?_, ?_, State.elapse_frameNumber s r, hcount, ?_, ?_, fun k hv => ?_,
    fun k hv hj => ?_, fun k hj => ?_, ?_, ?_, ?_, ?_, hshown.unchanged, hshown, ?_, ?_⟩
  · rw [State.publish_table, htable]
  · rw [State.publish_table, htable]
    rfl
  · rw [State.publish_table, htable]
    exact hcount
  · rw [State.publish_seq, hy]
    rfl
  · obtain ⟨hcounter, hlatch⟩ := hkinds k
    rw [(a.verdict_violating p k).mpr hv] at hcounter hlatch
    simp only [State.tripsOn_violating] at hlatch
    exact ⟨hcounter, hlatch⟩
  · obtain ⟨hcounter, hlatch⟩ := hkinds k
    rw [a.verdict_passing p hv hj] at hcounter hlatch
    exact ⟨hcounter, hlatch⟩
  · obtain ⟨hcounter, hlatch⟩ := hkinds k
    rw [(a.verdict_unjudged p k).mpr hj] at hcounter hlatch
    exact ⟨hcounter, hlatch⟩
  · rw [State.publish_prot, hy]
    rfl
  · rw [State.publish_prot, hy]
    rfl
  · rw [State.publish_prot, hy]
    rfl
  · rw [State.publish_prot, hy, State.alignOver, hform]
    exact s.elapse_tamperHeld r
  · rw [SamePoolButCount, State.publish_pool, hy, State.alignOver, hform]
    rfl
  · rw [sameExcept_iff, State.publish_eq, hy, State.alignOver, hform]
    simp [State.alignEvaluated, State.waitOver, u]

end Sys2Proof.Machine
